-- ==== Sys2Proof/Word.lean ====
section
/-!
DEFINITION. The word types of the EW-412: a byte on the control link and the 32-bit plant clock.
Quantities (litres, millimetres, seconds) are plain numbers; only what the manual treats as bits is a bit vector.
-/
namespace Sys2Proof

/-- One byte of a frame (00_scope.md, Electrical summary: 8 data bits). -/
abbrev Byte := BitVec 8

/-- The plant clock: tenths of a second since the latest start, a 32-bit count (R180). -/
abbrev Clock := BitVec 32

end Sys2Proof
end

