-- ==== Sys2Proof/Syntax.lean ====
section
/-!
DEFINITION. The commands of the EW-412: one constructor for each row of spec/opcode_table.json, with the operands
the row's event carries, and the names of the plant items that operands name.

A host request carries its tag and its payload bytes, as they stand in the well-formed frame that brought it; the
request's own meaning reads the payload by the layouts of R184 to R187.
-/
namespace Sys2Proof

/-- A tank T1 to T12, counted from 0: tank T(n+1) has value n. -/
abbrev TankIx := Fin 12

/-- The six valve functions of a tank (R53), in the order of their function index 1 to 6. -/
inductive ValveFn
  | intake | suctionA | suctionB | fillA | fillB | supply
  deriving DecidableEq, Repr

/-- The two watermakers WM1 and WM2. -/
inductive Watermaker
  | wm1 | wm2
  deriving DecidableEq, Repr

/-- The two transfer channels TC1 (header A, pump TP1) and TC2 (header B, pump TP2); a pump is named by its
channel. -/
inductive Channel
  | tc1 | tc2
  deriving DecidableEq, Repr

/-- A producer of product water (R71). -/
inductive Source
  | wm1 | wm2 | shore
  deriving DecidableEq, Repr

/-- One of the 77 valves (R53). -/
inductive Valve
  /-- T<n>-IN, -SA, -SB, -FA, -FB, -SU -/
  | tank (t : TankIx) (f : ValveFn)
  /-- DV1 or DV2 -/
  | diverter (w : Watermaker)
  /-- SH -/
  | shore
  /-- OA or OB -/
  | overboard (c : Channel)
  deriving DecidableEq, Repr

/-- What a level converter answers to a sample request (R30): its raw code, and whether it comes too late, as the answer to a
request that has expired (R30) or that a channel restart or a removal has discarded (R26; DESIGN CHOICE, assumption 47). -/
structure ConverterAnswer where
  code : BitVec 16
  late : Bool
  deriving DecidableEq, Repr

/-- The commands, one constructor per row of spec/opcode_table.json, in the table's order. -/
inductive Instr
  /-- TANK_DEFINE (R6): Host request that gives a tank a first definition or a redefinition. -/
  | tankDefine (tag : Byte) (payload : List Byte)
  /-- TANK_REMOVE (R8): Host request that makes a defined tank UNDEFINED and deletes its gauge channel. -/
  | tankRemove (tag : Byte) (payload : List Byte)
  /-- STRAP_LOAD (R9): Host request that loads a tank's strapping table, settles its thresholds and restarts its channel. -/
  | strapLoad (tag : Byte) (payload : List Byte)
  /-- TANK_SERVICE (R10): Host request that puts a tank IN_SERVICE or ISOLATES it. -/
  | tankService (tag : Byte) (payload : List Byte)
  /-- TANK_CLASS (R11): Host request that sets a tank's class and marks conflicting entries as ending. -/
  | tankClass (tag : Byte) (payload : List Byte)
  /-- TANK_LIMITS (R18): Host request that sets a tank's threshold values and hysteresis and re-evaluates the threshold states. -/
  | tankLimits (tag : Byte) (payload : List Byte)
  /-- TANK_NOTICE (R19): Host request that replaces a tank's twelve notice and wake enables. -/
  | tankNotice (tag : Byte) (payload : List Byte)
  /-- BALANCE_SET (R23): Host request that sets M_lim and M_hys and tells the Transfer Engine. -/
  | balanceSet (tag : Byte) (payload : List Byte)
  /-- TANK_GET (R24): Host request that returns a tank record. -/
  | tankGet (tag : Byte) (payload : List Byte)
  /-- GAUGE_READMIT (R47): Host request that returns a FAILED gauge channel to SETTLING and makes the tank's published values absent. -/
  | gaugeReadmit (tag : Byte) (payload : List Byte)
  /-- GAUGE_GET (R48): Host request that returns a gauge channel and the attitude record. -/
  | gaugeGet (tag : Byte) (payload : List Byte)
  /-- VALVE_SET (R61): Host request in COMMISSION that moves a valve under host command. -/
  | valveSet (tag : Byte) (payload : List Byte)
  /-- VALVE_RESET (R60): Host request that clears a valve fault and drives the valve to its safe end. -/
  | valveReset (tag : Byte) (payload : List Byte)
  /-- VALVE_GET (R63): Host request that returns a valve record or a pump record. -/
  | valveGet (tag : Byte) (payload : List Byte)
  /-- ACTUATOR_SET (R64): Host request that sets the valve travel timeout. -/
  | actuatorSet (tag : Byte) (payload : List Byte)
  /-- PUMP_RESET (R69): Host request that clears a pump fault and makes the pump STOPPED. -/
  | pumpReset (tag : Byte) (payload : List Byte)
  /-- SOURCE_SET (R95): Host request that sets the eight settings of a source and causes new decisions. -/
  | sourceSet (tag : Byte) (payload : List Byte)
  /-- SOURCE_PERMIT (R77): Host request that sets a watermaker's host permit switch and, on GIVE, clears its inhibited mark. -/
  | sourcePermit (tag : Byte) (payload : List Byte)
  /-- SOURCE_GET (R97): Host request that returns a source record and the product-main record. -/
  | sourceGet (tag : Byte) (payload : List Byte)
  /-- RULE_SET (R79): Host request that writes an acceptance rule and causes new decisions for every source. -/
  | ruleSet (tag : Byte) (payload : List Byte)
  /-- RULE_GET (R79): Host request that returns an acceptance rule. -/
  | ruleGet (tag : Byte) (payload : List Byte)
  /-- SHORE_OPEN (R91): Host request in HARBOUR that begins a shore episode and takes the shore decision. -/
  | shoreOpen (tag : Byte) (payload : List Byte)
  /-- SHORE_CLOSE (R92): Host request that ends the shore episode with end reason HOST. -/
  | shoreClose (tag : Byte) (payload : List Byte)
  /-- PROBE_CHECK (R93): Host request that switches a source's probe to its reference cell for 20 s. -/
  | probeCheck (tag : Byte) (payload : List Byte)
  /-- ORDER_SUBMIT (R102): Host request that places a new PENDING order in the store and runs the arbiter. -/
  | orderSubmit (tag : Byte) (payload : List Byte)
  /-- ORDER_CANCEL (R108): Host request that cancels an order, at once or through its channel. -/
  | orderCancel (tag : Byte) (payload : List Byte)
  /-- STOP_ALL (R109): Host request that cancels every live order, oldest first. -/
  | stopAll (tag : Byte) (payload : List Byte)
  /-- ORDER_RESUME (R110): Host request that returns a HELD order to PENDING. -/
  | orderResume (tag : Byte) (payload : List Byte)
  /-- ORDER_REMOVE (R111): Host request that frees the slot of a finished order. -/
  | orderRemove (tag : Byte) (payload : List Byte)
  /-- ORDER_GET (R112): Host request that returns an order record with its legs. -/
  | orderGet (tag : Byte) (payload : List Byte)
  /-- ORDER_LIST (R113): Host request that lists the orders in the store in age order. -/
  | orderList (tag : Byte) (payload : List Byte)
  /-- CHANNEL_SET (R118): Host request that sets a channel's meter factor and no-flow time. -/
  | channelSet (tag : Byte) (payload : List Byte)
  /-- CHANNEL_OUT (R138): Host request that takes a transfer channel out of service, stopping its run for CHANNEL_OUT. -/
  | channelOut (tag : Byte) (payload : List Byte)
  /-- CHANNEL_IN (R139): Host request that returns an OUT channel to IDLE and runs the arbiter. -/
  | channelIn (tag : Byte) (payload : List Byte)
  /-- CHANNEL_GET (R142): Host request that returns a channel record. -/
  | channelGet (tag : Byte) (payload : List Byte)
  /-- DUTY_SET (R155): Host request that replaces the duty list, after which the Supply Selector acts on its state. -/
  | dutySet (tag : Byte) (payload : List Byte)
  /-- SUPPLY_ADVANCE (R154): Host request that begins a soft changeover to the next eligible supply tank. -/
  | supplyAdvance (tag : Byte) (payload : List Byte)
  /-- SUPPLY_GET (R156): Host request that returns the duty list, tank eligibility and the supply record. -/
  | supplyGet (tag : Byte) (payload : List Byte)
  /-- MODE_SET (R160): Host request that changes the plant mode or sets a wake target. -/
  | modeSet (tag : Byte) (payload : List Byte)
  /-- SUPERVISION_SET (R171): Host request that sets the supervision period and kind. -/
  | supervisionSet (tag : Byte) (payload : List Byte)
  /-- HEARTBEAT (R172): Host request that restarts the supervision timer, or counts as an early lapse under WINDOW. -/
  | heartbeat (tag : Byte) (payload : List Byte)
  /-- STATUS_GET (R178): Host request, accepted even in START, that returns the plant summary. -/
  | statusGet (tag : Byte) (payload : List Byte)
  /-- FETCH_REPORTS (R181): Host request that removes up to 8 reports from the queue, returns them and clears the overflow mark. -/
  | fetchReports (tag : Byte) (payload : List Byte)
  /-- REPORT_ENABLE (R182): Host request that replaces the ten report kind enables. -/
  | reportEnable (tag : Byte) (payload : List Byte)
  /-- RESTART (R179): Host request that asks the part to restart once its reply has been transmitted. -/
  | restart (tag : Byte) (payload : List Byte)
  /-- SETTINGS_SAVE (R189): Host request that copies the working settings into a save record and begins the write to storage. -/
  | settingsSave (tag : Byte) (payload : List Byte)
  /-- COMMISSION_END (R190): Host request that clears the commissioning flag, begins a save and enters CONFIGURE. -/
  | commissionEnd (tag : Byte) (payload : List Byte)
  /-- UNKNOWN_KIND (R176): A well-formed request whose kind code has no entry in the table, answered UNKNOWN_KIND. -/
  | unknownKind (kind tag : Byte) (payload : List Byte)
  /-- LINK_BUSY (R175): A well-formed frame that arrives while the intake holds 4 requests, refused with a LINK_BUSY reply or discarded. -/
  | linkBusy (kind tag : Byte) (payload : List Byte)
  /-- FRAME_DISCARDED (R173): A received frame whose CRC disagrees, or whose length byte is out of range, is discarded without reply. -/
  | frameDiscarded (bytes : List Byte)
  /-- RECEIVE_GAP (R173): A gap of more than 20 ms between received bytes discards the partial frame. -/
  | receiveGap (before : List Byte) (next : Byte)
  /-- FRAMING_ERROR (R173): A byte received with a framing error is dropped and discards the partial frame. -/
  | framingError (before : List Byte)
  /-- RXD_BREAK (R173): A break on RXD discards the partial frame and returns the framer to HUNT. -/
  | rxdBreak (before : List Byte)
  /-- REPLY_SENT (R177): The last byte of a reply leaves TXD; the reply leaves the sequence, its request leaves the intake, and the next reply is sent. -/
  | replySent
  /-- POWER_UP (R191): The supply rises; every block takes its reset values and the plant enters START. -/
  | powerUp
  /-- RESETN_HELD (R191): RESETN goes low; the part is held with its outputs off and no valve driven. -/
  | resetnHeld
  /-- RESET_LINE (R191): RESETN returns high after at least 10 µs low and a restart begins. -/
  | resetLine
  /-- RESTART_REQUEST (R179): Once the RESTART reply and every reply ahead of it have been sent, the part restarts by itself. -/
  | restartRequest
  /-- LOAD_END (R192): The settings load ends; the blocks take their settings and the first mode is entered. -/
  | loadEnd
  /-- SAVE_END (R189): The write of a save ends; the save is no longer in flight, the store-valid mark is set and SAVED is reported. -/
  | saveEnd
  /-- SAMPLE_REQUEST (R29): A channel's next scan time is reached; it sends a sample request and sets its next scan time. -/
  | sampleRequest (tank : TankIx)
  /-- SAMPLE_ANSWER (R30): A converter answer is taken as a sample, converted, judged, filtered, state-checked and published; an answer
  to an expired or discarded request is ignored (R26, R30). -/
  | sampleAnswer (tank : TankIx) (answer : ConverterAnswer)
  /-- SAMPLE_TIMEOUT (R30): 100 ms pass without an answer and the channel takes a converter fault. -/
  | sampleTimeout (tank : TankIx)
  /-- ATTITUDE_SAMPLE (R32): An inclinometer sample is clamped and stored, and the attitude status becomes LIVE. -/
  | attitudeSample (list trim : BitVec 16)
  /-- ATTITUDE_STALE (R33): 2 s pass without an attitude sample and the attitude status becomes STALE. -/
  | attitudeStale
  /-- VALVE_FEEDBACK (R54): A change of a valve's reported position, applied by the arrival and uncommanded-movement rules. -/
  | valveFeedback (valve : Valve) (aInput bInput : Bool)
  /-- TRAVEL_TIMEOUT (R57): The travel timer of a moving valve expires and the valve enters FAULT. -/
  | travelTimeout (valve : Valve)
  /-- PUMP_FEEDBACK (R65): A change of a pump's run feedback completes a start or stop, or trips the pump. -/
  | pumpFeedback (pump : Channel) (running : Bool)
  /-- START_TIMEOUT (R66): The 5 s start timer of a pump expires in STARTING and the pump faults. -/
  | startTimeout (pump : Channel)
  /-- STOP_TIMEOUT (R68): The 10 s stop timer of a pump expires in STOPPING and the pump faults. -/
  | stopTimeout (pump : Channel)
  /-- CONDUCTIVITY_SAMPLE (R73): A conductivity sample of a source is graded and may change the grade and cause decisions. -/
  | conductivitySample (source : Source) (value : Nat)
  /-- RUN_SIGNAL (R74): A watermaker's run signal rises, starting the flush, or falls, stopping the source. -/
  | runSignal (maker : Watermaker) (running : Bool)
  /-- FLUSH_END (R74): A watermaker's flush timer expires and its first decision is taken. -/
  | flushEnd (maker : Watermaker)
  /-- DUMP_LIMIT (R76): A watermaker's dump timer reaches the dump limit and the inhibited mark is set. -/
  | dumpLimit (maker : Watermaker)
  /-- SOURCE_PULSE (R96): A source flow meter pulse is counted into the produced or dumped totalizer. -/
  | sourcePulse (source : Source)
  /-- PROBE_CHECK_END (R94): The 20 s of a probe check pass; the result sets the probe status and decisions follow. -/
  | probeCheckEnd (source : Source)
  /-- CHANNEL_PULSE (R127): A channel flow meter pulse counts into the leg and the totalizer, and end conditions are evaluated. -/
  | channelPulse (channel : Channel)
  /-- NO_FLOW (R128): The no-flow timer expires in PUMPING and the run stops with NO_FLOW. -/
  | noFlow (channel : Channel)
  /-- WAKE_LIMIT (R164): The 60 s wake limit timer expires and WARMING completes. -/
  | wakeLimit
  /-- FALSE_WAKE (R166): The confirm timer expires in CONFIRMING; the wake is false and LAYUP is entered. -/
  | falseWake
  /-- SUPERVISION_EXPIRY (R170): The supervision timer expires and a lapse is taken. -/
  | supervisionExpiry
  /-- POWER_LOSS (R189): The supply falls; the part stops, its outputs go off, and a save in flight is cut off with the stored checksum left not agreeing. -/
  | powerLoss
  deriving DecidableEq, Repr

end Sys2Proof
end

