-- ==== Sys2Proof/Decode.lean ====
section
/-!
DEFINITION. The command a word spells by the bits of spec/opcode_table.json. The part has no decoder: it takes frames and
events, and no row of the table gives any bits. So no word spells a command.
-/
namespace Sys2Proof

/-- No row of the table has bits: every word spells none. -/
def decodeTableWord (_nbits _w : Nat) : Option Instr := none

end Sys2Proof
end

