-- ==== Sys2Proof/Config.lean ====
section
/-!
DEFINITION. What an implementation fixes, and the free values: constants without a body, so that no proof can
see what they are.
-/
namespace Sys2Proof.Config

/-- The transverse arm the arbiter reads for a leg's tank (index 1 to 12) that has been removed since the order was
submitted. R121 reads the arm from the Tank Table and R1 makes it absent for an UNDEFINED tank; no rule states a
value. Free value (DESIGN CHOICE, assumption 18). -/
opaque undefinedArm : Nat → Int

/-- What the run pulse count shows after its greatest stated value 4,294,967,295 (R115 gives the range and no rule
says what follows). Free value (DESIGN CHOICE, assumption 19). -/
opaque runPulsesPastRange : Nat

/-- What a leg's moved litres show when R127 gives a figure (the argument) above the stated range 0 to
4,294,967,295 of R100. Free value (DESIGN CHOICE, assumption 19). -/
opaque movedPastRange : Nat → Nat

/-- How many notices between blocks one step delivers at most; the rest stay in flight for the next step
(DESIGN CHOICE, assumption 6: no chain of notices is known that comes near this number). -/
def noticeBudget : Nat := 4096

end Sys2Proof.Config
end

