-- ==== Sys2Proof/Machine/Records.lean ====
section
/-!
DEFINITION. The records the nine blocks hold, field by field as the chapters' tables give them. Plain data only;
a field that the manual calls "absent" is an Option. What a value at reset is stands in Machine/Initial.lean.
-/
namespace Sys2Proof.Machine

/-! ### Chapter 1, the Tank Table -/

/-- Service state of a tank (R1, R3). -/
inductive Service
  | undefined | isolated | inService
  deriving DecidableEq, Repr

/-- Quality class, best first (R1, 00_scope.md Ordering words). -/
inductive QClass
  | potable | technical | quarantine
  deriving DecidableEq, Repr

/-- State of one threshold (R1, R15). -/
inductive ThState
  | above | below | unknown
  deriving DecidableEq, Repr

/-- The four thresholds of a tank (section 1.7). -/
inductive Threshold
  | ll | l | h | hh
  deriving DecidableEq, Repr

/-- Direction of a crossing (R15). -/
inductive Direction
  | rising | falling
  deriving DecidableEq, Repr

/-- The permission set of a tank (R1): any subset of the four. -/
structure Perms where
  intake : Bool
  transferFrom : Bool
  transferTo : Bool
  supply : Bool
  deriving DecidableEq, Repr

/-- A tank's definition as TANK_DEFINE carries it (R6): millimetres, litres, centimetres. -/
structure TankDef where
  height : Nat
  residual : Nat
  arm : Int
  perms : Perms
  span : Nat
  zeroOffset : Int
  stepLimit : Nat
  windowLength : Nat
  dx : Int
  dy : Int
  deriving DecidableEq, Repr

/-- One strapping point (R9): level in millimetres, volume in litres. -/
structure StrapPoint where
  level : Nat
  volume : Nat
  deriving DecidableEq, Repr

/-- Threshold values and hysteresis, litres (R1, R18). -/
structure Limits where
  ll : Nat
  l : Nat
  h : Nat
  hh : Nat
  hysteresis : Nat
  deriving DecidableEq, Repr

/-- The four threshold states (R1). -/
structure ThStates where
  ll : ThState
  l : ThState
  h : ThState
  hh : ThState
  deriving DecidableEq, Repr

/-- The three enables of one threshold (R1, R19). -/
structure ThEnables where
  rising : Bool
  falling : Bool
  wake : Bool
  deriving DecidableEq, Repr

/-- The twelve notice and wake enables of a tank (R1, R19). -/
structure NoticeEnables where
  ll : ThEnables
  l : ThEnables
  h : ThEnables
  hh : ThEnables
  deriving DecidableEq, Repr

/-- Who lets water into a tank (section 1.8). -/
inductive Entrant
  | intake | tc1 | tc2
  deriving DecidableEq, Repr

/-- An entry in progress (section 1.8). -/
structure Entry where
  entrant : Entrant
  waterClass : QClass
  ending : Bool
  deriving DecidableEq, Repr

/-- The Tank Table's answer to an entry notice (R20). -/
inductive EntryAnswer
  | adopted | kept | conflict
  deriving DecidableEq, Repr

/-- One tank record (R1). The full volume is the last point of `strap`. -/
structure TankRecord where
  defn : Option TankDef
  strap : Option (List StrapPoint)
  service : Service
  cls : QClass
  level : Option Nat
  volume : Option Nat
  suspect : Bool
  held : Bool
  empty : Bool
  limits : Option Limits
  states : ThStates
  notices : Option NoticeEnables
  claim : Option Channel
  entries : List Entry
  deriving DecidableEq, Repr

/-- The Tank Table (R1): twelve records, the balance settings and the balance moment. -/
structure TankTable where
  tanks : Vector TankRecord 12
  mLim : Nat
  mHys : Nat
  moment : Int
  deriving DecidableEq, Repr

/-- What changed a tank's class (R4). -/
inductive ClassCause
  | hostRequest | adoption
  deriving DecidableEq, Repr

/-- What a Tank Table notice says has changed on a tank (R4): a definition, redefinition or removal; the service state; the
class, with its cause; the threshold states, with the final four states and every crossing of the evaluation in the order it
was taken (R16); the empty flag. -/
structure TankChange where
  definition : Bool
  service : Bool
  cls : Option ClassCause
  states : Option ThStates
  crossings : List (Threshold × Direction)
  empty : Bool
  deriving DecidableEq, Repr

/-! ### Chapter 2, the Gauging Unit -/

/-- Gauge state (R25, R42). -/
inductive GaugeState
  | settling | valid | suspect | failed
  deriving DecidableEq, Repr

/-- The last-published record of a channel (R25, R41). -/
structure Published where
  level : Nat
  volume : Nat
  state : GaugeState
  deriving DecidableEq, Repr

/-- One level channel (R25); the tank index is its place in the table. -/
structure GaugeChannel where
  span : Nat
  zeroOffset : Int
  stepLimit : Nat
  windowLength : Nat
  dx : Int
  dy : Int
  height : Nat
  strap : Option (List StrapPoint)
  state : GaugeState
  score : Nat
  window : List Nat
  reference : Option Int
  filtered : Option Nat
  volume : Option Nat
  published : Option Published
  nextScan : Clock
  inFlight : Option Clock
  lastSample : Option Clock
  deriving DecidableEq, Repr

/-- The attitude record (R32): slopes are the tangent times 10,000. -/
structure Attitude where
  list : Int
  trim : Int
  live : Bool
  outOfRange : Bool
  lastTime : Clock
  deriving DecidableEq, Repr

/-- The Gauging Unit: a channel for each defined tank (R25) and the attitude record (R32). -/
structure GaugingUnit where
  channels : Vector (Option GaugeChannel) 12
  attitude : Attitude
  deriving DecidableEq, Repr

/-! ### Chapter 3, the Actuator Unit -/

/-- An end of a valve: A is the safe end (CLOSED or DUMP), B is OPEN or MAIN (section 3.1). -/
inductive ValveEnd
  | a | b
  deriving DecidableEq, Repr

/-- Reported position (R54). -/
inductive Position
  | a | mid | b
  deriving DecidableEq, Repr

/-- State of a valve (R52). -/
inductive ValveState
  | atA | movingToA | atB | movingToB | fault
  deriving DecidableEq, Repr

/-- Who began a valve's movement (R52). -/
inductive Driver
  | owner | host | reset | return | start
  deriving DecidableEq, Repr

/-- Fault reason of a valve (R52, R57, R58). -/
inductive ValveFault
  | travelTimeout | uncommanded
  deriving DecidableEq, Repr

/-- Owner of a valve (R52, R53). -/
inductive Owner
  | ir | tc1 | tc2 | ss
  deriving DecidableEq, Repr

/-- One valve record (R52); number, designator, kind and owner are functions of the valve. The travel timer holds
its expiry time while it runs. -/
structure ValveRecord where
  commanded : ValveEnd
  demand : ValveEnd
  hostMark : Bool
  driver : Driver
  reported : Position
  state : ValveState
  timer : Option Clock
  reason : Option ValveFault
  resetting : Bool
  deriving DecidableEq, Repr

/-- State of a pump (R65). -/
inductive PumpState
  | stopped | starting | running | stopping | fault
  deriving DecidableEq, Repr

/-- Fault reason of a pump (R65). -/
inductive PumpFault
  | startTimeout | stopTimeout | tripped
  deriving DecidableEq, Repr

/-- One pump record (R65); number and owner are functions of the channel. -/
structure PumpRecord where
  run : Bool
  feedback : Bool
  state : PumpState
  timer : Option Clock
  reason : Option PumpFault
  deriving DecidableEq, Repr

/-- The Actuator Unit: 77 valve records, TP1 and TP2, and the travel timeout in force, seconds (R52, R64, R65). -/
structure ActuatorUnit where
  valves : Vector ValveRecord 77
  tp1 : PumpRecord
  tp2 : PumpRecord
  travelTimeout : Nat
  deriving DecidableEq, Repr

/-- What the Actuator Unit tells a valve's owner (R55, R56, R59, R60). `failed` serves a refused command and a
fault alike, as R89, R133 and R146 treat them alike; `restored` is the end of a VALVE_RESET movement. -/
inductive ValveAnswer
  | atA | atB | failed (r : ValveFault) | restored
  deriving DecidableEq, Repr

/-- What the Actuator Unit tells a pump's channel (R65). -/
inductive PumpAnswer
  | running | stopped | fault (r : PumpFault) | refused (r : PumpFault)
  deriving DecidableEq, Repr

/-! ### Chapter 4, the Intake Router -/

/-- State of a source record (R71): the first four are a watermaker's, the last four the shore's. -/
inductive SourceState
  | stopped | flushing | routing | dumping | closed | opening | filling | paused
  deriving DecidableEq, Repr

/-- Grade of product, best first (R71, R73). -/
inductive Grade
  | good | fair | bad
  deriving DecidableEq, Repr

/-- Dump reason of a watermaker (R71). -/
inductive DumpReason
  | grade | noRule | overflow | mainConflict | probeCheck | probeFault | mode
  deriving DecidableEq, Repr

/-- End reason of the shore (R71). -/
inductive EndReason
  | host | grade | noRule | overflow | mainConflict | probeFault | mode | fallback | valveFault
  deriving DecidableEq, Repr

/-- Cause of the inhibited mark (R71, R76). -/
inductive InhibitCause
  | dumpLimit | diverterFault
  deriving DecidableEq, Repr

/-- Permit status (R71, R75). -/
inductive PermitStatus
  | permitted | withheld | inhibited
  deriving DecidableEq, Repr

/-- A route on the product main (R71): water class and destination group in fill order. -/
structure Route where
  cls : QClass
  group : List TankIx
  deriving DecidableEq, Repr

/-- The eight settings of a source (R95): µS/cm, samples, seconds, pulses per 100 L. -/
structure SourceSettings where
  goodLimit : Nat
  fairLimit : Nat
  improvement : Nat
  flushTime : Nat
  dumpLimit : Nat
  meterFactor : Nat
  probeReference : Nat
  probeTolerance : Nat
  deriving DecidableEq, Repr

/-- One source record (R71). The fields marked "watermakers" are not used by SHORE, and `endReason` is used by
SHORE alone. `check` is the end of a probe check in flight, `checkSample` the latest sample taken during it (R94),
`flush` the end of the flush, `dump` the start of the dump timer, `rule` the slot 1 to 8 in force. `permit` is the
permit status as last told in a report (R75). -/
structure SourceRecord where
  state : SourceState
  dumpReason : Option DumpReason
  endReason : Option EndReason
  grade : Grade
  counter : Nat
  worst : Option Grade
  last : Option Nat
  probeOk : Bool
  check : Option Clock
  checkSample : Option Nat
  give : Bool
  inhibited : Option InhibitCause
  permit : PermitStatus
  flush : Option Clock
  dump : Option Clock
  rule : Option Nat
  route : Option Route
  settings : SourceSettings
  produced : Nat
  dumped : Nat
  producedResidue : Nat
  dumpedResidue : Nat
  deriving DecidableEq, Repr

/-- The source set of a rule (R78). -/
structure SourceSet where
  wm1 : Bool
  wm2 : Bool
  shore : Bool
  deriving DecidableEq, Repr

/-- The grade set of a rule (R78). -/
structure GradeSet where
  good : Bool
  fair : Bool
  bad : Bool
  deriving DecidableEq, Repr

/-- The action of a rule (R78): DUMP, or ROUTE with a class and a destination group. -/
inductive RuleAction
  | dump
  | route (r : Route)
  deriving DecidableEq, Repr

/-- One acceptance rule (R78). -/
structure Rule where
  enabled : Bool
  sources : SourceSet
  grades : GradeSet
  action : RuleAction
  deriving DecidableEq, Repr

/-- State of the product main (R83). -/
inductive MainState
  | unused | opening | delivering | changing
  deriving DecidableEq, Repr

/-- The product-main record (R83); `joined` stands oldest join first. -/
structure ProductMain where
  state : MainState
  holder : Option Source
  joined : List Source
  cls : Option QClass
  current : Option TankIx
  next : Option TankIx
  refused : List TankIx
  deriving DecidableEq, Repr

/-- The Intake Router (R71, R78, R83). -/
structure IntakeRouter where
  wm1 : SourceRecord
  wm2 : SourceRecord
  shore : SourceRecord
  rules : Vector Rule 8
  main : ProductMain
  deriving DecidableEq, Repr

/-! ### Chapters 5 and 6, the Transfer Engine -/

/-- Destination of a leg (R100). -/
inductive Dest
  | tank (t : TankIx)
  | overboard
  deriving DecidableEq, Repr

/-- End condition of a leg (R100). -/
inductive EndCondition
  | volume | fill | balance
  deriving DecidableEq, Repr

/-- Leg results (R100), in the order of their codes (R185). -/
inductive LegResult
  | complete | maxVolume | destFull | sourceEmpty | cancelled | tankUnavailable | gaugeNotValid | gaugeLost
  | classConflict | modeForbids | wrongWay | valveFault | pumpFault | noFlow
  deriving DecidableEq, Repr

/-- One leg (R100). -/
structure Leg where
  source : TankIx
  dest : Dest
  condition : EndCondition
  volume : Nat
  moved : Nat
  runs : Nat
  result : Option LegResult
  lastChannel : Option Channel
  deriving DecidableEq, Repr

/-- What an unsuccessful leg does to its order (R99, R106). -/
inductive Policy
  | abandon | skip
  deriving DecidableEq, Repr

/-- State of an order (R99). -/
inductive OrderState
  | pending | active | held | done | failed | cancelled
  deriving DecidableEq, Repr

/-- One order (R99). `current` counts legs from 1. The hold reason has the one value FALLBACK. -/
structure Order where
  id : Nat
  priority : Nat
  policy : Policy
  legs : List Leg
  state : OrderState
  current : Nat
  sequence : Nat
  heldByFallback : Bool
  cancelRequested : Bool
  channel : Option Channel
  deriving DecidableEq, Repr

/-- State of a channel (R115, R116). -/
inductive ChannelState
  | idle | busy | stoppingForOut | out
  deriving DecidableEq, Repr

/-- Out reason of a channel (R115). -/
inductive OutReason
  | host | pumpFault
  deriving DecidableEq, Repr

/-- Phase of a run (R115). -/
inductive Phase
  | liningUp | starting | pumping | stopping
  deriving DecidableEq, Repr

/-- Why a run stopped without ending its leg (R107). -/
inductive ReturnCause
  | guard | channelOut | fallback
  deriving DecidableEq, Repr

/-- Stop cause of a run (R115). -/
inductive StopCause
  | result (r : LegResult)
  | back (c : ReturnCause)
  deriving DecidableEq, Repr

/-- The last answer of a lined valve (R115). -/
inductive LinedAnswer
  | none | opened | closed | fault
  deriving DecidableEq, Repr

/-- The two lined valves of a run with their last answers (R115). -/
structure Lined where
  suction : Valve
  suctionAnswer : LinedAnswer
  delivery : Valve
  deliveryAnswer : LinedAnswer
  deriving DecidableEq, Repr

/-- The sign of the balance moment (R115). -/
inductive MomentSign
  | negative | zero | positive
  deriving DecidableEq, Repr

/-- One channel record (R115); header and pump are functions of the channel. -/
structure ChannelRecord where
  state : ChannelState
  outReason : Option OutReason
  order : Option (Nat × Nat)
  phase : Option Phase
  stop : Option StopCause
  claims : List TankIx
  lined : Option Lined
  pumpTold : PumpState
  runFactor : Option Nat
  runNoFlow : Option Nat
  movedAtStart : Nat
  runPulses : Nat
  signAtStart : Option MomentSign
  noFlow : Option Clock
  entryMade : Bool
  meterFactor : Nat
  noFlowTime : Nat
  totalizer : Nat
  residue : Nat
  deriving DecidableEq, Repr

/-- The Transfer Engine: the order store with its sequence counter (R98; the list stands in age order, oldest
first), the channel records (R115), the guard list (R121) and the mark that the last arbitration passed over some
order for the guard (R119). -/
structure TransferEngine where
  orders : List Order
  sequence : Nat
  tc1 : ChannelRecord
  tc2 : ChannelRecord
  guardList : List Nat
  guardPassed : Bool
  deriving DecidableEq, Repr

/-! ### Chapter 7, the Supply Selector -/

/-- State of the supply record (R143, R147). -/
inductive SupplyState
  | searching | supplying | changeover | switching | lastReserve | lost
  deriving DecidableEq, Repr

/-- Soft reason of a changeover (R143). -/
inductive SoftReason
  | low | advance | duty
  deriving DecidableEq, Repr

/-- The last reason (R143). -/
inductive SupplyReason
  | low | advance | duty | cls | gauge | service | permission | removed | drawTrip | valveFault
  deriving DecidableEq, Repr

/-- The Supply Selector: duty list and supply record (R143). -/
structure SupplySelector where
  duty : List TankIx
  state : SupplyState
  current : Option TankIx
  next : Option TankIx
  cause : Option SoftReason
  last : Option SupplyReason
  established : Bool
  deriving DecidableEq, Repr

/-! ### Chapter 8, the Plant Mode Controller -/

/-- The plant modes (R157). -/
inductive Mode
  | start | commission | configure | run | harbour | layup | waking | fallback
  deriving DecidableEq, Repr

/-- What woke the plant (section 8.4). -/
inductive WakeCause
  | host
  | crossing (t : TankIx) (th : Threshold) (d : Direction)
  deriving DecidableEq, Repr

/-- Phase of a wake (section 8.4). -/
inductive WakePhase
  | warming | confirming
  deriving DecidableEq, Repr

/-- The wake record (section 8.4); timers hold their expiry while they run. -/
structure WakeRecord where
  cause : WakeCause
  target : Option Mode
  phase : WakePhase
  limit : Option Clock
  confirm : Option Clock
  deriving DecidableEq, Repr

/-- Supervision state (R157). -/
inductive Supervision
  | off | watching | warning
  deriving DecidableEq, Repr

/-- The running supervision timer (R157): start, period in seconds, expiry. -/
structure SupTimer where
  start : Clock
  period : Nat
  expiry : Clock
  deriving DecidableEq, Repr

/-- Kind of supervision (R157, R171). -/
inductive SupKind
  | timeout | window
  deriving DecidableEq, Repr

/-- Cause of a supervision change (R169). -/
inductive SupCause
  | expiry | early | heartbeat
  deriving DecidableEq, Repr

/-- The Plant Mode Controller (R157). -/
structure ModeController where
  mode : Mode
  left : Option Mode
  wake : Option WakeRecord
  sup : Supervision
  timer : Option SupTimer
  period : Nat
  kind : SupKind
  deriving DecidableEq, Repr

/-! ### Chapter 9, the Link Unit -/

/-- Status codes (R184). -/
inductive Status
  | ok | unknownKind | badLength | badValue | badTable | modeConflict | busy | linkBusy | storeFull | idInUse
  | noSuchOrder | wrongState | noSuchTank | noTable | ordersActive | layupBlocked | faultPresent
  deriving DecidableEq, Repr

/-- The receive framer (R173) with its partial frame: in BODY the length byte and the bytes taken so far, in CHECK
also the CRC bytes taken so far. -/
inductive Framer
  | hunt
  | length
  | body (len : Nat) (taken : List Byte)
  | check (len : Nat) (taken : List Byte) (crc : List Byte)
  deriving DecidableEq, Repr

/-- A request in the intake (R175). -/
structure Request where
  kind : Byte
  tag : Byte
  payload : List Byte
  deriving DecidableEq, Repr

/-- A reply in the reply sequence (R176, R177). `refusal` marks a LINK_BUSY reply, whose request is not in the
intake (R175). -/
structure Reply where
  kind : Byte
  tag : Byte
  status : Status
  payload : List Byte
  refusal : Bool
  deriving DecidableEq, Repr

/-- Report kinds (R182, R186). -/
inductive ReportKind
  | level | gauge | tank | order | channel | intake | probe | supply | actuator | plant
  deriving DecidableEq, Repr

/-- A report record (R186). -/
structure Report where
  kind : ReportKind
  subject : Nat
  code : Nat
  time : Clock
  value : Nat
  deriving DecidableEq, Repr

/-- The ten report kind enables (R182). -/
structure ReportEnables where
  level : Bool
  gauge : Bool
  tank : Bool
  order : Bool
  channel : Bool
  intake : Bool
  probe : Bool
  supply : Bool
  actuator : Bool
  plant : Bool
  deriving DecidableEq, Repr

/-- The Link Unit (R173 to R183). `restarting` is set from an accepted RESTART (R179). -/
structure LinkUnit where
  framer : Framer
  intake : List Request
  replies : List Reply
  queue : List Report
  overflow : Bool
  enables : ReportEnables
  restarting : Bool
  deriving DecidableEq, Repr

/-! ### Chapter 10, the Settings Store -/

/-- What the image holds of one tank (R188). -/
structure ImageTank where
  defn : Option TankDef
  strap : Option (List StrapPoint)
  service : Service
  limits : Option Limits
  deriving DecidableEq, Repr

/-- Settings of a transfer channel (R118, R188). -/
structure ChannelSettings where
  meterFactor : Nat
  noFlowTime : Nat
  deriving DecidableEq, Repr

/-- A settings image without its checksum (R188). -/
structure Image where
  commissioning : Bool
  startMode : Mode
  tanks : Vector ImageTank 12
  mLim : Nat
  mHys : Nat
  rules : Vector Rule 8
  wm1 : SourceSettings
  wm2 : SourceSettings
  shore : SourceSettings
  tc1 : ChannelSettings
  tc2 : ChannelSettings
  travelTimeout : Nat
  duty : List TankIx
  period : Nat
  kind : SupKind
  deriving DecidableEq, Repr

/-- The reset cause record (R191). -/
inductive ResetCause
  | powerUp | resetLine | restartRequest
  deriving DecidableEq, Repr

/-- The Settings Store (R188 to R192): the stored image, whether the stored checksum agrees with it, the working
commissioning flag, the store-valid mark, the save record in flight and the reset cause record. -/
structure SettingsStore where
  stored : Image
  checksumAgrees : Bool
  workingFlag : Bool
  storeValid : Bool
  save : Option Image
  cause : ResetCause
  deriving DecidableEq, Repr

/-! ### The part, its pins and the notices between its blocks -/

/-- Whether the supply is off, RESETN holds the part, or it runs (R191). -/
inductive Power
  | off | held | on
  deriving DecidableEq, Repr

/-- The two limit inputs of a valve on the field I/O port (R54). -/
structure LimitInputs where
  a : Bool
  b : Bool
  deriving DecidableEq, Repr

/-- What notices last told other blocks: the gauge states of the twelve tanks, to the Intake Router, the Transfer Engine and
the Supply Selector (R46, R123; none for a tank that the block knows as UNDEFINED, or of which it has not been told yet), and
the balance moment M, to the Transfer Engine (R22, R129) (DEDUCED, assumption 44). -/
structure Told where
  ir : Vector (Option GaugeState) 12
  te : Vector (Option GaugeState) 12
  ss : Vector (Option GaugeState) 12
  moment : Int
  deriving DecidableEq, Repr

/-- The inputs that hold a level: the limit inputs of the valves (R54), the run feedback of the pumps (R65), the run signals
(R74), and RESETN (R191), true while it is high. -/
structure Pins where
  limits : Vector LimitInputs 77
  tp1 : Bool
  tp2 : Bool
  wm1 : Bool
  wm2 : Bool
  resetn : Bool
  deriving DecidableEq, Repr

/-- The blocks that other blocks tell of changes (R4, R158). -/
inductive Block
  | gu | au | ir | te | ss | pmc
  deriving DecidableEq, Repr

/-- A notice or an answer in flight from one block to another (DEDUCED, assumption 6). -/
inductive Msg
  /-- the Tank Table's notice of a change to a tank (R4) -/
  | tank (dst : Block) (t : TankIx) (c : TankChange)
  /-- the Gauging Unit's notice of a gauge state (R26, R43, R44, R47) -/
  | gauge (dst : Block) (t : TankIx) (g : GaugeState)
  /-- a change of plant mode (R158) -/
  | mode (dst : Block) (old new : Mode)
  /-- the new balance moment, to the Transfer Engine (R22) -/
  | moment (m : Int)
  /-- an accepted BALANCE_SET, to the Transfer Engine (R23) -/
  | balance
  /-- the Tank Table's conflict notice to an entrant (R11) -/
  | conflict (t : TankIx) (e : Entrant)
  /-- a wake cause, to the Plant Mode Controller (R17, R165) -/
  | wake (t : TankIx) (th : Threshold) (d : Direction)
  /-- the Actuator Unit's answer to a valve's owner (R55 to R60) -/
  | valve (v : Valve) (a : ValveAnswer)
  /-- the Actuator Unit's answer to a pump's channel (R65) -/
  | pump (c : Channel) (a : PumpAnswer)
  /-- the product main has been released: decisions for every source (R81, R85) -/
  | decide
  /-- a report on its way to the Link Unit, stamped when it was created (R59, R65, R180) -/
  | report (r : Report)
  deriving DecidableEq, Repr

end Sys2Proof.Machine
end

