-- ==== Sys2Proof/Machine/Codes.lean ====
section
/-!
DEFINITION. The codes of R184 to R186 (and R53's numbers): what number stands for each enumerated value on the
link, in a report and in a designator. Where no table gives a code, it is the place of the value, counted from 1, in
the list of the rule that owns it (R184). `X.ofCode` reads a code back; none where no value has it.
-/
namespace Sys2Proof
open Machine

/-! ### Plant items -/

/-- A tank's index 1 to 12. -/
def tankCode (t : TankIx) : Nat := t.val + 1

/-- The tank an index names; none outside 1 to 12. -/
def tankOfCode (n : Nat) : Option TankIx := if h : 1 ≤ n ∧ n ≤ 12 then some ⟨n - 1, by omega⟩ else none

def Source.code : Source → Nat
  | .wm1 => 1 | .wm2 => 2 | .shore => 3

def Source.ofCode : Nat → Option Source
  | 1 => some .wm1 | 2 => some .wm2 | 3 => some .shore | _ => none

/-- The source record of a watermaker. -/
def Watermaker.source : Watermaker → Source
  | .wm1 => .wm1 | .wm2 => .wm2

/-- A source's outlet valve: its diverter, or SH (R53, chapter 4). -/
def Source.outlet : Source → Valve
  | .wm1 => .diverter .wm1
  | .wm2 => .diverter .wm2
  | .shore => .shore

def Channel.code : Channel → Nat
  | .tc1 => 1 | .tc2 => 2

def Channel.ofCode : Nat → Option Channel
  | 1 => some .tc1 | 2 => some .tc2 | _ => none

/-- The other transfer channel. -/
def Channel.other : Channel → Channel
  | .tc1 => .tc2 | .tc2 => .tc1

/-- The number of a channel's pump (R65). -/
def Channel.pumpNumber : Channel → Nat
  | .tc1 => 81 | .tc2 => 82

/-- The pump a number names (R63, R69). -/
def Channel.ofPumpNumber : Nat → Option Channel
  | 81 => some .tc1 | 82 => some .tc2 | _ => none

/-- The header of a channel (R115): A 1, B 2. -/
def Channel.headerCode : Channel → Nat
  | .tc1 => 1 | .tc2 => 2

/-- Function index less 1 (R53). -/
def ValveFn.ix : ValveFn → Fin 6
  | .intake => 0 | .suctionA => 1 | .suctionB => 2 | .fillA => 3 | .fillB => 4 | .supply => 5

def ValveFn.ofIx : Nat → ValveFn
  | 0 => .intake | 1 => .suctionA | 2 => .suctionB | 3 => .fillA | 4 => .fillB | _ => .supply

/-- A valve's number less 1, its place in the valve table (R53: number (n − 1) × 6 + f, then DV1, DV2, SH, OA, OB). -/
def Valve.ix : Valve → Fin 77
  | .tank t f => ⟨t.val * 6 + f.ix.val, by omega⟩
  | .diverter .wm1 => 72
  | .diverter .wm2 => 73
  | .shore => 74
  | .overboard .tc1 => 75
  | .overboard .tc2 => 76

/-- A valve's number 1 to 77 (R53). -/
def Valve.number (v : Valve) : Nat := v.ix.val + 1

/-- The valve a number names; none outside 1 to 77. -/
def Valve.ofNumber (n : Nat) : Option Valve :=
  if h : 1 ≤ n ∧ n ≤ 72 then some (.tank ⟨(n - 1) / 6, by omega⟩ (ValveFn.ofIx ((n - 1) % 6)))
  else match n with
    | 73 => some (.diverter .wm1)
    | 74 => some (.diverter .wm2)
    | 75 => some .shore
    | 76 => some (.overboard .tc1)
    | 77 => some (.overboard .tc2)
    | _ => none

/-- Every valve, in number order. -/
def Valve.all : List Valve := (List.range 77).filterMap fun k => Valve.ofNumber (k + 1)

/-- The fixed owner of a valve (R53). -/
def Valve.owner : Valve → Owner
  | .tank _ .intake => .ir
  | .tank _ .suctionA => .tc1
  | .tank _ .suctionB => .tc2
  | .tank _ .fillA => .tc1
  | .tank _ .fillB => .tc2
  | .tank _ .supply => .ss
  | .diverter _ => .ir
  | .shore => .ir
  | .overboard .tc1 => .tc1
  | .overboard .tc2 => .tc2

/-- Kind of a valve (R52): ON_OFF 1, DIVERTER 2. -/
def Valve.kindCode : Valve → Nat
  | .diverter _ => 2
  | _ => 1

/-- The owner of a channel's valves. -/
def Channel.owner : Channel → Owner
  | .tc1 => .tc1 | .tc2 => .tc2

/-- The suction valve of a channel's header at a tank (chapter 6). -/
def Channel.suction (c : Channel) (t : TankIx) : Valve :=
  match c with
  | .tc1 => .tank t .suctionA
  | .tc2 => .tank t .suctionB

/-- The valve through which a channel delivers to a destination (chapter 6). -/
def Channel.delivery (c : Channel) : Dest → Valve
  | .tank t => match c with
    | .tc1 => .tank t .fillA
    | .tc2 => .tank t .fillB
  | .overboard => .overboard c

/-- The entrant a channel is (section 1.8). -/
def Channel.entrant : Channel → Entrant
  | .tc1 => .tc1 | .tc2 => .tc2

end Sys2Proof

namespace Sys2Proof.Machine

/-! ### Chapter 1 -/

def Service.code : Service → Nat
  | .undefined => 1 | .isolated => 2 | .inService => 3

def QClass.code : QClass → Nat
  | .potable => 1 | .technical => 2 | .quarantine => 3

def QClass.ofCode : Nat → Option QClass
  | 1 => some .potable | 2 => some .technical | 3 => some .quarantine | _ => none

/-- `a.worse b`: class a is worse than class b (00_scope.md, Ordering words). -/
def QClass.worse (a b : QClass) : Bool := b.code < a.code

def ThState.code : ThState → Nat
  | .above => 1 | .below => 2 | .unknown => 3

def Threshold.code : Threshold → Nat
  | .ll => 1 | .l => 2 | .h => 3 | .hh => 4

def Direction.code : Direction → Nat
  | .rising => 1 | .falling => 2

def Entrant.code : Entrant → Nat
  | .intake => 1 | .tc1 => 2 | .tc2 => 3

/-! ### Chapters 2 and 3 -/

/-- The channel that owns a valve, where one does. -/
def Owner.channel : Owner → Option Channel
  | .tc1 => some .tc1
  | .tc2 => some .tc2
  | _ => none

def Owner.code : Owner → Nat
  | .ir => 1 | .tc1 => 2 | .tc2 => 3 | .ss => 4

def GaugeState.code : GaugeState → Nat
  | .settling => 1 | .valid => 2 | .suspect => 3 | .failed => 4

def ValveEnd.code : ValveEnd → Nat
  | .a => 1 | .b => 2

def ValveEnd.ofCode : Nat → Option ValveEnd
  | 1 => some .a | 2 => some .b | _ => none

def Position.code : Position → Nat
  | .a => 1 | .mid => 2 | .b => 3

def ValveState.code : ValveState → Nat
  | .atA => 1 | .movingToA => 2 | .atB => 3 | .movingToB => 4 | .fault => 5

/-- TRAVEL_TIMEOUT 1, UNCOMMANDED 2 (R186). -/
def ValveFault.code : ValveFault → Nat
  | .travelTimeout => 1 | .uncommanded => 2

def PumpState.code : PumpState → Nat
  | .stopped => 1 | .starting => 2 | .running => 3 | .stopping => 4 | .fault => 5

/-- START_TIMEOUT 3, STOP_TIMEOUT 4, TRIPPED 5 (R186), in a report and in a reply alike (R184). -/
def PumpFault.code : PumpFault → Nat
  | .startTimeout => 3 | .stopTimeout => 4 | .tripped => 5

/-! ### Chapter 4 -/

/-- STOPPED 1 to DUMPING 4, CLOSED 5 to PAUSED 8 (R186). -/
def SourceState.code : SourceState → Nat
  | .stopped => 1 | .flushing => 2 | .routing => 3 | .dumping => 4
  | .closed => 5 | .opening => 6 | .filling => 7 | .paused => 8

def Grade.code : Grade → Nat
  | .good => 1 | .fair => 2 | .bad => 3

/-- `a.worse b`: grade a is worse than grade b. -/
def Grade.worse (a b : Grade) : Bool := b.code < a.code

def DumpReason.code : DumpReason → Nat
  | .grade => 1 | .noRule => 2 | .overflow => 3 | .mainConflict => 4 | .probeCheck => 5 | .probeFault => 6
  | .mode => 7

def EndReason.code : EndReason → Nat
  | .host => 1 | .grade => 2 | .noRule => 3 | .overflow => 4 | .mainConflict => 5 | .probeFault => 6 | .mode => 7
  | .fallback => 8 | .valveFault => 9

def InhibitCause.code : InhibitCause → Nat
  | .dumpLimit => 1 | .diverterFault => 2

def PermitStatus.code : PermitStatus → Nat
  | .permitted => 1 | .withheld => 2 | .inhibited => 3

def MainState.code : MainState → Nat
  | .unused => 1 | .opening => 2 | .delivering => 3 | .changing => 4

/-! ### Chapters 5 and 6 -/

/-- A tank index, or 0xFF for OVERBOARD (R184). -/
def Dest.code : Dest → Nat
  | .tank t => tankCode t
  | .overboard => 255

def Dest.ofCode (n : Nat) : Option Dest :=
  if n = 255 then some .overboard else (tankOfCode n).map .tank

def EndCondition.code : EndCondition → Nat
  | .volume => 1 | .fill => 2 | .balance => 3

def EndCondition.ofCode : Nat → Option EndCondition
  | 1 => some .volume | 2 => some .fill | 3 => some .balance | _ => none

/-- Leg result codes (R185). -/
def LegResult.code : LegResult → Nat
  | .complete => 0x10 | .maxVolume => 0x11 | .destFull => 0x12 | .sourceEmpty => 0x13 | .cancelled => 0x14
  | .tankUnavailable => 0x15 | .gaugeNotValid => 0x16 | .gaugeLost => 0x17 | .classConflict => 0x18
  | .modeForbids => 0x19 | .wrongWay => 0x1A | .valveFault => 0x1B | .pumpFault => 0x1C | .noFlow => 0x1D

/-- COMPLETE and MAX_VOLUME are successful (R100). -/
def LegResult.successful : LegResult → Bool
  | .complete => true
  | .maxVolume => true
  | _ => false

def Policy.code : Policy → Nat
  | .abandon => 1 | .skip => 2

def Policy.ofCode : Nat → Option Policy
  | 1 => some .abandon | 2 => some .skip | _ => none

/-- Order state codes (R185). -/
def OrderState.code : OrderState → Nat
  | .pending => 1 | .active => 2 | .held => 3 | .done => 4 | .failed => 5 | .cancelled => 6

/-- Live: PENDING, ACTIVE or HELD (chapter 5). -/
def OrderState.live : OrderState → Bool
  | .pending => true
  | .active => true
  | .held => true
  | _ => false

def ChannelState.code : ChannelState → Nat
  | .idle => 1 | .busy => 2 | .stoppingForOut => 3 | .out => 4

def OutReason.code : OutReason → Nat
  | .host => 1 | .pumpFault => 2

def Phase.code : Phase → Nat
  | .liningUp => 1 | .starting => 2 | .pumping => 3 | .stopping => 4

/-- A stop cause as CHANNEL_GET gives it: a leg result by its code of R185, a return cause by its place,
counted from 1, among the return causes of R115 (DESIGN CHOICE, assumption 16). -/
def StopCause.code : StopCause → Nat
  | .result r => r.code
  | .back .guard => 1
  | .back .channelOut => 2
  | .back .fallback => 3

/-- The last answer of a lined valve: none 0, OPEN 1, CLOSED 2, FAULT 3 (R115, R184). -/
def LinedAnswer.code : LinedAnswer → Nat
  | .none => 0 | .opened => 1 | .closed => 2 | .fault => 3

def MomentSign.code : MomentSign → Nat
  | .negative => 1 | .zero => 2 | .positive => 3

/-- The sign of a moment. -/
def MomentSign.of (m : Int) : MomentSign := if m < 0 then .negative else if m = 0 then .zero else .positive

/-! ### Chapter 7 -/

def SupplyState.code : SupplyState → Nat
  | .searching => 1 | .supplying => 2 | .changeover => 3 | .switching => 4 | .lastReserve => 5 | .lost => 6

def SoftReason.code : SoftReason → Nat
  | .low => 1 | .advance => 2 | .duty => 3

def SupplyReason.code : SupplyReason → Nat
  | .low => 1 | .advance => 2 | .duty => 3 | .cls => 4 | .gauge => 5 | .service => 6 | .permission => 7
  | .removed => 8 | .drawTrip => 9 | .valveFault => 10

/-- The last reason a soft reason becomes (R143). -/
def SoftReason.reason : SoftReason → SupplyReason
  | .low => .low | .advance => .advance | .duty => .duty

/-! ### Chapter 8 -/

/-- START 1 to FALLBACK 8 (R184). -/
def Mode.code : Mode → Nat
  | .start => 1 | .commission => 2 | .configure => 3 | .run => 4 | .harbour => 5 | .layup => 6 | .waking => 7
  | .fallback => 8

def Mode.ofCode : Nat → Option Mode
  | 1 => some .start | 2 => some .commission | 3 => some .configure | 4 => some .run | 5 => some .harbour
  | 6 => some .layup | 7 => some .waking | 8 => some .fallback | _ => none

def WakePhase.code : WakePhase → Nat
  | .warming => 1 | .confirming => 2

def Supervision.code : Supervision → Nat
  | .off => 1 | .watching => 2 | .warning => 3

def SupKind.code : SupKind → Nat
  | .timeout => 1 | .window => 2

def SupKind.ofCode : Nat → Option SupKind
  | 1 => some .timeout | 2 => some .window | _ => none

/-- EXPIRY 1, EARLY 2, HEARTBEAT 3 (R186). -/
def SupCause.code : SupCause → Nat
  | .expiry => 1 | .early => 2 | .heartbeat => 3

/-! ### Chapters 9 and 10 -/

/-- Status codes (R184). -/
def Status.code : Status → Nat
  | .ok => 0x00 | .unknownKind => 0x01 | .badLength => 0x02 | .badValue => 0x03 | .badTable => 0x04
  | .modeConflict => 0x05 | .busy => 0x06 | .linkBusy => 0x07 | .storeFull => 0x08 | .idInUse => 0x09
  | .noSuchOrder => 0x0A | .wrongState => 0x0B | .noSuchTank => 0x0C | .noTable => 0x0D | .ordersActive => 0x0E
  | .layupBlocked => 0x0F | .faultPresent => 0x10

/-- Report kind codes (R186). -/
def ReportKind.code : ReportKind → Nat
  | .level => 1 | .gauge => 2 | .tank => 3 | .order => 4 | .channel => 5 | .intake => 6 | .probe => 7
  | .supply => 8 | .actuator => 9 | .plant => 10

def ResetCause.code : ResetCause → Nat
  | .powerUp => 1 | .resetLine => 2 | .restartRequest => 3

end Sys2Proof.Machine
end

