-- ==== Sys2Proof/Machine/Initial.lean ====
section
/-!
DEFINITION. What each block holds as a start begins (the reset columns of R2, R28, R70, R72, R101, R117, R144, R157,
R183) and the factory image (R188). Machine/State.lean's State.reset and the start operations of Machine/Start.lean
are built from these. Settings that the load hands out hold their factory values until then (DESIGN CHOICE, assumption
8).
-/
namespace Sys2Proof.Machine

/-- A table of n entries from a function of the index. -/
def Vector.tabulate {α : Type} {n : Nat} (f : Fin n → α) : Vector α n :=
  ⟨(List.ofFn f).toArray, by simp⟩

/-! ### Factory image -/

/-- The factory source settings (R95). -/
def SourceSettings.factory : SourceSettings :=
  { goodLimit := 500, fairLimit := 750, improvement := 3, flushTime := 180, dumpLimit := 600,
    meterFactor := 100, probeReference := 1000, probeTolerance := 40 }

/-- A rule of the factory image: disabled, empty sets, DUMP (R78). -/
def Rule.factory : Rule :=
  { enabled := false, sources := ⟨false, false, false⟩, grades := ⟨false, false, false⟩, action := .dump }

/-- What an image holds of a tank it does not define. -/
def ImageTank.blank : ImageTank := { defn := none, strap := none, service := .undefined, limits := none }

/-- The factory image (R188). -/
def Image.factory : Image :=
  { commissioning := true, startMode := .run, tanks := Vector.tabulate fun _ => ImageTank.blank,
    mLim := 0, mHys := 0, rules := Vector.tabulate fun _ => Rule.factory,
    wm1 := SourceSettings.factory, wm2 := SourceSettings.factory, shore := SourceSettings.factory,
    tc1 := ⟨100, 15⟩, tc2 := ⟨100, 15⟩, travelTimeout := 40, duty := [], period := 10, kind := .timeout }

/-! ### Chapter 1 -/

/-- All four threshold states UNKNOWN (R2). -/
def ThStates.unknown : ThStates := ⟨.unknown, .unknown, .unknown, .unknown⟩

/-- The notice enables a defined tank starts with (R2, R6): rising on H and HH, falling on L and LL, no wake. -/
def NoticeEnables.initial : NoticeEnables :=
  { ll := ⟨false, true, false⟩, l := ⟨false, true, false⟩,
    h := ⟨true, false, false⟩, hh := ⟨true, false, false⟩ }

/-- An UNDEFINED tank with no published values, no claim and no entries (R2), of the given class. -/
def TankRecord.blank (c : QClass) : TankRecord :=
  { defn := none, strap := none, service := .undefined, cls := c, level := none, volume := none,
    suspect := false, held := false, empty := false, limits := none, states := ThStates.unknown,
    notices := none, claim := none, entries := [] }

/-- The Tank Table as a start begins (R2); `cls` gives the class each tank carries into the start (R193). -/
def TankTable.start (cls : TankIx → QClass) : TankTable :=
  { tanks := Vector.tabulate fun t => TankRecord.blank (cls t), mLim := 0, mHys := 0, moment := 0 }

/-! ### Chapter 2 -/

/-- The Gauging Unit as a start begins (R28): no channels, an upright STALE attitude, and time 0 of the last attitude
sample (DESIGN CHOICE, assumption 10). -/
def GaugingUnit.start : GaugingUnit :=
  { channels := Vector.tabulate fun _ => none,
    attitude := { list := 0, trim := 0, live := false, outOfRange := false, lastTime := 0 } }

/-- No block has been told of a gauge (R28: every block starts from its reset values), and M is 0 (R2). -/
def Told.blank : Told :=
  { ir := Vector.tabulate fun _ => none, te := Vector.tabulate fun _ => none, ss := Vector.tabulate fun _ => none, moment := 0 }

/-! ### Chapter 3 -/

/-- The position a pair of limit inputs reports (R54). -/
def LimitInputs.position (p : LimitInputs) : Position :=
  if p.a && !p.b then .a else if p.b && !p.a then .b else .mid

/-- A valve as a start begins (R70): driven to the safe end with the travel timer at 40 s, and AT_A at once where the
reported position is already the A end. The clock of a start is 0 (R191). -/
def ValveRecord.start (p : LimitInputs) : ValveRecord :=
  let pos := p.position
  { commanded := .a, demand := .a, hostMark := false, driver := .start, reported := pos,
    state := if pos = .a then .atA else .movingToA,
    timer := if pos = .a then none else some 400,
    reason := none, resetting := false }

/-- A pump as a start begins (R70): STOPPED, or STOPPING with the 10 s timer while its feedback is present. -/
def PumpRecord.start (feedback : Bool) : PumpRecord :=
  { run := false, feedback := feedback, state := if feedback then .stopping else .stopped,
    timer := if feedback then some 100 else none, reason := none }

/-- The Actuator Unit as a start begins, from the field inputs as they stand (R70). -/
def ActuatorUnit.start (p : Pins) : ActuatorUnit :=
  { valves := Vector.tabulate fun i => ValveRecord.start p.limits[i],
    tp1 := PumpRecord.start p.tp1, tp2 := PumpRecord.start p.tp2, travelTimeout := 40 }

/-! ### Chapter 4 -/

/-- A source record as a start begins (R72), with the totalizers it carries into the start. -/
def SourceRecord.start (st : SourceState) (produced dumped : Nat) : SourceRecord :=
  { state := st, dumpReason := none, endReason := none, grade := .bad, counter := 0, worst := none,
    last := none, probeOk := true, check := none, checkSample := none, give := true, inhibited := none,
    permit := .withheld, flush := none, dump := none, rule := none, route := none,
    settings := SourceSettings.factory, produced := produced, dumped := dumped,
    producedResidue := 0, dumpedResidue := 0 }

/-- The product main UNUSED (R72, R83). -/
def ProductMain.unused : ProductMain :=
  { state := .unused, holder := none, joined := [], cls := none, current := none, next := none, refused := [] }

/-- The Intake Router as a start begins, around the three source records. -/
def IntakeRouter.start (wm1 wm2 shore : SourceRecord) : IntakeRouter :=
  { wm1 := wm1, wm2 := wm2, shore := shore, rules := Vector.tabulate fun _ => Rule.factory,
    main := ProductMain.unused }

/-! ### Chapters 5 and 6 -/

/-- A channel record as a start begins (R117), with the pump as R70 sets it and the totalizer it carries. -/
def ChannelRecord.start (pump : PumpState) (totalizer : Nat) : ChannelRecord :=
  { state := .idle, outReason := none, order := none, phase := none, stop := none, claims := [], lined := none,
    pumpTold := pump, runFactor := none, runNoFlow := none, movedAtStart := 0, runPulses := 0,
    signAtStart := none, noFlow := none, entryMade := false, meterFactor := 100, noFlowTime := 15,
    totalizer := totalizer, residue := 0 }

/-- The Transfer Engine as a start begins (R101, R117). -/
def TransferEngine.start (tc1 tc2 : ChannelRecord) : TransferEngine :=
  { orders := [], sequence := 1, tc1 := tc1, tc2 := tc2, guardList := [], guardPassed := false }

/-! ### Chapters 7 to 10 -/

/-- The Supply Selector as a start begins (R144). -/
def SupplySelector.start : SupplySelector :=
  { duty := [], state := .searching, current := none, next := none, cause := none, last := none,
    established := false }

/-- The Plant Mode Controller as a start begins (R157). -/
def ModeController.start : ModeController :=
  { mode := .start, left := none, wake := none, sup := .off, timer := none, period := 10, kind := .timeout }

/-- The Link Unit as a start begins (R183). -/
def LinkUnit.start : LinkUnit :=
  { framer := .hunt, intake := [], replies := [], queue := [], overflow := false,
    enables := ⟨true, true, true, true, true, true, true, true, true, true⟩, restarting := false }

/-- The Settings Store of a new part at its first start: the factory image with an agreeing checksum (R188;
DESIGN CHOICE, assumption 7); its two working records are clear until the load (DESIGN CHOICE, assumption 9). -/
def SettingsStore.new : SettingsStore :=
  { stored := Image.factory, checksumAgrees := true, workingFlag := false, storeValid := false, save := none,
    cause := .powerUp }

/-- The field inputs of a part with nothing connected: every valve shows its A end (R54), no motor and no watermaker
runs, and RESETN is high (DESIGN CHOICE, assumption 7). -/
def Pins.unconnected : Pins :=
  { limits := Vector.tabulate fun _ => ⟨true, false⟩, tp1 := false, tp2 := false, wm1 := false, wm2 := false,
    resetn := true }

end Sys2Proof.Machine
end

