-- ==== Sys2Proof/Machine/State.lean ====
section
/-!
DEFINITION. The state of the EW-412: the nine blocks, the clock, the pins, and the queue of commands that wait.
-/
namespace Sys2Proof.Machine

/-- The whole state of the part. `msgs` (notices in flight between the blocks, DEDUCED, assumption 6), `choices`
(the free choices of order among blocks that the manual leaves open, DESIGN CHOICE, assumption 5), `txd` (the bytes of
the reply sent latest, DESIGN CHOICE, assumption 28), `told` (what notices have told blocks of gauges and of M, DEDUCED,
assumption 44) and `pending` (the queue of commands) are
the model's own fields. -/
structure State where
  power : Power
  clock : Clock
  pins : Pins
  txd : List Byte
  tt : TankTable
  gu : GaugingUnit
  au : ActuatorUnit
  ir : IntakeRouter
  te : TransferEngine
  ss : SupplySelector
  pmc : ModeController
  lu : LinkUnit
  sts : SettingsStore
  told : Told
  msgs : List Msg
  choices : List Nat
  pending : List Instr
  deriving DecidableEq, Repr

/-- The part never stops with a fault: the manual gives every command an effect in every state, and what it calls
FAULT (R59, R65) is a state of a valve or of a pump. There is no constructor, so no meaning can answer a fault; this
is neither safe nor unsafe, because nothing is left out by it. -/
inductive Fault
  deriving DecidableEq, Repr

/-- Why a command has no answer. -/
inductive Refusal
  /-- Raised only by an arm of exec that has no meaning yet, with the row's mnemonic. Safe: a refused command proves
  nothing. No arm uses it. -/
  | notModelled (mnemonic : String)
  deriving DecidableEq, Repr

/-- The machine right after reset: the moment a power-up's start begins (R191). Every block holds its reset values,
the plant mode is START, the clock is 0, no command waits. -/
def State.reset : State :=
  { power := .on, clock := 0, pins := Pins.unconnected, txd := [],
    tt := TankTable.start fun _ => .quarantine,
    gu := GaugingUnit.start,
    au := ActuatorUnit.start Pins.unconnected,
    ir := IntakeRouter.start (SourceRecord.start .stopped 0 0) (SourceRecord.start .stopped 0 0)
      (SourceRecord.start .closed 0 0),
    te := TransferEngine.start (ChannelRecord.start .stopped 0) (ChannelRecord.start .stopped 0),
    ss := SupplySelector.start, pmc := ModeController.start, lu := LinkUnit.start, sts := SettingsStore.new,
    told := Told.blank, msgs := [], choices := [], pending := [] }

end Sys2Proof.Machine
end

