-- ==== Sys2Proof/Machine/Ops.lean ====
section
/-!
DEFINITION. The named operations every block uses: bytes in and out (R184, R187), the CRC and the frame (R173, R174),
the clock, the accessors of the records, reports (R180) and the notices between blocks.
-/
namespace Sys2Proof.Machine

/-! ### Bytes, high byte first (R184, R187) -/

/-- A field of one byte. -/
def u8 (n : Nat) : List Byte := [BitVec.ofNat 8 n]

/-- A field of two bytes. -/
def u16 (n : Nat) : List Byte := [BitVec.ofNat 8 (n / 256), BitVec.ofNat 8 n]

/-- A field of four bytes. -/
def u32 (n : Nat) : List Byte :=
  [BitVec.ofNat 8 (n / 16777216), BitVec.ofNat 8 (n / 65536), BitVec.ofNat 8 (n / 256), BitVec.ofNat 8 n]

/-- A signed field of two bytes, two's complement. -/
def i16 (z : Int) : List Byte := u16 (BitVec.ofInt 16 z).toNat

/-- A signed field of four bytes, two's complement. -/
def i32 (z : Int) : List Byte := u32 (BitVec.ofInt 32 z).toNat

/-- A mark, an enable or a flag: 1 for set, 0 for clear. -/
def mark (b : Bool) : List Byte := u8 (if b then 1 else 0)

/-- A set of values: bit i − 1 is set when the i-th value is a member. -/
def setBits (bs : List Bool) : List Byte := u8 (bs.foldr (fun b n => (if b then 1 else 0) + 2 * n) 0)

/-- A field that can be absent: a presence byte, then the field, whose bytes are 0 when it is absent. -/
def optField {α : Type} (size : Nat) (f : α → List Byte) : Option α → List Byte
  | some x => mark true ++ f x
  | none => mark false ++ List.replicate size 0

/-- An enumerated field that can be absent: 0 stands for the absent value. -/
def optCode {α : Type} (f : α → Nat) : Option α → List Byte
  | some x => u8 (f x)
  | none => u8 0

/-- A list whose length varies: a count of one byte, then the elements. -/
def listField {α : Type} (f : α → List Byte) (xs : List α) : List Byte := u8 xs.length ++ xs.flatMap f

/-- The byte at a place of a payload. -/
def byteAt (p : List Byte) (i : Nat) : Nat := (p.getD i 0).toNat

/-- The two-byte field at a place. -/
def u16At (p : List Byte) (i : Nat) : Nat := byteAt p i * 256 + byteAt p (i + 1)

/-- The four-byte field at a place. -/
def u32At (p : List Byte) (i : Nat) : Nat := u16At p i * 65536 + u16At p (i + 2)

/-- The signed two-byte field at a place. -/
def i16At (p : List Byte) (i : Nat) : Int := (BitVec.ofNat 16 (u16At p i)).toInt

/-! ### Frames (R173, R174) -/

/-- One bit of the CRC register: generator 0x1021, most significant bit first, not reflected. -/
def crcBit (r : BitVec 16) : BitVec 16 := if r.msb then (r <<< 1) ^^^ 0x1021 else r <<< 1

/-- One byte taken into the CRC register. -/
def crcByte (r : BitVec 16) (b : Byte) : BitVec 16 :=
  crcBit (crcBit (crcBit (crcBit (crcBit (crcBit (crcBit (crcBit (r ^^^ (b.setWidth 16 <<< 8)))))))))

/-- The CRC of a run of bytes: initial value 0xFFFF, no final value (R174). -/
def crc16 (bs : List Byte) : BitVec 16 := bs.foldl crcByte 0xFFFF

/-- The bytes of a frame from the length byte to the end of the payload (R184); `body` is kind, tag and payload. -/
def frameCore (body : List Byte) : List Byte := BitVec.ofNat 8 body.length :: body

/-- A frame on the line: sync 0x5A, length, kind, tag, payload, CRC high byte first (R184). -/
def frameBytes (kind tag : Byte) (payload : List Byte) : List Byte :=
  let core := frameCore (kind :: tag :: payload)
  0x5A :: core ++ u16 (crc16 core).toNat

/-- The frame of a reply: the request's kind with the top bit set, its tag, the status, the reply payload (R176). -/
def Reply.frame (r : Reply) : List Byte :=
  frameBytes (r.kind ||| 0x80) r.tag (u8 r.status.code ++ r.payload)

/-- The frame a full body and its received CRC make, if the CRC agrees (R173, R174). -/
def checkedFrame (taken crc : List Byte) : Option Request :=
  match taken with
  | kind :: tag :: payload =>
    if u16 (crc16 (frameCore taken)).toNat = crc then some ⟨kind, tag, payload⟩ else none
  | _ => none

/-- One received byte (R173): the framer's new state, and the well-formed frame the byte completes, if any. -/
def Framer.byte (f : Framer) (b : Byte) : Framer × Option Request :=
  match f with
  | .hunt => (if b = 0x5A then .length else .hunt, none)
  | .length => (if 2 ≤ b.toNat ∧ b.toNat ≤ 252 then .body b.toNat [] else .hunt, none)
  | .body len taken =>
    let taken := taken ++ [b]
    (if len ≤ taken.length then .check len taken [] else .body len taken, none)
  | .check len taken crc =>
    match crc with
    | [] => (.check len taken [b], none)
    | c :: _ => (.hunt, checkedFrame taken [c, b])

/-- A run of received bytes: the framer's state after them, and the well-formed frames they complete, in order. -/
def Framer.bytes (f : Framer) : List Byte → Framer × List Request
  | [] => (f, [])
  | b :: rest =>
    let (f', r) := f.byte b
    let (f'', rs) := Framer.bytes f' rest
    (f'', r.toList ++ rs)

/-! ### The plant clock (R180)

Time is counted in tenths of a second and nothing finer is kept (DESIGN CHOICE, assumption 3). -/

/-- The time a number of tenths after a time; the clock returns to 0 after its greatest value. -/
def after (t : Clock) (tenths : Nat) : Clock := t + BitVec.ofNat 32 tenths

/-- Tenths elapsed from a start time. -/
def elapsed (now start : Clock) : Nat := (now - start).toNat

/-- The clock has reached a time: the time does not lie ahead (times ahead lie within half the clock's range). -/
def reached (now t : Clock) : Bool := decide ((now - t).toNat < 2 ^ 31)

/-- The time remaining on a timer, in tenths. -/
def remaining (now t : Clock) : Nat := if reached now t then 0 else (t - now).toNat

/-- One pulse into a totalizer and its residue at a meter factor (R96, R127): 100 to the residue, one litre for each
whole factor it holds; the totalizer returns to 0 after 4,294,967,295. -/
def countPulse (factor : Nat) (t : Nat × Nat) : Nat × Nat :=
  ((t.1 + (t.2 + 100) / factor) % 4294967296, (t.2 + 100) % factor)

/-! ### Accessors of the records -/

/-- A tank's record. -/
def State.tank (s : State) (t : TankIx) : TankRecord := s.tt.tanks[t]

/-- Change a tank's record. -/
def State.updTank (t : TankIx) (f : TankRecord → TankRecord) (s : State) : State :=
  { s with tt := { s.tt with tanks := s.tt.tanks.set t (f s.tt.tanks[t]) } }

/-- A tank's level channel, where it has one. -/
def State.gauge (s : State) (t : TankIx) : Option GaugeChannel := s.gu.channels[t]

/-- Put a tank's level channel. -/
def State.setGauge (t : TankIx) (c : Option GaugeChannel) (s : State) : State :=
  { s with gu := { s.gu with channels := s.gu.channels.set t c } }

/-- The gauge state of a tank as a block knows it: the Intake Router, the Transfer Engine and the Supply Selector know it from
the Gauging Unit's notices (R46, R123). -/
def State.toldGauge (s : State) (b : Block) (t : TankIx) : Option GaugeState :=
  match b with
  | .ir => s.told.ir[t]
  | .te => s.told.te[t]
  | .ss => s.told.ss[t]
  | .gu => (s.gauge t).map (·.state)
  | .au => none
  | .pmc => (s.gauge t).map (·.state)

/-- A block is told the gauge state of a tank, or that there is none. -/
def State.setTold (b : Block) (t : TankIx) (g : Option GaugeState) (s : State) : State :=
  match b with
  | .ir => { s with told := { s.told with ir := s.told.ir.set t g } }
  | .te => { s with told := { s.told with te := s.told.te.set t g } }
  | .ss => { s with told := { s.told with ss := s.told.ss.set t g } }
  | .gu => s
  | .au => s
  | .pmc => s

/-- The Transfer Engine is told the balance moment (R22). -/
def State.setToldMoment (m : Int) (s : State) : State := { s with told := { s.told with moment := m } }

/-- A valve's record. -/
def State.valve (s : State) (v : Valve) : ValveRecord := s.au.valves[v.ix]

/-- Change a valve's record. -/
def State.updValve (v : Valve) (f : ValveRecord → ValveRecord) (s : State) : State :=
  { s with au := { s.au with valves := s.au.valves.set v.ix (f s.au.valves[v.ix]) } }

/-- A channel's pump record. -/
def State.pump (s : State) (c : Channel) : PumpRecord :=
  match c with
  | .tc1 => s.au.tp1
  | .tc2 => s.au.tp2

/-- Put a channel's pump record. -/
def State.setPump (c : Channel) (p : PumpRecord) (s : State) : State :=
  match c with
  | .tc1 => { s with au := { s.au with tp1 := p } }
  | .tc2 => { s with au := { s.au with tp2 := p } }

/-- A source's record. -/
def State.source (s : State) (x : Source) : SourceRecord :=
  match x with
  | .wm1 => s.ir.wm1
  | .wm2 => s.ir.wm2
  | .shore => s.ir.shore

/-- Change a source's record. -/
def State.updSource (x : Source) (f : SourceRecord → SourceRecord) (s : State) : State :=
  match x with
  | .wm1 => { s with ir := { s.ir with wm1 := f s.ir.wm1 } }
  | .wm2 => { s with ir := { s.ir with wm2 := f s.ir.wm2 } }
  | .shore => { s with ir := { s.ir with shore := f s.ir.shore } }

/-- Put the product-main record. -/
def State.setMainRaw (m : ProductMain) (s : State) : State := { s with ir := { s.ir with main := m } }

/-- A transfer channel's record. -/
def State.chan (s : State) (c : Channel) : ChannelRecord :=
  match c with
  | .tc1 => s.te.tc1
  | .tc2 => s.te.tc2

/-- Change a transfer channel's record. -/
def State.updChan (c : Channel) (f : ChannelRecord → ChannelRecord) (s : State) : State :=
  match c with
  | .tc1 => { s with te := { s.te with tc1 := f s.te.tc1 } }
  | .tc2 => { s with te := { s.te with tc2 := f s.te.tc2 } }

/-- The order with an id, where the store holds one. -/
def State.order (s : State) (id : Nat) : Option Order := s.te.orders.find? fun o => o.id = id

/-- Change the order with an id. -/
def State.updOrder (id : Nat) (f : Order → Order) (s : State) : State :=
  { s with te := { s.te with orders := s.te.orders.map fun o => if o.id = id then f o else o } }

/-- The plant mode. -/
def State.mode (s : State) : Mode := s.pmc.mode

/-- A save is in flight (R189). -/
def State.saving (s : State) : Bool := s.sts.save.isSome

/-! ### Notices between blocks -/

/-- The arrangement of a list that a number chooses: every arrangement has a number, and 0 keeps the list as it
stands. -/
def permute {α : Type} : Nat → List α → List α
  | _, [] => []
  | k, x :: xs => (permute (k / (xs.length + 1)) xs).insertIdx (k % (xs.length + 1)) x

/-- Put one notice in flight. -/
def State.emit (m : Msg) (s : State) : State := { s with msgs := s.msgs ++ [m] }

/-- Put notices in flight that have no order among themselves: a free choice orders them (DESIGN CHOICE,
assumption 5). -/
def State.tell (ms : List Msg) (s : State) : State :=
  { s with msgs := s.msgs ++ permute (s.choices.headD 0) ms, choices := s.choices.tail }

/-! ### Reports (R180) -/

/-- The Link Unit's enable for a report kind (R182). -/
def ReportEnables.get (e : ReportEnables) : ReportKind → Bool
  | .level => e.level | .gauge => e.gauge | .tank => e.tank | .order => e.order | .channel => e.channel
  | .intake => e.intake | .probe => e.probe | .supply => e.supply | .actuator => e.actuator | .plant => e.plant

/-- The greatest number of records the report queue holds (R180). -/
def queueCapacity : Nat := 32

/-- The Link Unit takes a created report: appended at the back, or discarded with the overflow mark set when the queue
is full; not created while its kind's enable is clear (R180). -/
def LinkUnit.append (r : Report) (l : LinkUnit) : LinkUnit :=
  if l.enables.get r.kind then
    if l.queue.length < queueCapacity then { l with queue := l.queue ++ [r] } else { l with overflow := true }
  else l

/-- Hand a report to the Link Unit. -/
def State.append (r : Report) (s : State) : State := { s with lu := s.lu.append r }

/-- Create a report stamped with the plant clock (R180). -/
def State.report (k : ReportKind) (subject code value : Nat) (s : State) : State :=
  s.append ⟨k, subject, code, s.clock, value⟩

/-! ### Replies -/

/-- What a block answers to a request: a status, and the reply payload when the status is OK (R176). -/
structure Answer where
  status : Status
  payload : List Byte
  deriving DecidableEq, Repr

/-- Refuse a request: the status alone, and no change of state. -/
def refuse (st : Status) (s : State) : Answer × State := (⟨st, []⟩, s)

/-- Answer a request OK. -/
def accept (p : List Byte) (s : State) : Answer × State := (⟨.ok, p⟩, s)

end Sys2Proof.Machine
end

