-- ==== Sys2Proof/Machine/Flags.lean ====
section
/-!
DEFINITION. What is worked out from state: the empty flag (R14), threshold states and crossings (R15, R16), the
balance moment (R22), permits (R75), supply eligibility (R145), intake acceptance (R82), and the part's outputs.
-/
namespace Sys2Proof.Machine

/-! ### Tanks -/

/-- The volume of the last strapping point, the full volume (R1). -/
def fullVolume (tb : List StrapPoint) : Nat := (tb.getLast?.map (·.volume)).getD 0

/-- The level of the last strapping point (R7, R9). -/
def lastLevel (tb : List StrapPoint) : Nat := (tb.getLast?.map (·.level)).getD 0

/-- The empty flag: the published volume is present and at or below the residual volume (R14). -/
def emptyFlag (r : TankRecord) : Bool :=
  match r.defn, r.volume with
  | some d, some v => decide (v ≤ d.residual)
  | _, _ => false

/-- The default threshold values for a full volume (R9). -/
def defaultLimits (f : Nat) : Limits :=
  { ll := f * 5 / 100, l := f * 20 / 100, h := f * 90 / 100, hh := f * 95 / 100, hysteresis := f / 100 }

/-- The ordering and hysteresis conditions of R18. -/
def limitsOk (m : Limits) : Bool :=
  decide (m.ll < m.l ∧ m.l < m.h ∧ m.h < m.hh ∧
    m.hysteresis < m.l - m.ll ∧ m.hysteresis < m.h - m.l ∧ m.hysteresis < m.hh - m.h)

/-- The threshold values clamped to a full volume (R9, R18); the hysteresis is not clamped. -/
def clampLimits (f : Nat) (m : Limits) : Limits :=
  { m with ll := min m.ll f, l := min m.l f, h := min m.h f, hh := min m.hh f }

/-- One threshold at a first publication (R15). -/
def firstThreshold (v vol : Nat) : ThState := if v ≤ vol then .above else .below

/-- One threshold at any other evaluation (R15): v is its value, h the hysteresis. A threshold whose v − h is 0 or
less cannot fall. -/
def evalThreshold (v h vol : Nat) : ThState → ThState
  | .below => if v ≤ vol then .above else .below
  | .above => if vol < v - h then .below else .above
  | .unknown => .unknown

/-- The four states at a first publication (R15). -/
def firstStates (m : Limits) (vol : Nat) : ThStates :=
  { ll := firstThreshold m.ll vol, l := firstThreshold m.l vol,
    h := firstThreshold m.h vol, hh := firstThreshold m.hh vol }

/-- The four states after any other evaluation (R15). -/
def evalStates (m : Limits) (vol : Nat) (st : ThStates) : ThStates :=
  { ll := evalThreshold m.ll m.hysteresis vol st.ll, l := evalThreshold m.l m.hysteresis vol st.l,
    h := evalThreshold m.h m.hysteresis vol st.h, hh := evalThreshold m.hh m.hysteresis vol st.hh }

/-- The state of one threshold. -/
def ThStates.get (st : ThStates) : Threshold → ThState
  | .ll => st.ll | .l => st.l | .h => st.h | .hh => st.hh

/-- The enables of one threshold. -/
def NoticeEnables.get (n : NoticeEnables) : Threshold → ThEnables
  | .ll => n.ll | .l => n.l | .h => n.h | .hh => n.hh

/-- The crossings between two sets of states: the falling ones first, HH, H, L, LL, then the rising ones, LL, L, H,
HH (R16). A first setting is no crossing. -/
def crossings (old new : ThStates) : List (Threshold × Direction) :=
  (([Threshold.hh, .h, .l, .ll].filter fun th => old.get th = .above ∧ new.get th = .below).map (·, .falling)) ++
  (([Threshold.ll, .l, .h, .hh].filter fun th => old.get th = .below ∧ new.get th = .above).map (·, .rising))

/-- A tank's part of the balance moment (R22): volume × arm, where the tank is defined and its volume present. -/
def TankRecord.moment (r : TankRecord) : Int :=
  match r.defn, r.volume with
  | some d, some v => (v : Int) * d.arm
  | _, _ => 0

/-- The balance moment M of the twelve tanks (R22). -/
def momentOf (tanks : Vector TankRecord 12) : Int := (tanks.toList.map TankRecord.moment).sum

/-- A block knows a tank's gauge as VALID or SUSPECT (R46). -/
def State.gaugeUsable (s : State) (b : Block) (t : TankIx) : Bool :=
  decide (s.toldGauge b t = some .valid ∨ s.toldGauge b t = some .suspect)

/-- The Transfer Engine knows a tank's gauge as VALID: the state read at a leg start is that of the Gauging Unit's notices
(R123). -/
def State.gaugeValid (s : State) (t : TankIx) : Bool := decide (s.toldGauge .te t = some .valid)

/-- A block knows a tank's gauge as SETTLING or FAILED (R130, R151). -/
def State.gaugeLost (s : State) (b : Block) (t : TankIx) : Bool :=
  decide (s.toldGauge b t = some .settling ∨ s.toldGauge b t = some .failed)

/-- A permission of a tank; an UNDEFINED tank has none. -/
def TankRecord.permits (r : TankRecord) (p : Perms → Bool) : Bool :=
  match r.defn with
  | some d => p d.perms
  | none => false

/-! ### Plant modes -/

/-- Watermaker production is allowed (R75): RUN, COMMISSION, and FALLBACK entered from RUN. -/
def State.production (s : State) : Bool :=
  match s.pmc.mode with
  | .run => true
  | .commission => true
  | .fallback => s.pmc.left = some .run
  | _ => false

/-- A working mode: RUN, HARBOUR or COMMISSION (R110, R119). -/
def Mode.working : Mode → Bool
  | .run => true
  | .harbour => true
  | .commission => true
  | _ => false

/-- A mode that takes configuration requests: CONFIGURE or COMMISSION (R6). -/
def Mode.configuring : Mode → Bool
  | .configure => true
  | .commission => true
  | _ => false

/-- A supervised mode: CONFIGURE, RUN or HARBOUR (R169). -/
def Mode.supervised : Mode → Bool
  | .configure => true
  | .run => true
  | .harbour => true
  | _ => false

/-! ### Intake -/

/-- The permit status of a watermaker, derived from mode, switch and mark (R75). -/
def State.permitStatus (s : State) (w : Watermaker) : PermitStatus :=
  let r := s.source w.source
  if r.inhibited.isSome then .inhibited
  else if r.give && s.production then .permitted
  else .withheld

/-- A tank of this class, empty or not, admits water of class c (R82): its class is the same as c or worse, or its
empty flag is true. -/
def classAdmits (r : TankRecord) (c : QClass) : Bool := r.empty || !c.worse r.cls

/-- The grounds of R82 other than class and valve fault. -/
def State.intakeReady (s : State) (t : TankIx) : Bool :=
  let r := s.tank t
  decide (r.service = .inService) && r.permits (·.intake) && s.gaugeUsable .ir t && !decide (r.states.h = .above)
    && !s.ir.main.refused.contains t

/-- A tank can accept intake of a water class (R82). -/
def State.canAccept (s : State) (c : QClass) (t : TankIx) : Bool :=
  s.intakeReady t && classAdmits (s.tank t) c && !decide ((s.valve (.tank t .intake)).state = .fault)

/-- The heading tank of the main (R83). -/
def ProductMain.heading (m : ProductMain) : Option TankIx := m.next <|> m.current

/-- A source is on the main: holder or joined (R71). -/
def ProductMain.on (m : ProductMain) (x : Source) : Bool := decide (m.holder = some x) || m.joined.contains x

/-! ### Supply -/

/-- A supply tank's conditions in the order of R145, each with whether it holds. -/
def State.supplyConditions (s : State) (t : TankIx) : List Bool :=
  let r := s.tank t
  [decide (r.service = .inService), r.permits (·.supply), decide (r.cls = .potable), s.gaugeUsable .ss t,
   decide (r.states.l = .above), !decide ((s.valve (.tank t .supply)).state = .fault)]

/-- A tank is eligible for supply (R145). -/
def State.eligible (s : State) (t : TankIx) : Bool := (s.supplyConditions t).all id

/-- The place, from 1, of the first failing condition of R145; 0 where none fails (R156). -/
def State.failingCondition (s : State) (t : TankIx) : Nat :=
  let cs := s.supplyConditions t
  if cs.all id then 0 else (cs.takeWhile id).length + 1

/-- SUPPLY_OK is on in SUPPLYING, CHANGEOVER and LAST_RESERVE (R147). -/
def SupplyState.ok : SupplyState → Bool
  | .supplying => true
  | .changeover => true
  | .lastReserve => true
  | _ => false

/-! ### Outputs; all are off while the part does not run (R191) -/

/-- The REPQ line (R181). -/
def State.repq (s : State) : Bool := decide (s.power = .on) && !s.lu.queue.isEmpty

/-- The SUPPLY_OK output (R147). -/
def State.supplyOk (s : State) : Bool := decide (s.power = .on) && s.ss.state.ok

/-- The WM1_RUN and WM2_RUN outputs (R75). -/
def State.wmRun (s : State) (w : Watermaker) : Bool :=
  decide (s.power = .on) && decide (s.permitStatus w = .permitted)

/-- The run command output of a pump (R65). -/
def State.pumpRun (s : State) (c : Channel) : Bool := decide (s.power = .on) && (s.pump c).run

/-- The end a valve is driven toward; none in FAULT (R59) and while the part does not run (R191). A valve at rest is not driven:
R56 says only that the valve has arrived (DESIGN CHOICE, assumption 41). -/
def State.valveDrive (s : State) (v : Valve) : Option ValveEnd :=
  if s.power = .on then
    match (s.valve v).state with
    | .movingToA => some .a
    | .movingToB => some .b
    | _ => none
  else none

/-- A valve is commanded open: its commanded position is the B end and it is not in FAULT (R52). -/
def State.commandedOpen (s : State) (v : Valve) : Bool :=
  decide ((s.valve v).commanded = .b) && !decide ((s.valve v).state = .fault)

end Sys2Proof.Machine
end

