-- ==== Sys2Proof/Machine/Actuators.lean ====
section
/-!
DEFINITION. The Actuator Unit's own operations (chapter 3): movements, arrivals, faults, owner commands, host access
and pumps.
-/
namespace Sys2Proof.Machine

/-! ### Valves -/

/-- The reported position that shows an end. -/
def ValveEnd.position : ValveEnd → Position
  | .a => .a | .b => .b

/-- The state at an end. -/
def ValveEnd.atEnd : ValveEnd → ValveState
  | .a => .atA | .b => .atB

/-- The state moving to an end. -/
def ValveEnd.moving : ValveEnd → ValveState
  | .a => .movingToA | .b => .movingToB

/-- The end a moving valve moves to (R52). -/
def ValveState.target : ValveState → Option ValveEnd
  | .movingToA => some .a
  | .movingToB => some .b
  | _ => none

/-- The answer "at that end". -/
def ValveEnd.answer : ValveEnd → ValveAnswer
  | .a => .atA | .b => .atB

/-- A moving valve arrives at an end (R56): the timer stops, the state is at the end, and whoever drove it is told;
the arrival of a VALVE_RESET movement is told as R60 gives. The RESTORED report and the owner's notice have no order
between them (assumption 5). -/
def State.arrive (v : Valve) (e : ValveEnd) (s : State) : State :=
  let r := s.valve v
  let s := s.updValve v fun r => { r with timer := none, state := e.atEnd, resetting := false }
  match r.driver with
  | .owner => s.emit (.valve v e.answer)
  | .reset => s.tell [.report ⟨.actuator, v.number, 6, s.clock, 0⟩, .valve v .restored]
  | _ => s

/-- A valve begins or reverses a movement toward an end (R55): full travel timeout; arrival at once where the reported
position already shows the end. -/
def State.startMove (v : Valve) (e : ValveEnd) (s : State) : State :=
  let expiry := after s.clock (s.au.travelTimeout * 10)
  let s := s.updValve v fun r => { r with commanded := e, state := e.moving, timer := some expiry }
  if (s.valve v).reported = e.position then s.arrive v e else s

/-- A valve enters FAULT (R59). The owner's notice and the ACTUATOR report have no order between them. -/
def State.valveFault (v : Valve) (f : ValveFault) (s : State) : State :=
  let s := s.updValve v fun r =>
    { r with timer := none, state := .fault, reason := some f, resetting := false }
  s.tell [.report ⟨.actuator, v.number, f.code, s.clock, (s.valve v).reported.code⟩, .valve v (.failed f)]

/-- The movement rules of R55 on a valve that is not in FAULT: nothing where it holds the end or moves to it, a movement
or a reversal otherwise. -/
def State.drive (v : Valve) (e : ValveEnd) (s : State) : State :=
  let st := (s.valve v).state
  if st = e.atEnd ∨ st = e.moving then s else s.startMove v e

/-- A valve under host command is returned to its safe end (R62): mark cleared, driver RETURN, no command in FAULT. -/
def State.returnValve (s : State) (v : Valve) : State :=
  if (s.valve v).hostMark then
    if (s.valve v).state = .fault then s.updValve v fun r => { r with hostMark := false }
    else (s.updValve v fun r => { r with hostMark := false, driver := .return }).drive v .a
  else s

/-- The valves of an owner, in number order. -/
def Owner.valves (o : Owner) : List Valve := Valve.all.filter fun v => v.owner = o

/-- A command from a valve's owner (R55, R62): every other valve of the owner under host command is returned first.
A valve in FAULT takes the owner demand and loses its host mark (DEDUCED, assumption 36). -/
def State.command (v : Valve) (e : ValveEnd) (s : State) : State :=
  let s := (v.owner.valves.filter (· ≠ v)).foldl State.returnValve s
  let s := s.updValve v fun r => { r with hostMark := false, demand := e }
  let st := (s.valve v).state
  if st = .fault then s.emit (.valve v (.failed ((s.valve v).reason.getD .travelTimeout)))
  else
    let s := s.updValve v fun r => { r with driver := .owner, resetting := false }
    if st = e.atEnd then s.emit (.valve v e.answer) else s.drive v e

/-- The host's command in VALVE_SET (R61): host mark and driver set, the owner demand left; it ends a reset in progress
(DEDUCED, assumption 24). -/
def State.hostCommand (v : Valve) (e : ValveEnd) (s : State) : State :=
  (s.updValve v fun r => { r with hostMark := true, driver := .host, resetting := false }).drive v e

/-- VALVE_RESET on a valve in FAULT (R60). -/
def State.resetValve (v : Valve) (s : State) : State :=
  (s.updValve v fun r =>
    { r with reason := none, hostMark := false, demand := .a, resetting := true, driver := .reset }).startMove v .a

/-- A feedback event (R54): the position is stored, then arrival (R56) or uncommanded movement (R58) follows by the
state. -/
def State.feedback (v : Valve) (p : Position) (s : State) : State :=
  let s := s.updValve v fun r => { r with reported := p }
  match (s.valve v).state with
  | .movingToA => if p = .a then s.arrive v .a else s
  | .movingToB => if p = .b then s.arrive v .b else s
  | .atA => if p = .a then s else s.valveFault v .uncommanded
  | .atB => if p = .b then s else s.valveFault v .uncommanded
  | .fault => s

/-- An owner is active (R61): a valve of its has its owner demand at B or moves with driver OWNER, or its pump is in any
state other than STOPPED. -/
def State.ownerActive (s : State) (o : Owner) : Bool :=
  o.valves.any (fun v => decide ((s.valve v).demand = .b) ||
    ((s.valve v).state.target.isSome && decide ((s.valve v).driver = .owner))) ||
  (match o.channel with
   | some c => decide ((s.pump c).state ≠ .stopped)
   | none => false)

/-- Another intake or supply valve than this one is commanded open (R61, check 6). -/
def State.anotherOpen (s : State) (v : Valve) : Bool :=
  match v with
  | .tank t .intake => (List.finRange 12).any fun u => decide (u ≠ t) && s.commandedOpen (.tank u .intake)
  | .tank t .supply => (List.finRange 12).any fun u => decide (u ≠ t) && s.commandedOpen (.tank u .supply)
  | _ => false

/-- Leaving COMMISSION returns every valve under host command (R62). -/
def State.returnAll (s : State) : State := Valve.all.foldl State.returnValve s

/-! ### Pumps -/

/-- A pump enters FAULT (R65 to R68): run command STOP, timer stopped, channel told, ACTUATOR report; the two have no
order between them. -/
def State.pumpFault (c : Channel) (f : PumpFault) (s : State) : State :=
  let p := s.pump c
  let s := s.setPump c { p with run := false, state := .fault, timer := none, reason := some f }
  s.tell [.report ⟨.actuator, c.pumpNumber, f.code, s.clock, if p.feedback then 1 else 0⟩, .pump c (.fault f)]

/-- A start completes (R66). -/
def State.pumpRunning (c : Channel) (s : State) : State :=
  (s.setPump c { s.pump c with state := .running, timer := none }).emit (.pump c .running)

/-- A stop completes (R68). -/
def State.pumpStopped (c : Channel) (s : State) : State :=
  (s.setPump c { s.pump c with run := false, state := .stopped, timer := none }).emit (.pump c .stopped)

/-- A start command from the channel (R66). -/
def State.pumpStart (c : Channel) (s : State) : State :=
  let p := s.pump c
  match p.state with
  | .stopped | .stopping =>
    let s := s.setPump c { p with run := true, state := .starting, timer := some (after s.clock 50) }
    if p.feedback then s.pumpRunning c else s
  | .starting => s
  | .running => s.emit (.pump c .running)
  | .fault => s.emit (.pump c (.refused (p.reason.getD .tripped)))

/-- A stop command from the channel (R67, R68). -/
def State.pumpStop (c : Channel) (s : State) : State :=
  let p := s.pump c
  match p.state with
  | .starting | .running =>
    let s := s.setPump c { p with run := false, state := .stopping, timer := some (after s.clock 100) }
    if p.feedback then s else s.pumpStopped c
  | .stopping => s
  | .stopped => s.emit (.pump c .stopped)
  | .fault => s.emit (.pump c (.fault (p.reason.getD .tripped)))

/-- A change of a pump's run feedback (R65 to R68). -/
def State.pumpFeedback (c : Channel) (on : Bool) (s : State) : State :=
  let s := s.setPump c { s.pump c with feedback := on }
  match (s.pump c).state with
  | .starting => if on then s.pumpRunning c else s
  | .running => if on then s else s.pumpFault c .tripped
  | .stopping => if on then s else s.pumpStopped c
  | _ => s

/-- PUMP_RESET on a pump in FAULT (R69). -/
def State.resetPump (c : Channel) (s : State) : State :=
  ((s.setPump c { s.pump c with run := false, state := .stopped, timer := none, reason := none })).emit
    (.pump c .stopped)

end Sys2Proof.Machine
end

