-- ==== Sys2Proof/Machine/Operands.lean ====
section
/-!
DEFINITION. Reading the request payloads (R184, R185, R187): the size each request's payload has, and the fields it
carries, each checked against its range. A reader answers none where a field is outside its range; the request's own
meaning then refuses.
-/
namespace Sys2Proof.Machine

/-! ### Single fields -/

/-- A number of a range. -/
def natIn (lo hi n : Nat) : Option Nat := if lo ≤ n ∧ n ≤ hi then some n else none

/-- A signed number of a range. -/
def intIn (lo hi z : Int) : Option Int := if lo ≤ z ∧ z ≤ hi then some z else none

/-- A signed field whose range has no negative value. -/
def lengthIn (lo hi : Nat) (z : Int) : Option Nat := if (lo : Int) ≤ z ∧ z ≤ hi then some z.toNat else none

/-- A mark, an enable or a flag: 0 or 1 (R187; any other value is outside the range: DESIGN CHOICE, assumption 14). -/
def markAt (p : List Byte) (i : Nat) : Option Bool :=
  match byteAt p i with
  | 0 => some false
  | 1 => some true
  | _ => none

/-- The bit of a set's i-th value, i counted from 0 (R187). -/
def bitOf (n i : Nat) : Bool := n / 2 ^ i % 2 = 1

/-- The tank index at a place. -/
def tankAt (p : List Byte) (i : Nat) : Option TankIx := tankOfCode (byteAt p i)

/-! ### Chapter 1 -/

/-- The permission set; no bit beyond the four (DESIGN CHOICE, assumption 14). -/
def permsAt (p : List Byte) (i : Nat) : Option Perms :=
  let n := byteAt p i
  if n < 16 then some ⟨bitOf n 0, bitOf n 1, bitOf n 2, bitOf n 3⟩ else none

/-- Window length N: 1, 2, 4, 8 or 16 (R6). -/
def windowLengthOk (n : Nat) : Option Nat := if n = 1 ∨ n = 2 ∨ n = 4 ∨ n = 8 ∨ n = 16 then some n else none

/-- Size of a TANK_DEFINE payload (R187). -/
def tankDefineSize : Nat := 21

/-- The definition of a TANK_DEFINE payload, every field in its range (R6). -/
def readDefinition (p : List Byte) : Option TankDef := do
  let height ← lengthIn 500 8000 (i16At p 1)
  let residual ← natIn 0 5000 (u32At p 3)
  let arm ← intIn (-1500) 1500 (i16At p 7)
  let perms ← permsAt p 9
  let span ← lengthIn 500 8000 (i16At p 10)
  let zeroOffset ← intIn (-500) 500 (i16At p 12)
  let stepLimit ← lengthIn 1 2000 (i16At p 14)
  let windowLength ← windowLengthOk (byteAt p 16)
  let dx ← intIn (-20000) 20000 (i16At p 17)
  let dy ← intIn (-20000) 20000 (i16At p 19)
  return { height := height, residual := residual, arm := arm, perms := perms, span := span,
           zeroOffset := zeroOffset, stepLimit := stepLimit, windowLength := windowLength, dx := dx, dy := dy }

/-- The points of a STRAP_LOAD payload as carried: level signed, volume (R187). -/
def rawPoints (p : List Byte) (n : Nat) : List (Int × Nat) :=
  (List.range n).map fun i => (i16At p (2 + 6 * i), u32At p (4 + 6 * i))

/-- Levels strictly increase and volumes do not decrease from point to point (R9). -/
def pointsRise : List (Int × Nat) → Bool
  | a :: b :: rest => decide (a.1 < b.1 ∧ a.2 ≤ b.2) && pointsRise (b :: rest)
  | _ => true

/-- A strapping table for a tank of a height; none where R9 refuses it with BAD_TABLE. -/
def readStrap (height : Nat) (p : List Byte) : Option (List StrapPoint) :=
  let raw := rawPoints p (byteAt p 1)
  match raw.head?, raw.getLast? with
  | some first, some last =>
    if 2 ≤ raw.length ∧ raw.length ≤ 16 ∧ first.1 = 0 ∧ pointsRise raw = true ∧ last.1 = height ∧
        100 ≤ last.2 ∧ last.2 ≤ 99999 then
      some (raw.map fun x => { level := x.1.toNat, volume := x.2 })
    else none
  | _, _ => none

/-- The values of a TANK_LIMITS payload, each 0 to 99,999 (R18). -/
def readLimits (p : List Byte) : Option Limits := do
  let ll ← natIn 0 99999 (u32At p 1)
  let l ← natIn 0 99999 (u32At p 5)
  let h ← natIn 0 99999 (u32At p 9)
  let hh ← natIn 0 99999 (u32At p 13)
  let hysteresis ← natIn 0 99999 (u32At p 17)
  return { ll := ll, l := l, h := h, hh := hh, hysteresis := hysteresis }

/-- The three enables of one threshold at a place. -/
def thEnablesAt (p : List Byte) (i : Nat) : Option ThEnables := do
  let rising ← markAt p i
  let falling ← markAt p (i + 1)
  let wake ← markAt p (i + 2)
  return { rising := rising, falling := falling, wake := wake }

/-- The twelve enables of a TANK_NOTICE payload (R19). -/
def readNotices (p : List Byte) : Option NoticeEnables := do
  let ll ← thEnablesAt p 1
  let l ← thEnablesAt p 4
  let h ← thEnablesAt p 7
  let hh ← thEnablesAt p 10
  return { ll := ll, l := l, h := h, hh := hh }

/-- M_lim and M_hys of a BALANCE_SET payload (R23). -/
def readBalance (p : List Byte) : Option (Nat × Nat) :=
  let lim := u32At p 0
  let hys := u32At p 4
  if lim = 0 then (if hys = 0 then some (lim, hys) else none)
  else if lim ≤ 1800000000 ∧ hys < lim then some (lim, hys)
  else none

/-- The direction of TANK_SERVICE (R10): IN 1, ISOLATE 2. -/
def serviceAt (p : List Byte) (i : Nat) : Option Service :=
  match byteAt p i with
  | 1 => some .inService
  | 2 => some .isolated
  | _ => none

/-! ### Chapter 4 -/

/-- The eight settings of a SOURCE_SET payload (R95). -/
def readSourceSettings (p : List Byte) : Option SourceSettings := do
  let good ← natIn 10 9000 (u16At p 1)
  let fair ← natIn (good + 1) 9999 (u16At p 3)
  let k ← natIn 1 8 (byteAt p 5)
  let flush ← natIn 30 900 (u16At p 6)
  let dump ← (if u16At p 8 = 0 then some 0 else natIn 60 3600 (u16At p 8))
  let factor ← natIn 1 10000 (u16At p 10)
  let reference ← natIn 0 9999 (u16At p 12)
  let tolerance ← natIn 0 9999 (u16At p 14)
  return { goodLimit := good, fairLimit := fair, improvement := k, flushTime := flush, dumpLimit := dump,
           meterFactor := factor, probeReference := reference, probeTolerance := tolerance }

/-- The setting of SOURCE_PERMIT (R77): GIVE 1, WITHHOLD 2; true for GIVE. -/
def giveAt (p : List Byte) (i : Nat) : Option Bool :=
  match byteAt p i with
  | 1 => some true
  | 2 => some false
  | _ => none

/-- The watermaker a source code names. -/
def watermakerAt (p : List Byte) (i : Nat) : Option Watermaker :=
  match byteAt p i with
  | 1 => some .wm1
  | 2 => some .wm2
  | _ => none

/-- Every index of a list names a tank. -/
def readTanks : List Byte → Option (List TankIx)
  | [] => some []
  | b :: rest => do
    let t ← tankOfCode b.toNat
    let ts ← readTanks rest
    return t :: ts

/-- The size of a RULE_SET payload agrees with the group count it carries (R187). -/
def ruleSizeOk (p : List Byte) : Bool := decide (7 ≤ p.length ∧ p.length = 7 + byteAt p 6)

/-- The slot of a rule, 1 to 8, counted from 0. -/
def slotAt (p : List Byte) (i : Nat) : Option (Fin 8) :=
  let n := byteAt p i
  if h : 1 ≤ n ∧ n ≤ 8 then some ⟨n - 1, by omega⟩ else none

/-- The rule of a RULE_SET payload (R78, R79). A DUMP rule may carry a class code 0 to 3 and a group of distinct tanks; both are
read, checked and dropped (DESIGN CHOICE, assumption 15). -/
def readRule (p : List Byte) : Option Rule := do
  let enabled ← markAt p 1
  let s := byteAt p 2
  let g := byteAt p 3
  let sources ← (if s < 8 then some (SourceSet.mk (bitOf s 0) (bitOf s 1) (bitOf s 2)) else none)
  let grades ← (if g < 8 then some (GradeSet.mk (bitOf g 0) (bitOf g 1) (bitOf g 2)) else none)
  let group ← readTanks (p.drop 7)
  if group.Nodup then
    match byteAt p 4 with
    | 1 => if byteAt p 5 ≤ 3 then
        some { enabled := enabled, sources := sources, grades := grades, action := .dump } else none
    | 2 => do
      let c ← QClass.ofCode (byteAt p 5)
      if 1 ≤ group.length ∧ group.length ≤ 4 then
        some { enabled := enabled, sources := sources, grades := grades, action := .route ⟨c, group⟩ }
      else none
    | _ => none
  else none

/-! ### Chapters 5 to 10 -/

/-- The size of an ORDER_SUBMIT payload agrees with its leg count, 1 to 8 (R102, R185). -/
def submitSizeOk (p : List Byte) : Bool :=
  decide (5 ≤ p.length ∧ 1 ≤ byteAt p 4 ∧ byteAt p 4 ≤ 8 ∧ p.length = 5 + 7 * byteAt p 4)

/-- The leg at a place of an ORDER_SUBMIT payload, structurally checked (R102, check 6), as R103 places it. -/
def readLeg (p : List Byte) (i : Nat) : Option Leg := do
  let source ← tankAt p i
  let dest ← Dest.ofCode (byteAt p (i + 1))
  let condition ← EndCondition.ofCode (byteAt p (i + 2))
  let volume ← natIn 1 99999 (u32At p (i + 3))
  if dest = .tank source ∨ (condition = .fill ∧ dest = .overboard) then none
  else some { source := source, dest := dest, condition := condition, volume := volume, moved := 0, runs := 0,
              result := none, lastChannel := none }

/-- The first n legs of an ORDER_SUBMIT payload from a leg number on. -/
def readLegs (p : List Byte) : Nat → Nat → Option (List Leg)
  | 0, _ => some []
  | n + 1, k => do
    let leg ← readLeg p (5 + 7 * k)
    let rest ← readLegs p n (k + 1)
    return leg :: rest

/-- Priority, policy and legs of an ORDER_SUBMIT payload (R102, check 6). -/
def readOrder (p : List Byte) : Option (Nat × Policy × List Leg) := do
  let priority ← natIn 0 3 (byteAt p 2)
  let policy ← Policy.ofCode (byteAt p 3)
  let legs ← readLegs p (byteAt p 4) 0
  return (priority, policy, legs)

/-- The settings of a CHANNEL_SET payload (R118). -/
def readChannelSettings (p : List Byte) : Option ChannelSettings := do
  let factor ← natIn 1 10000 (u16At p 1)
  let noFlow ← natIn 5 60 (u16At p 3)
  return { meterFactor := factor, noFlowTime := noFlow }

/-- The size of a DUTY_SET payload agrees with its count, 1 to 12 (R155). -/
def dutySizeOk (p : List Byte) : Bool :=
  decide (1 ≤ p.length ∧ 1 ≤ byteAt p 0 ∧ byteAt p 0 ≤ 12 ∧ p.length = 1 + byteAt p 0)

/-- The list of a DUTY_SET payload (R155). -/
def readDuty (p : List Byte) : Option (List TankIx) := do
  let ts ← readTanks (p.drop 1)
  if ts.Nodup then some ts else none

/-- A target MODE_SET may ask for (R160). -/
def targetAt (p : List Byte) (i : Nat) : Option Mode :=
  match Mode.ofCode (byteAt p i) with
  | some .configure => some .configure
  | some .run => some .run
  | some .harbour => some .harbour
  | some .layup => some .layup
  | _ => none

/-- A start mode (R189). -/
def startModeAt (p : List Byte) (i : Nat) : Option Mode :=
  match Mode.ofCode (byteAt p i) with
  | some .run => some .run
  | some .harbour => some .harbour
  | some .layup => some .layup
  | _ => none

/-- Period and kind of a SUPERVISION_SET payload (R171). -/
def readSupervision (p : List Byte) : Option (Nat × SupKind) := do
  let period ← natIn 2 60 (u16At p 0)
  let kind ← SupKind.ofCode (byteAt p 2)
  return (period, kind)

/-- The ten enables of a REPORT_ENABLE payload (R182). -/
def readEnables (p : List Byte) : Option ReportEnables := do
  let level ← markAt p 0
  let gauge ← markAt p 1
  let tank ← markAt p 2
  let order ← markAt p 3
  let channel ← markAt p 4
  let intake ← markAt p 5
  let probe ← markAt p 6
  let supply ← markAt p 7
  let actuator ← markAt p 8
  let plant ← markAt p 9
  return { level := level, gauge := gauge, tank := tank, order := order, channel := channel, intake := intake,
           probe := probe, supply := supply, actuator := actuator, plant := plant }

end Sys2Proof.Machine
end

