-- ==== Sys2Proof/Machine/Replies.lean ====
section
/-!
DEFINITION. The payloads of the replies that read state (R24, R48, R63, R79, R97, R112, R113, R142, R156, R178, R181),
coded as R184 to R187 give. Where those rules leave a layout open, what stands here is a DESIGN CHOICE, assumption
16.
-/
namespace Sys2Proof.Machine

/-! ### Groups -/

/-- A permission set (R187). -/
def Perms.bytes (p : Perms) : List Byte := setBits [p.intake, p.transferFrom, p.transferTo, p.supply]

/-- A definition with its gauge channel parameters, in the order of R1 and R6. -/
def TankDef.bytes (d : TankDef) : List Byte :=
  i16 d.height ++ u32 d.residual ++ i16 d.arm ++ d.perms.bytes ++ i16 d.span ++ i16 d.zeroOffset ++
    i16 d.stepLimit ++ u8 d.windowLength ++ i16 d.dx ++ i16 d.dy

/-- One strapping point: level, volume. -/
def StrapPoint.bytes (p : StrapPoint) : List Byte := i16 p.level ++ u32 p.volume

/-- A list that can be absent: a presence byte, then the count and the elements; the count is 0 when it is absent. -/
def optList {α : Type} (f : α → List Byte) (l : Option (List α)) : List Byte :=
  match l with
  | some xs => mark true ++ listField f xs
  | none => mark false ++ u8 0

/-- Threshold values and hysteresis. -/
def Limits.bytes (m : Limits) : List Byte := u32 m.ll ++ u32 m.l ++ u32 m.h ++ u32 m.hh ++ u32 m.hysteresis

/-- The four threshold states. -/
def ThStates.bytes (t : ThStates) : List Byte := u8 t.ll.code ++ u8 t.l.code ++ u8 t.h.code ++ u8 t.hh.code

/-- The three enables of one threshold. -/
def ThEnables.bytes (e : ThEnables) : List Byte := mark e.rising ++ mark e.falling ++ mark e.wake

/-- The twelve notice and wake enables. -/
def NoticeEnables.bytes (n : NoticeEnables) : List Byte := n.ll.bytes ++ n.l.bytes ++ n.h.bytes ++ n.hh.bytes

/-- One entry in progress. -/
def Entry.bytes (e : Entry) : List Byte := u8 e.entrant.code ++ u8 e.waterClass.code ++ mark e.ending

/-- A tank index. -/
def tankByte (t : TankIx) : List Byte := u8 (tankCode t)

/-- A timer: the time remaining in tenths (R187); a stopped timer is coded as an absent field, a presence byte 0 and four zero
bytes (DESIGN CHOICE, assumption 16). -/
def timerBytes (now : Clock) (t : Option Clock) : List Byte := optField 4 (fun e => u32 (remaining now e)) t

/-- The attitude status: LIVE 5, STALE 6, the codes that R186's table gives these values, which R184 puts before their
places in R32's list (DEDUCED, assumption 16). -/
def Attitude.statusCode (a : Attitude) : Nat := if a.live then 5 else 6

/-- List, trim, status and out-of-range mark (R48, R178). -/
def Attitude.bytes (a : Attitude) : List Byte :=
  i16 a.list ++ i16 a.trim ++ u8 a.statusCode ++ mark a.outOfRange

/-! ### TANK_GET, GAUGE_GET -/

/-- The reply of TANK_GET (R24). An UNDEFINED tank's record holds no other field than its service state, class, claim
and M, and its threshold states, which R1 keeps at UNKNOWN, are marked absent; the claim is coded none 0, TC1 1, TC2 2. The
four threshold values and the hysteresis stand behind one common presence byte, though R24 names the hysteresis as an item of
its own; the ten fields of the definition stand behind one too, and so do the twelve enables (DESIGN CHOICE, assumption 16). -/
def State.tankReply (s : State) (t : TankIx) : List Byte :=
  let r := s.tank t
  let g := s.gauge t
  optField 20 TankDef.bytes r.defn ++ optList StrapPoint.bytes r.strap ++
    optField 4 u32 (r.strap.map fullVolume) ++
    u8 r.service.code ++ u8 r.cls.code ++ mark r.empty ++
    optField 2 (fun (l : Nat) => i16 l) r.level ++ optField 4 u32 r.volume ++ mark r.suspect ++ mark r.held ++
    optField 20 Limits.bytes r.limits ++
    (if r.defn.isSome then r.states.bytes else List.replicate 4 0) ++ optField 12 NoticeEnables.bytes r.notices ++
    optCode Channel.code r.claim ++ listField Entry.bytes r.entries ++
    optCode (fun c => GaugeState.code c.state) g ++ optField 1 (fun c => u8 c.score) g ++ i32 s.tt.moment

/-- A last-published record: level, volume, gauge state. -/
def Published.bytes (p : Published) : List Byte := i16 p.level ++ u32 p.volume ++ u8 p.state.code

/-- The reply of GAUGE_GET (R48). -/
def State.gaugeReply (s : State) (c : GaugeChannel) : List Byte :=
  i16 c.span ++ i16 c.zeroOffset ++ i16 c.stepLimit ++ u8 c.windowLength ++ i16 c.dx ++ i16 c.dy ++ i16 c.height ++
    mark c.strap.isSome ++ u8 c.state.code ++ u8 c.score ++ listField (fun (l : Nat) => i16 l) c.window ++
    optField 2 i16 c.reference ++ optField 2 (fun (l : Nat) => i16 l) c.filtered ++ optField 4 u32 c.volume ++
    optField 7 Published.bytes c.published ++ optField 4 (fun t => u32 t.toNat) c.lastSample ++
    mark c.inFlight.isSome ++ s.gu.attitude.bytes ++ u32 s.gu.attitude.lastTime.toNat

/-! ### VALVE_GET -/

/-- The reply of VALVE_GET for a valve (R63). -/
def State.valveReply (s : State) (v : Valve) : List Byte :=
  let r := s.valve v
  u8 v.number ++ u8 v.number ++ u8 v.kindCode ++ u8 v.owner.code ++ u8 r.commanded.code ++ u8 r.demand.code ++
    mark r.hostMark ++ u8 r.reported.code ++ u8 r.state.code ++ optCode ValveFault.code r.reason ++
    timerBytes s.clock r.timer ++ mark r.resetting ++ u16 s.au.travelTimeout

/-- The reply of VALVE_GET for a pump (R63, R65): run command RUN 1, STOP 2. -/
def State.pumpReply (s : State) (c : Channel) : List Byte :=
  let p := s.pump c
  u8 c.pumpNumber ++ u8 c.code ++ u8 (if p.run then 1 else 2) ++ mark p.feedback ++ u8 p.state.code ++
    timerBytes s.clock p.timer ++ optCode PumpFault.code p.reason

/-! ### SOURCE_GET, RULE_GET -/

/-- A route: water class and destination group. -/
def Route.bytes (r : Route) : List Byte := u8 r.cls.code ++ listField tankByte r.group

/-- The eight settings of a source (R95). -/
def SourceSettings.bytes (x : SourceSettings) : List Byte :=
  u16 x.goodLimit ++ u16 x.fairLimit ++ u8 x.improvement ++ u16 x.flushTime ++ u16 x.dumpLimit ++
    u16 x.meterFactor ++ u16 x.probeReference ++ u16 x.probeTolerance

/-- When a running dump timer will have run for the dump limit (R76, R97). -/
def SourceRecord.dumpEnd (r : SourceRecord) : Option Clock := r.dump.map fun t => after t (r.settings.dumpLimit * 10)

/-- The product-main record (R83). -/
def ProductMain.bytes (m : ProductMain) : List Byte :=
  u8 m.state.code ++ optCode Source.code m.holder ++ listField (fun x => u8 (Source.code x)) m.joined ++
    optCode QClass.code m.cls ++ optField 1 tankByte m.current ++ optField 1 tankByte m.next ++
    listField tankByte m.refused

/-- The fields of R71 that SHORE does not hold, up to the timers: host permit switch, inhibited mark with its cause,
permit status, flush timer, dump timer. The mark and its cause are two bytes (DESIGN CHOICE, assumption 16). -/
def State.makerBytes (s : State) (x : Source) : List Byte :=
  let r := s.source x
  let own (w : Watermaker) : List Byte :=
    u8 (if r.give then 1 else 2) ++ mark r.inhibited.isSome ++ optCode InhibitCause.code r.inhibited ++
      u8 (s.permitStatus w).code ++ timerBytes s.clock r.flush ++ timerBytes s.clock r.dumpEnd
  match x with
  | .wm1 => own .wm1
  | .wm2 => own .wm2
  | .shore => u8 0 ++ mark false ++ u8 0 ++ u8 0 ++ timerBytes s.clock none ++ timerBytes s.clock none

/-- The run signal and the permit output of a watermaker (R97). -/
def State.makerSignals (s : State) (x : Source) : List Byte :=
  match x with
  | .wm1 => mark s.pins.wm1 ++ mark (s.wmRun .wm1)
  | .wm2 => mark s.pins.wm2 ++ mark (s.wmRun .wm2)
  | .shore => []

/-- The reply of SOURCE_GET (R97). -/
def State.sourceReply (s : State) (x : Source) : List Byte :=
  let r := s.source x
  u8 r.state.code ++ optCode DumpReason.code r.dumpReason ++ optCode EndReason.code r.endReason ++ u8 r.grade.code ++
    u8 r.counter ++ optCode Grade.code r.worst ++ optField 2 u16 r.last ++ u8 (if r.probeOk then 1 else 2) ++
    optField 4 (fun t => u32 t.toNat) r.check ++ s.makerBytes x ++ optField 1 u8 r.rule ++
    (match r.route with
     | some rt => mark true ++ rt.bytes
     | none => mark false ++ u8 0 ++ u8 0) ++
    r.settings.bytes ++ u32 r.produced ++ u32 r.dumped ++ u32 r.producedResidue ++ u32 r.dumpedResidue ++
    s.makerSignals x ++ s.ir.main.bytes

/-- The reply of RULE_GET (R79), laid out as RULE_SET carries a rule (R187). -/
def Rule.bytes (r : Rule) : List Byte :=
  mark r.enabled ++ setBits [r.sources.wm1, r.sources.wm2, r.sources.shore] ++
    setBits [r.grades.good, r.grades.fair, r.grades.bad] ++
    (match r.action with
     | .dump => u8 1 ++ u8 0 ++ u8 0
     | .route rt => u8 2 ++ rt.bytes)

/-! ### ORDER_GET, ORDER_LIST, CHANNEL_GET -/

/-- A leg record of 14 bytes (R185). -/
def Leg.bytes (l : Leg) : List Byte :=
  tankByte l.source ++ u8 l.dest.code ++ u8 l.condition.code ++ u32 l.volume ++ u32 l.moved ++ u8 l.runs ++
    optCode LegResult.code l.result ++ optCode Channel.code l.lastChannel

/-- The reply of ORDER_GET (R112); `place` is the order's position in age order, from 1. The legs stand once, with their count
byte, at the end of the reply (DESIGN CHOICE, assumption 16). -/
def Order.reply (o : Order) (place : Nat) : List Byte :=
  u16 o.id ++ u8 o.priority ++ u8 o.policy.code ++ u8 o.state.code ++ u8 o.current ++ u8 place ++
    u8 (if o.heldByFallback then 1 else 0) ++ mark o.cancelRequested ++ optCode Channel.code o.channel ++
    listField Leg.bytes o.legs

/-- One line of ORDER_LIST (R113). -/
def Order.line (o : Order) : List Byte :=
  u16 o.id ++ u8 o.state.code ++ u8 o.priority ++ u8 o.current ++ optCode Channel.code o.channel

/-- The lined valves with their last answers (R115, R142). -/
def Lined.bytes (l : Lined) : List Byte :=
  u8 l.suction.number ++ u8 l.suctionAnswer.code ++ u8 l.delivery.number ++ u8 l.deliveryAnswer.code

/-- The reply of CHANNEL_GET (R142); `moved` is the running leg's figure. The claim set is a counted list of tank indices, source
first, and the totalizer's residue 4 bytes (DESIGN CHOICE, assumption 16). -/
def State.channelReply (s : State) (c : Channel) (r : ChannelRecord) (moved : Option Nat) : List Byte :=
  u8 c.code ++ u8 c.headerCode ++ u8 c.pumpNumber ++ u8 r.state.code ++ optCode OutReason.code r.outReason ++
    optField 3 (fun o => u16 o.1 ++ u8 o.2) r.order ++ optCode Phase.code r.phase ++ optCode StopCause.code r.stop ++
    listField tankByte r.claims ++ optField 4 Lined.bytes r.lined ++ u8 r.pumpTold.code ++ optField 2 u16 r.runFactor ++
    optField 2 u16 r.runNoFlow ++ u32 r.movedAtStart ++ u32 r.runPulses ++ optCode MomentSign.code r.signAtStart ++
    timerBytes s.clock r.noFlow ++ mark r.entryMade ++ u16 r.meterFactor ++ u16 r.noFlowTime ++ u32 r.totalizer ++
    u32 r.residue ++ optField 4 u32 moved ++ u8 (s.pump c).state.code

/-! ### SUPPLY_GET, STATUS_GET, FETCH_REPORTS, REPORT_ENABLE -/

/-- The commanded position and state of a tank's supply valve, or absent (R156). -/
def State.supplyValveBytes (s : State) (t : Option TankIx) : List Byte :=
  match t with
  | some t => u8 (s.valve (.tank t .supply)).commanded.code ++ u8 (s.valve (.tank t .supply)).state.code
  | none => u8 0 ++ u8 0

/-- The reply of SUPPLY_GET (R156). SUPPLY_OK is coded as a mark; each supply valve's commanded position and state stand together,
the current tank's valve first (DESIGN CHOICE, assumption 16). -/
def State.supplyReply (s : State) : List Byte :=
  let x := s.ss
  listField tankByte x.duty ++ (x.duty.flatMap fun t => mark (s.eligible t) ++ u8 (s.failingCondition t)) ++
    u8 x.state.code ++ optField 1 tankByte x.current ++ optField 1 tankByte x.next ++ optCode SoftReason.code x.cause ++
    optCode SupplyReason.code x.last ++ mark x.established ++ mark s.supplyOk ++
    s.supplyValveBytes x.current ++ s.supplyValveBytes x.next

/-- The reply of STATUS_GET (R178). Each channel's state and out reason stand together, TC1's first (DESIGN CHOICE, assumption
16). -/
def State.statusReply (s : State) : List Byte :=
  u8 s.pmc.mode.code ++ optCode Mode.code s.pmc.left ++ u8 s.pmc.sup.code ++ u8 s.sts.cause.code ++
    mark s.sts.storeValid ++ s.gu.attitude.bytes ++ i32 s.tt.moment ++ u8 s.ss.state.code ++
    optField 1 tankByte s.ss.current ++ optField 1 tankByte s.ss.next ++
    u8 s.te.tc1.state.code ++ optCode OutReason.code s.te.tc1.outReason ++
    u8 s.te.tc2.state.code ++ optCode OutReason.code s.te.tc2.outReason ++
    u8 s.ir.wm1.state.code ++ u8 s.ir.wm2.state.code ++ u8 s.ir.shore.state.code ++
    u8 s.lu.queue.length ++ mark s.lu.overflow ++ u32 s.clock.toNat

/-- A report record of 12 bytes (R186). -/
def Report.bytes (r : Report) : List Byte :=
  u8 r.kind.code ++ u16 r.subject ++ u8 r.code ++ u32 r.time.toNat ++ u32 r.value

/-- The ten enables, in the order of R182. -/
def ReportEnables.bytes (e : ReportEnables) : List Byte :=
  mark e.level ++ mark e.gauge ++ mark e.tank ++ mark e.order ++ mark e.channel ++ mark e.intake ++ mark e.probe ++
    mark e.supply ++ mark e.actuator ++ mark e.plant

/-- The plant mode, and in WAKING the wake target and phase (R160; DESIGN CHOICE, assumption 17). -/
def ModeController.bytes (p : ModeController) : List Byte :=
  u8 p.mode.code ++ optCode Mode.code (p.wake.bind (·.target)) ++ optCode (fun w => WakePhase.code w.phase) p.wake

end Sys2Proof.Machine
end

