-- ==== Sys2Proof/Machine/ActuatorRequests.lean ====
section
/-!
DEFINITION. What the Actuator Unit answers to its requests (R60, R61, R63, R64, R69).
-/
namespace Sys2Proof.Machine

/-- VALVE_SET (R61). -/
def answerValveSet (p : List Byte) (s : State) : Answer × State :=
  if p.length ≠ 2 then refuse .badLength s
  else if s.mode ≠ .commission then refuse .modeConflict s
  else match Valve.ofNumber (byteAt p 0), ValveEnd.ofCode (byteAt p 1) with
    | some v, some e =>
      if (s.valve v).state = .fault then refuse .faultPresent s
      else if s.ownerActive v.owner then refuse .busy s
      else if e = .b ∧ s.anotherOpen v = true then refuse .busy s
      else accept [] (s.hostCommand v e)
    | _, _ => refuse .badValue s

/-- VALVE_RESET (R60). -/
def answerValveReset (p : List Byte) (s : State) : Answer × State :=
  if p.length ≠ 1 then refuse .badLength s
  else match Valve.ofNumber (byteAt p 0) with
    | some v => if (s.valve v).state = .fault then accept [] (s.resetValve v) else refuse .badValue s
    | none => refuse .badValue s

/-- VALVE_GET (R63). -/
def answerValveGet (p : List Byte) (s : State) : Answer × State :=
  if p.length ≠ 1 then refuse .badLength s
  else match Valve.ofNumber (byteAt p 0) with
    | some v => accept (s.valveReply v) s
    | none =>
      match Channel.ofPumpNumber (byteAt p 0) with
      | some c => accept (s.pumpReply c) s
      | none => refuse .badValue s

/-- ACTUATOR_SET (R64). R64 names no size check; a payload that is not its two bytes is BAD_LENGTH before any other check, as in
every request whose own rule names one (DESIGN CHOICE, assumption 42). -/
def answerActuatorSet (p : List Byte) (s : State) : Answer × State :=
  if p.length ≠ 2 then refuse .badLength s
  else if !s.mode.configuring then refuse .modeConflict s
  else if s.saving then refuse .busy s
  else match natIn 10 120 (u16At p 0) with
    | some n => accept (u16 n) { s with au := { s.au with travelTimeout := n } }
    | none => refuse .badValue s

/-- PUMP_RESET (R69). -/
def answerPumpReset (p : List Byte) (s : State) : Answer × State :=
  if p.length ≠ 1 then refuse .badLength s
  else match Channel.ofPumpNumber (byteAt p 0) with
    | some c => if (s.pump c).state = .fault then accept [] (s.resetPump c) else refuse .badValue s
    | none => refuse .badValue s

end Sys2Proof.Machine
end

