-- ==== Sys2Proof/Machine/TankTable.lean ====
section
/-!
DEFINITION. The Tank Table's own operations (chapter 1): notices of change, the moment, publications, threshold
evaluation, held values, entries, definition, removal, strapping and class changes.
-/
namespace Sys2Proof.Machine

/-- What has changed between two records of a tank (R4, R16). -/
def tankChange (defined : Bool) (cause : ClassCause) (old new : TankRecord) : TankChange :=
  { definition := defined, service := decide (old.service ≠ new.service),
    cls := if old.cls = new.cls then none else some cause,
    states := if old.states = new.states then none else some new.states,
    crossings := crossings old.states new.states, empty := decide (old.empty ≠ new.empty) }

/-- Something has changed: there is a notice to send (R4). -/
def TankChange.something (c : TankChange) : Bool :=
  c.definition || c.service || c.cls.isSome || c.states.isSome || c.empty

/-- The Tank Table tells the other blocks of a change to a tank, as one notice naming all that changed (R4); the Plant
Mode Controller is told of a service change, a definition or a removal (R164). `old` is the record before the event;
`defined` says that the event was a definition, a redefinition or a removal, and `cause` is the cause of a change of class. The
notice names every crossing and the final states (R16). -/
def State.tellTank (t : TankIx) (defined : Bool) (cause : ClassCause) (old : TankRecord) (s : State) : State :=
  let c := tankChange defined cause old (s.tank t)
  if c.something then
    s.tell ([Msg.tank .ir t c, .tank .te t c, .tank .ss t c] ++
      (if c.definition || c.service then [Msg.tank .pmc t c] else []))
  else s

/-- The Tank Table works M out anew and tells the Transfer Engine a new value (R22). -/
def State.reMoment (s : State) : State :=
  let m := momentOf s.tt.tanks
  if m = s.tt.moment then s else { s with tt := { s.tt with moment := m } }.emit (.moment m)

/-- One crossing taken (R16): its LEVEL report when the tank's notice enable is set, then its wake cause when the wake
enable is set and the mode is LAYUP (R17). -/
def State.takeCrossing (t : TankIx) (vol : Nat) (n : NoticeEnables) (s : State) (x : Threshold × Direction) :
    State :=
  let e := n.get x.1
  let s := if (match x.2 with | .rising => e.rising | .falling => e.falling) then
      s.report .level (tankCode t) (x.1.code * 16 + x.2.code) vol
    else s
  if e.wake && decide (s.mode = .layup) then s.emit (.wake t x.1 x.2) else s

/-- Set a tank's threshold states to an evaluation's result and take its crossings in order (R16). The wake causes go out
here, so the Plant Mode Controller takes them before any block takes the tank's notice of the same crossings (DESIGN CHOICE,
assumption 58). -/
def State.takeStates (t : TankIx) (vol : Nat) (new : ThStates) (s : State) : State :=
  let r := s.tank t
  let s := s.updTank t fun r => { r with states := new }
  match r.notices with
  | some n => (crossings r.states new).foldl (State.takeCrossing t vol n) s
  | none => s

/-- The threshold states after a publication of a volume (R15): a first setting where the volume was absent, an
evaluation otherwise. -/
def publishedStates (r : TankRecord) (vol : Nat) : ThStates :=
  match r.limits with
  | some m => if r.volume.isNone then firstStates m vol else evalStates m vol r.states
  | none => r.states

/-- The Tank Table takes a publication (R12). A publication for an UNDEFINED tank changes nothing. The wake causes go out before
the tank's notice (DESIGN CHOICE, assumption 58), and that before M's (DESIGN CHOICE, assumption 48). -/
def State.publish (t : TankIx) (level vol : Nat) (g : GaugeState) (s : State) : State :=
  let old := s.tank t
  if old.service = .undefined then s
  else
    let s := s.updTank t fun r =>
      let r := { r with level := some level, volume := some vol, suspect := decide (g = GaugeState.suspect), held := false }
      { r with empty := emptyFlag r }
    let s := s.takeStates t vol (publishedStates old vol)
    (s.tellTank t false .hostRequest old).reMoment

/-- The Tank Table marks a tank's published values held, if they are present (R12). -/
def State.hold (t : TankIx) (s : State) : State :=
  s.updTank t fun r => { r with held := r.volume.isSome }

/-- The record with its published values absent (R12, R13): threshold states UNKNOWN, empty flag false. The marks,
which have no meaning without a volume, are cleared (DEDUCED, assumption 20). -/
def TankRecord.withoutVolume (r : TankRecord) : TankRecord :=
  { r with level := none, volume := none, suspect := false, held := false, empty := false,
           states := ThStates.unknown }

/-- A gauge has entered SETTLING by readmission: its published values become absent (R12, R47). -/
def State.dropPublished (t : TankIx) (s : State) : State :=
  let old := s.tank t
  ((s.updTank t TankRecord.withoutVolume).tellTank t false .hostRequest old).reMoment

/-! ### Entries (section 1.8) -/

/-- An entry notice: the answer of R20, decided against the tank as it stands, and the entry made. -/
def State.entryNotice (t : TankIx) (e : Entrant) (c : QClass) (s : State) : EntryAnswer × State :=
  let old := s.tank t
  let entry : Entry := { entrant := e, waterClass := c, ending := false }
  if old.service = .undefined then (.conflict, s)
  else if old.empty && old.entries.isEmpty then
    let s := s.updTank t fun r => { r with cls := c, entries := r.entries ++ [entry] }
    let s := if c = old.cls then s else s.report .tank (tankCode t) 1 c.code
    (.adopted, s.tellTank t false .adoption old)
  else if !c.worse old.cls then
    (.kept, s.updTank t fun r => { r with entries := r.entries ++ [entry] })
  else (.conflict, s)

/-- An entry-end notice (R21): the entrant's record leaves the list, whatever its mark. -/
def State.entryEnd (t : TankIx) (e : Entrant) (s : State) : State :=
  s.updTank t fun r => { r with entries := r.entries.filter fun x => x.entrant ≠ e }

/-! ### What the requests do -/

/-- TANK_CLASS on a tank that holds another class (R11): conflicting entries are marked as ending and their entrants
told, then the blocks are told of the change (DEDUCED, assumptions 22 and 32). -/
def State.changeClass (t : TankIx) (c : QClass) (s : State) : State :=
  let old := s.tank t
  if c = old.cls then s
  else
    let clash (x : Entry) : Bool := x.waterClass.worse c
    let s := s.updTank t fun r =>
      { r with cls := c, entries := r.entries.map fun x => if clash x then { x with ending := true } else x }
    let s := (old.entries.filter clash).foldl (fun s x => s.emit (.conflict t x.entrant)) s
    s.tellTank t false .hostRequest old

/-- TANK_SERVICE (R10): IN makes an ISOLATED tank IN_SERVICE, ISOLATE an IN_SERVICE tank ISOLATED. -/
def State.setService (t : TankIx) (v : Service) (s : State) : State :=
  let old := s.tank t
  (s.updTank t fun r => { r with service := v }).tellTank t false .hostRequest old

/-- The record of a first definition (R6); the claim is left as it stands. -/
def TankRecord.define (d : TankDef) (r : TankRecord) : TankRecord :=
  { TankRecord.blank .quarantine with
    defn := some d, service := .isolated, notices := some NoticeEnables.initial, claim := r.claim }

/-- The record of a redefinition (R7): a table whose last level differs from the new height is discarded, and with it
the published values and an IN_SERVICE state; the empty flag is worked out anew. -/
def TankRecord.redefine (d : TankDef) (r : TankRecord) : TankRecord :=
  let r := { r with defn := some d }
  let kept := match r.strap with
    | some tb => decide (lastLevel tb = d.height)
    | none => true
  let r := if kept then r
    else { r.withoutVolume with strap := none, service := if r.service = .inService then .isolated else r.service }
  { r with empty := emptyFlag r }

/-- The record of a removed tank (R8): only the claim is left. -/
def TankRecord.remove (r : TankRecord) : TankRecord := { TankRecord.blank .quarantine with claim := r.claim }

/-- The threshold values after a strapping table with full volume f is loaded, and whether defaults were taken (R9). -/
def strapLimits (f : Nat) (old : Option Limits) : Limits × Bool :=
  match old with
  | some m => if limitsOk (clampLimits f m) then (clampLimits f m, false) else (defaultLimits f, true)
  | none => (defaultLimits f, true)

/-- The record after an accepted STRAP_LOAD (R9): a published volume is held and clamped to the new full volume. -/
def TankRecord.loadStrap (tb : List StrapPoint) (r : TankRecord) : TankRecord :=
  let f := fullVolume tb
  let r := { r with strap := some tb, limits := some (strapLimits f r.limits).1,
                    held := r.volume.isSome, volume := r.volume.map (min f) }
  { r with empty := emptyFlag r }

/-- TANK_LIMITS after its checks (R18): the values are stored, and the states are evaluated against a published volume
that is present and not held. The wake causes go out before the tank's notice (DESIGN CHOICE, assumption 58). -/
def State.setLimits (t : TankIx) (m : Limits) (s : State) : State :=
  let old := s.tank t
  let s := s.updTank t fun r => { r with limits := some m }
  match old.volume with
  | some vol =>
    if old.held then s
    else (s.takeStates t vol (evalStates m vol old.states)).tellTank t false .hostRequest old
  | none => s

end Sys2Proof.Machine
end

