-- ==== Sys2Proof/Machine/Intake.lean ====
section
/-!
DEFINITION. The Intake Router's own operations (chapter 4): grading, permits, timers, the decision for a source, the
product main with its changeovers, and the shore episode.
-/
namespace Sys2Proof.Machine

/-! ### State changes with their reports

Effects that a rule names without numbering stand in the order in which it names them (DEDUCED, assumption 40). -/

/-- The shore's end reason for a dump outcome (R80, R92). -/
def DumpReason.shoreEnd : DumpReason → EndReason
  | .grade => .grade
  | .noRule => .noRule
  | .overflow => .overflow
  | .mainConflict => .mainConflict
  | .probeCheck => .probeFault
  | .probeFault => .probeFault
  | .mode => .mode

/-- A watermaker's state and dump reason; a change of either queues its INTAKE report (R74). -/
def State.setMaker (w : Watermaker) (st : SourceState) (d : Option DumpReason) (s : State) : State :=
  let r := s.source w.source
  if r.state = st ∧ r.dumpReason = d then s
  else (s.updSource w.source fun r => { r with state := st, dumpReason := d }).report .intake w.source.code st.code
    ((d.map DumpReason.code).getD 0)

/-- The shore's state and end reason; a change of state queues its INTAKE report (R91). -/
def State.setShore (st : SourceState) (e : Option EndReason) (s : State) : State :=
  let changed := decide (s.ir.shore.state ≠ st)
  let s := s.updSource .shore fun r => { r with state := st, endReason := e }
  if changed then s.report .intake Source.shore.code st.code ((e.map EndReason.code).getD 0) else s

/-- The product main's record; a change of its state or tanks queues the MAIN report (R83). -/
def State.setMain (m : ProductMain) (s : State) : State :=
  let old := s.ir.main
  let s := s.setMainRaw m
  if old.state = m.state ∧ old.current = m.current ∧ old.next = m.next then s
  else s.report .intake 0 0x13 (if m.state = .unused then 0 else (m.heading.map tankCode).getD 0)

/-- The permit status follows mode, switch and mark; a change queues its PERMIT report, but for a change to INHIBITED,
whose report R76 gives (R75). -/
def State.updatePermit (w : Watermaker) (s : State) : State :=
  let st := s.permitStatus w
  if st = (s.source w.source).permit then s
  else
    let s := s.updSource w.source fun r => { r with permit := st }
    if st = .inhibited then s else s.report .intake w.source.code 0x12 st.code

/-- The inhibited mark is set with a cause (R76, R90); a mark already set with that cause stays (DEDUCED,
assumption 23). -/
def State.inhibit (w : Watermaker) (c : InhibitCause) (s : State) : State :=
  if (s.source w.source).inhibited = some c then s
  else
    let s := s.updSource w.source fun r => { r with inhibited := some c, dump := none }
    (s.report .intake w.source.code 0x11 c.code).updatePermit w

/-- The dump timer's conditions hold (R76). -/
def State.dumpTimerRuns (s : State) (w : Watermaker) : Bool :=
  let r := s.source w.source
  (decide (r.state = .routing) || decide (r.state = .dumping)) &&
    !decide ((s.valve (.diverter w)).state = .atB) && r.inhibited.isNone

/-- The dump timer starts from zero when its conditions begin to hold and stops when one ceases (R76). -/
def State.keepDumpTimer (w : Watermaker) (s : State) : State :=
  match s.dumpTimerRuns w, (s.source w.source).dump with
  | true, none => s.updSource w.source fun r => { r with dump := some s.clock }
  | false, some _ => s.updSource w.source fun r => { r with dump := none }
  | _, _ => s

/-- Both dump timers, after anything that can change their conditions. -/
def State.keepDumpTimers (s : State) : State := (s.keepDumpTimer .wm1).keepDumpTimer .wm2

/-! ### Outlets: the diverters and SH -/

/-- On leaving the main a diverter is commanded to DUMP, SH to CLOSED (R85); a faulted diverter is commanded nothing
(R90). -/
def State.closeOutlet (x : Source) (s : State) : State :=
  match x with
  | .shore => s.command .shore .a
  | _ => if (s.valve x.outlet).state = .fault then s else s.command x.outlet .a

/-- A diverter is commanded to MAIN, SH to OPEN (R83, R84). -/
def State.openOutlet (s : State) (x : Source) : State := s.command x.outlet .b

/-! ### The product main -/

/-- The destination group of a source's route. -/
def State.groupOf (s : State) (x : Source) : List TankIx := ((s.source x).route.map (·.group)).getD []

/-- The holder's destination group. -/
def State.holderGroup (s : State) : List TankIx :=
  match s.ir.main.holder with
  | some h => s.groupOf h
  | none => []

/-- The first tank of a group, other than one, that can accept a class (R83, R86, R87). -/
def State.choose (s : State) (group : List TankIx) (c : QClass) (except : Option TankIx) : Option TankIx :=
  group.find? fun t => decide (some t ≠ except) && s.canAccept c t

/-- The sources on the main, holder first. -/
def ProductMain.sources (m : ProductMain) : List Source := m.holder.toList ++ m.joined

/-- A source's state when it is turned away: a watermaker is DUMPING with the reason; the shore ends with it, but a
probe check holds it in PAUSED (R80, R92, R93). -/
def State.turnAway (x : Source) (d : DumpReason) (s : State) : State :=
  match x with
  | .wm1 => s.setMaker .wm1 .dumping (some d)
  | .wm2 => s.setMaker .wm2 .dumping (some d)
  | .shore => if d = .probeCheck then s.setShore .paused none else s.setShore .closed (some d.shoreEnd)

/-- A joined source whose group does not contain the heading tank leaves with MAIN_CONFLICT (R84). -/
def State.shedOne (s : State) (x : Source) : State :=
  match s.ir.main.heading with
  | some t =>
    if (s.groupOf x).contains t then s
    else
      let s := (s.closeOutlet x).updSource x fun r => { r with route := none }
      let s := s.setMainRaw { s.ir.main with joined := s.ir.main.joined.erase x }
      s.turnAway x .mainConflict
  | none => s

/-- The joined sources are checked whenever the heading tank changes (R84). -/
def State.shedJoined (s : State) : State := s.ir.main.joined.foldl State.shedOne s

/-- A tank becomes the next tank and its intake valve is commanded OPEN. -/
def State.headFor (t : TankIx) (st : MainState) (s : State) : State :=
  let s := s.setMain { s.ir.main with state := st, next := some t }
  (s.command (.tank t .intake) .b).shedJoined

/-- The changeover of R86; false where no tank is found. -/
def State.changeover (s : State) : State × Bool :=
  let m := s.ir.main
  match m.cls.bind fun c => s.choose s.holderGroup c m.current with
  | some t => (s.headFor t .changing, true)
  | none => (s, false)

/-- The main loses its next tank (R87): its valve is commanded CLOSED where it is not in FAULT, and the choice is made
again; false where there is none. A tank lost and replaced within one event is one change of the main's tanks, with one MAIN
report for the new heading tank (R83; DESIGN CHOICE, assumption 43). -/
def State.loseNext (s : State) : State × Bool :=
  let s : State := match s.ir.main.next with
    | some t => if (s.valve (.tank t .intake)).state = .fault then s else s.command (.tank t .intake) .a
    | none => s
  let m := s.ir.main
  let without (s : State) : State := s.setMainRaw { s.ir.main with next := none }
  match m.cls with
  | none => (without s, false)
  | some c =>
    if m.state = .changing ∧ m.current.any (s.canAccept c) = true then
      ((s.setMain { m with state := .delivering, next := none }).shedJoined, true)
    else
      match s.choose s.holderGroup c m.current with
      | some t => (s.headFor t m.state, true)
      | none => (without s, false)

/-- The main is released (R85): its intake valves are commanded CLOSED, the entry ends, and decisions follow for every
source. The decisions go out as a notice of the router to itself, behind those in flight (DESIGN CHOICE, assumption 49). -/
def State.release (s : State) : State :=
  let m := s.ir.main
  let s := m.current.toList.foldl (fun s t => s.command (.tank t .intake) .a) s
  let s := m.next.toList.foldl (fun s t => s.command (.tank t .intake) .a) s
  let s := m.current.toList.foldl (fun s t => s.entryEnd t .intake) s
  (s.setMain ProductMain.unused).emit .decide

/-- The tank for a new holder (R85): the heading tank is kept while it belongs to the holder's group and can accept;
otherwise the next tank is lost, or the changeover runs; false where no tank is found. -/
def State.tankForHolder (s : State) : State × Bool :=
  let m := s.ir.main
  let keeps : Bool := match m.heading, m.cls with
    | some t, some c => s.holderGroup.contains t && s.canAccept c t
    | _, _ => false
  if keeps then (s, true)
  else if m.state = .delivering then s.changeover
  else s.loseNext

/-- A source leaves the main (R85). The number bounds the sources that leave one after another: at most three. -/
def State.leaveMain : Nat → Source → State → State
  | 0, _, s => s
  | n + 1, x, s =>
    let s := (s.closeOutlet x).updSource x fun r => { r with route := none }
    let m := s.ir.main
    if m.joined.contains x then s.setMainRaw { m with joined := m.joined.erase x }
    else if m.holder = some x then
      match m.joined with
      | [] => s.release
      | h :: rest =>
        let (s, found) := (s.setMainRaw { m with holder := some h, joined := rest }).tankForHolder
        if found then s else (State.leaveMain n h s).turnAway h .overflow
    else s

/-- The holder leaves the main, and is then turned away with reason OVERFLOW (R86, R87). -/
def State.holderOverflow (s : State) : State :=
  match s.ir.main.holder with
  | some h => (s.leaveMain 4 h).turnAway h .overflow
  | none => s

/-- Run an operation that looks for a tank; the holder leaves with OVERFLOW where none is found. -/
def State.orOverflow (r : State × Bool) : State := if r.2 then r.1 else r.1.holderOverflow

/-- The flow into the current tank is interrupted (R88). Of the shore's states, FILLING alone has SH commanded CLOSED
(DEDUCED, assumption 30). A current tank lost and replaced by a next tank within this event is one change, with one MAIN
report (DESIGN CHOICE, assumption 43). -/
def State.interrupt (s : State) : State :=
  let m := s.ir.main
  let s := m.sources.foldl (fun s x =>
    match x with
    | .shore => if s.ir.shore.state = .filling then (s.command .shore .a).setShore .opening none else s
    | _ => s.closeOutlet x) s
  let s := m.current.toList.foldl (fun s t =>
    (if (s.valve (.tank t .intake)).state = .fault then s else s.command (.tank t .intake) .a).entryEnd t .intake) s
  match m.next with
  | some _ => s.setMain { s.ir.main with state := .opening, current := none }
  | none =>
    let s := s.setMainRaw { s.ir.main with state := .opening, current := none }
    match m.cls.bind fun c => s.choose s.holderGroup c none with
    | some t => s.headFor t .opening
    | none => s.holderOverflow

/-- The next tank's intake valve reports OPEN (R83, R86): an entry notice, and the main delivers, completes its
changeover, or chooses again. -/
def State.nextOpened (t : TankIx) (s : State) : State :=
  match s.ir.main.cls with
  | none => s
  | some c =>
    let (answer, s) := s.entryNotice t .intake c
    let m := s.ir.main
    match answer with
    | .conflict => State.orOverflow (s.setMainRaw { m with refused := m.refused ++ [t] }).loseNext
    | _ =>
      if m.state = .changing then
        let s := m.current.toList.foldl (fun s u => (s.command (.tank u .intake) .a).entryEnd u .intake) s
        s.setMain { s.ir.main with state := .delivering, current := some t, next := none }
      else
        let s := s.setMain { m with state := .delivering, current := some t, next := none }
        m.sources.foldl State.openOutlet s

/-! ### Decisions (R80) -/

/-- A rule's grade set holds a grade. -/
def GradeSet.has (g : GradeSet) : Grade → Bool
  | .good => g.good | .fair => g.fair | .bad => g.bad

/-- A rule's source set holds a source. -/
def SourceSet.has (x : SourceSet) : Source → Bool
  | .wm1 => x.wm1 | .wm2 => x.wm2 | .shore => x.shore

/-- The first enabled rule that matches a source and its grade, with its slot 1 to 8 (R78). -/
def State.matchRule (s : State) (x : Source) : Option (Nat × Rule) :=
  ((List.finRange 8).find? fun k =>
    let r := s.ir.rules[k]
    r.enabled && r.sources.has x && r.grades.has (s.source x).grade).map fun k => (k.val + 1, s.ir.rules[k])

/-- What a decision gives (R80): off the main with a dump reason, the shore's end for a faulted SH, or the main with a
route. -/
inductive Wish
  | off (d : DumpReason)
  | valveFault
  | main (r : Route)
  deriving DecidableEq, Repr

/-- The mode allows a source's product (R75, R80). -/
def State.modeAllows (s : State) : Source → Bool
  | .shore => decide (s.pmc.mode = .harbour)
  | _ => s.production

/-- The outcome of a decision: the rule in force it leaves, and what the source should do (R80; no rule is in force
where steps 1 to 4 decide: DEDUCED, assumption 21). -/
def State.outcome (s : State) (x : Source) : Option Nat × Wish :=
  let r := s.source x
  if !s.modeAllows x then (none, .off .mode)
  else if r.check.isSome then (none, .off .probeCheck)
  else if !r.probeOk then (none, .off .probeFault)
  else if (s.valve x.outlet).state = .fault then
    (none, if x = .shore then .valveFault else .off .mainConflict)
  else
    match s.matchRule x with
    | none => (none, .off .noRule)
    | some (k, rule) =>
      match rule.action with
      | .dump => (some k, .off .grade)
      | .route rt => (some k, .main rt)

/-- A source that is not on the main is turned away with its outlet commanded closed (R80). A watermaker that is DUMPING with
the same reason already changes nothing, so its diverter gets no command (R81; DEDUCED, assumption 57). -/
def State.keepOff (x : Source) (d : DumpReason) (s : State) : State :=
  match x with
  | .shore => if d = .probeCheck then s.turnAway .shore d else (s.command .shore .a).turnAway .shore d
  | _ =>
    if (s.source x).state = .dumping ∧ (s.source x).dumpReason = some d then s
    else (s.turnAway x d).command x.outlet .a

/-- A source's state when it has a place on the main: ROUTING, or OPENING for the shore. -/
def State.setOnMain (x : Source) (s : State) : State :=
  match x with
  | .wm1 => s.setMaker .wm1 .routing none
  | .wm2 => s.setMaker .wm2 .routing none
  | .shore => s.setShore .opening none

/-- A source that is not on the main asks for it: it takes it, the main's change first and then its own (R83; the order in which
the rule names them, assumption 40), joins it (R84), or is turned away. -/
def State.ask (x : Source) (rt : Route) (s : State) : State :=
  let m := s.ir.main
  if m.state = .unused then
    match s.choose rt.group rt.cls none with
    | some t =>
      let s := (s.updSource x fun r => { r with route := some rt }).setMainRaw
        { m with holder := some x, joined := [], cls := some rt.cls, refused := [] }
      (s.headFor t .opening).setOnMain x
    | none => s.keepOff x .overflow
  else if m.cls = some rt.cls ∧ m.heading.any (rt.group.contains ·) = true then
    let s := (s.updSource x fun r => { r with route := some rt }).setOnMain x
    let s := s.setMainRaw { m with joined := m.joined ++ [x] }
    if m.state = .delivering ∨ m.state = .changing then s.openOutlet x else s
  else s.keepOff x .mainConflict

/-- The shore ends for a cause that is no rule of R78: it leaves the main or has SH commanded CLOSED, and then it is CLOSED with
its end reason (R92). No rule decided that state, so none is in force (R71; DEDUCED, assumption 21). -/
def State.endShore (e : EndReason) (s : State) : State :=
  if s.ir.shore.state = .closed then s
  else
    let s := if s.ir.main.on .shore then s.leaveMain 4 .shore else s.command .shore .a
    let s := s.updSource .shore fun r => { r with rule := none }
    s.setShore .closed (some e)

/-- A decision for a source (R80). A source on the main whose outcome is a dump leaves the main and then takes the reason, in the
order in which R80, R92 and R93 name the two (assumption 40). -/
def State.decideFor (x : Source) (s : State) : State :=
  let (rule, wish) := s.outcome x
  let s := s.updSource x fun r => { r with rule := rule }
  match wish with
  | .off d => if s.ir.main.on x then (s.leaveMain 4 x).turnAway x d else s.keepOff x d
  | .valveFault => s.endShore .valveFault
  | .main rt =>
    if s.ir.main.on x then
      if s.ir.main.cls = some rt.cls then s.updSource x fun r => { r with route := some rt }
      else (s.leaveMain 4 x).ask x rt
    else if x = .shore ∧ s.ir.shore.state = .paused then (s.setShore .opening none).ask .shore rt
    else s.ask x rt

/-- R80 applies to a source in these states. -/
def SourceState.decides : SourceState → Bool
  | .routing => true
  | .dumping => true
  | .opening => true
  | .filling => true
  | .paused => true
  | _ => false

/-- A decision for a source to which R80 applies. -/
def State.decideIf (s : State) (x : Source) : State := if (s.source x).state.decides then s.decideFor x else s

/-- Decisions for every source, in the order WM1, WM2, SHORE (R81). -/
def State.decideAll (s : State) : State := [Source.wm1, .wm2, .shore].foldl State.decideIf s

/-! ### Notices and answers -/

/-- The main's own handling of a notice about a tank (R86, R87, R88). -/
def State.mainOnTank (t : TankIx) (s : State) : State :=
  let m := s.ir.main
  match m.cls with
  | none => s
  | some c =>
    if m.current = some t ∧ classAdmits (s.tank t) c = false then s.interrupt
    else if m.next = some t ∧ s.canAccept c t = false then State.orOverflow s.loseNext
    else if m.current = some t ∧ m.state = .delivering ∧ s.intakeReady t = false then State.orOverflow s.changeover
    else s

/-- The router takes a notice about a tank from the Tank Table or the Gauging Unit (R81, R82): the tank leaves the
refused set, the main's handling is first, decisions follow. -/
def State.intakeTank (t : TankIx) (s : State) : State :=
  let m := s.ir.main
  ((s.setMainRaw { m with refused := m.refused.filter (· ≠ t) }).mainOnTank t).decideAll

/-- The router takes a conflict notice for the main's entry (R88). -/
def State.intakeConflict (t : TankIx) (s : State) : State :=
  (if s.ir.main.current = some t then s.interrupt else s).decideAll

/-- The router takes an answer of the Actuator Unit (R89, R90), and decisions follow (R81). -/
def State.intakeValve (v : Valve) (a : ValveAnswer) (s : State) : State :=
  let m := s.ir.main
  let s : State := match v, a with
    | .tank t .intake, .atB => if m.next = some t then s.nextOpened t else s
    | .tank t .intake, .failed _ =>
      if m.next = some t then State.orOverflow s.loseNext
      else if m.current = some t then s.interrupt
      else s
    | .diverter w, .failed _ => s.inhibit w .diverterFault
    | .shore, .atB =>
      if s.ir.shore.state = .opening ∧ (m.state = .delivering ∨ m.state = .changing) then s.setShore .filling none
      else s
    | .shore, .failed _ => s.endShore .valveFault
    | _, _ => s
  s.decideAll

/-! ### Run signals, grading, checks, pulses -/

/-- A change of grade queues its INTAKE report (R73). -/
def State.setGrade (x : Source) (g : Grade) (s : State) : State :=
  let old := (s.source x).grade
  let s := s.updSource x fun r => { r with grade := g, counter := 0, worst := none }
  if g = old then s else s.report .intake x.code 0x10 g.code

/-- The run signal of a watermaker rises in STOPPED (R74); where that changes its grade, decisions follow (R81). -/
def State.makerRise (w : Watermaker) (s : State) : State :=
  if (s.source w.source).state = .stopped then
    let old := (s.source w.source).grade
    let s := ((s.setMaker w .flushing none).setGrade w.source .bad).command (.diverter w) .a
    let s := s.updSource w.source fun r => { r with flush := some (after s.clock (r.settings.flushTime * 10)) }
    if old = .bad then s else s.decideAll
  else s

/-- The run signal of a watermaker falls (R74); no rule stays in force (DEDUCED, assumption 21). -/
def State.makerFall (w : Watermaker) (s : State) : State :=
  let st := (s.source w.source).state
  if st = .flushing ∨ st = .routing ∨ st = .dumping then
    let s := s.setMaker w .stopped none
    let s := s.updSource w.source fun r => { r with flush := none, dump := none, rule := none }
    if s.ir.main.on w.source then s.leaveMain 4 w.source else s.command (.diverter w) .a
  else s

/-- The grade of one sample (R73). -/
def SourceSettings.gradeOf (x : SourceSettings) (v : Nat) : Grade :=
  if v ≤ x.goodLimit then .good else if v ≤ x.fairLimit then .fair else .bad

/-- The worse of two grades. -/
def Grade.max (a b : Grade) : Grade := if a.worse b then a else b

/-- Grading one sample against the grade in force (R73): the new grade, counter and worst of run. -/
def SourceRecord.graded (r : SourceRecord) (v : Nat) : Grade × Nat × Option Grade :=
  let g := r.settings.gradeOf v
  if g.worse r.grade then (g, 0, none)
  else if g = r.grade then (r.grade, 0, none)
  else
    let w := match r.worst with
      | some x => x.max g
      | none => g
    if r.counter + 1 ≥ r.settings.improvement then (w, 0, none) else (r.grade, r.counter + 1, some w)

/-- A conductivity sample (R73). While a probe check is in flight it is stored and not graded (R93). -/
def State.conductivity (x : Source) (v : Nat) (s : State) : State :=
  let v := min v 9999
  let r := s.source x
  if r.check.isSome then s.updSource x fun r => { r with last := some v, checkSample := some v }
  else
    let (g, n, w) := r.graded v
    let s := s.updSource x fun r => { r with last := some v, grade := g, counter := n, worst := w }
    if g = r.grade then s else (s.report .intake x.code 0x10 g.code).decideAll

/-- A probe check ends (R94): result from the last sample taken during it, PROBE report, decisions. -/
def State.endCheck (x : Source) (s : State) : State :=
  let r := s.source x
  let pass : Bool := match r.checkSample with
    | some v => decide (((v : Int) - r.settings.probeReference).natAbs ≤ r.settings.probeTolerance)
    | none => false
  let s := s.updSource x fun r => { r with check := none, checkSample := none, probeOk := pass }
  (s.report .probe x.code (if pass then 1 else 2) (r.checkSample.getD 10000)).decideAll

/-- A source pulse (R96): produced while the source delivers, dumped otherwise for a watermaker, not counted otherwise
for the shore. In START the router takes no samples, its flow samples among them (R72). -/
def State.sourcePulse (x : Source) (s : State) : State :=
  let delivers : Bool := match x with
    | .shore => decide (s.ir.shore.state = .filling)
    | _ => decide ((s.valve x.outlet).state = .atB)
  if s.mode = .start then s
  else s.updSource x fun r =>
    if delivers then
      let (t, c) := countPulse r.settings.meterFactor (r.produced, r.producedResidue)
      { r with produced := t, producedResidue := c }
    else if x = .shore then r
    else
      let (t, c) := countPulse r.settings.meterFactor (r.dumped, r.dumpedResidue)
      { r with dumped := t, dumpedResidue := c }

/-- The dump timer has run for the dump limit (R76): the inhibited mark is set. A limit of 0 never expires. -/
def State.dumpExpired (w : Watermaker) (s : State) : State :=
  let r := s.source w.source
  if r.dump.isSome ∧ r.settings.dumpLimit ≠ 0 then s.inhibit w .dumpLimit else s

/-- The router takes a change of plant mode: the shore's end (R92) and the permits (R75), in the order in which R161 and R168 name
them (DEDUCED, assumption 40), then the run signals as the plant leaves START (R72; WM1 before WM2 in both, DESIGN CHOICE,
assumption 52), then the decisions (R81). -/
def State.intakeMode (old new : Mode) (s : State) : State :=
  let s := if old = .harbour then s.endShore (if new = .fallback then .fallback else .mode) else s
  let s := (s.updatePermit .wm1).updatePermit .wm2
  let s := if old = .start then
      let s := if s.pins.wm1 then s.makerRise .wm1 else s
      if s.pins.wm2 then s.makerRise .wm2 else s
    else s
  s.decideAll

/-- SOURCE_SET after its checks (R95): settings replaced, counter reset, an overrun dump timer expires at once, decisions
follow. -/
def State.setSource (x : Source) (v : SourceSettings) (s : State) : State :=
  let s := s.updSource x fun r => { r with settings := v, counter := 0, worst := none }
  let overrun (w : Watermaker) (s : State) : State :=
    match (s.source w.source).dump with
    | some t => if v.dumpLimit * 10 ≤ elapsed s.clock t then s.dumpExpired w else s
    | none => s
  let s : State := match x with
    | .wm1 => overrun .wm1 s
    | .wm2 => overrun .wm2 s
    | .shore => s
  s.decideAll

/-- A flush ends (R74): the first decision makes the source ROUTING or DUMPING. -/
def State.endFlush (w : Watermaker) (s : State) : State :=
  let r := s.source w.source
  if r.state = .flushing ∧ r.flush.isSome then
    (s.updSource w.source fun r => { r with flush := none }).decideFor w.source
  else s

end Sys2Proof.Machine
end

