-- ==== Sys2Proof/Machine/IntakeRequests.lean ====
section
/-!
DEFINITION. What the Intake Router answers to its requests (R77, R79, R91, R92, R93, R95, R97).
-/
namespace Sys2Proof.Machine

/-- SOURCE_SET (R95). -/
def answerSourceSet (p : List Byte) (s : State) : Answer × State :=
  if p.length ≠ 16 then refuse .badLength s
  else if !s.mode.configuring then refuse .modeConflict s
  else if s.saving then refuse .busy s
  else match Source.ofCode (byteAt p 0), readSourceSettings p with
    | some x, some v => accept [] (s.setSource x v)
    | _, _ => refuse .badValue s

/-- An accepted SOURCE_PERMIT (R77). After GIVE the dump timer runs from zero where its conditions hold: a timer that was running
is dropped here, and `State.deliver` starts it at this event's time. -/
def State.permitSwitch (w : Watermaker) (give : Bool) (s : State) : State :=
  (s.updSource w.source fun r =>
    { r with give := give, inhibited := if give then none else r.inhibited,
             dump := if give then none else r.dump }).updatePermit w

/-- SOURCE_PERMIT (R77). -/
def answerSourcePermit (p : List Byte) (s : State) : Answer × State :=
  if p.length ≠ 2 then refuse .badLength s
  else match watermakerAt p 0, giveAt p 1 with
    | some w, some g =>
      let s := s.permitSwitch w g
      accept (u8 (s.permitStatus w).code) s
    | _, _ => refuse .badValue s

/-- SOURCE_GET (R97). -/
def answerSourceGet (p : List Byte) (s : State) : Answer × State :=
  if p.length ≠ 1 then refuse .badLength s
  else match Source.ofCode (byteAt p 0) with
    | some x => accept (s.sourceReply x) s
    | none => refuse .badValue s

/-- RULE_SET (R79). -/
def answerRuleSet (p : List Byte) (s : State) : Answer × State :=
  if !ruleSizeOk p then refuse .badLength s
  else if !s.mode.configuring then refuse .modeConflict s
  else if s.saving then refuse .busy s
  else match slotAt p 0, readRule p with
    | some k, some r => accept [] { s with ir := { s.ir with rules := s.ir.rules.set k r } }.decideAll
    | _, _ => refuse .badValue s

/-- RULE_GET (R79). -/
def answerRuleGet (p : List Byte) (s : State) : Answer × State :=
  if p.length ≠ 1 then refuse .badLength s
  else match slotAt p 0 with
    | some k => accept (s.ir.rules[k]).bytes s
    | none => refuse .badValue s

/-- An accepted SHORE_OPEN (R91). -/
def State.openShore (s : State) : State := (s.setShore .opening none).decideFor .shore

/-- SHORE_OPEN (R91). -/
def answerShoreOpen (p : List Byte) (s : State) : Answer × State :=
  if p.length ≠ 0 then refuse .badLength s
  else if s.mode ≠ .harbour then refuse .modeConflict s
  else if s.ir.shore.state ≠ .closed ∨ s.ir.shore.check.isSome = true then refuse .busy s
  else if (s.valve .shore).state = .fault then refuse .faultPresent s
  else
    let s := s.openShore
    accept (u8 s.ir.shore.state.code ++ optCode EndReason.code s.ir.shore.endReason) s

/-- SHORE_CLOSE (R92). -/
def answerShoreClose (p : List Byte) (s : State) : Answer × State :=
  if p.length ≠ 0 then refuse .badLength s else accept [] (s.endShore .host)

/-- An accepted PROBE_CHECK (R93): 20 s of reference cell, and decisions. -/
def State.beginCheck (x : Source) (s : State) : State :=
  (s.updSource x fun r => { r with check := some (after s.clock 200), checkSample := none }).decideAll

/-- PROBE_CHECK (R93). -/
def answerProbeCheck (p : List Byte) (s : State) : Answer × State :=
  if p.length ≠ 1 then refuse .badLength s
  else match Source.ofCode (byteAt p 0) with
    | none => refuse .badValue s
    | some x => if (s.source x).check.isSome then refuse .busy s else accept [] (s.beginCheck x)

end Sys2Proof.Machine
end

