-- ==== Sys2Proof/Machine/Gauging.lean ====
section
/-!
DEFINITION. The Gauging Unit's own operations (chapter 2): conversion, plausibility, score, correction, window,
volume, gauge states, publication, channel restart, readmission, and the scan schedule.
-/
namespace Sys2Proof.Machine

/-! ### Arithmetic (R34, R37, R39, R40) -/

/-- Nearest whole number of p / 10,000, halves away from zero (R37, 00_scope.md Rounding). -/
def nearestTenThousandth (p : Int) : Int := p.sign * (((p.natAbs + 5000) / 10000 : Nat) : Int)

/-- The head of a raw code (R34). -/
def headOf (c : GaugeChannel) (raw : Nat) : Int := ((raw * c.span / 65520 : Nat) : Int) + c.zeroOffset

/-- A head corrected for attitude and clamped to the tank (R37). -/
def correctedLevel (c : GaugeChannel) (a : Attitude) (head : Int) : Nat :=
  let level := head - nearestTenThousandth (c.dx * a.trim) - nearestTenThousandth (c.dy * a.list)
  (min (max level 0) c.height).toNat

/-- The volume at a level by a strapping table (R40). -/
def interpolate (tb : List StrapPoint) (level : Nat) : Nat :=
  match tb with
  | [] => 0
  | [p] => p.volume
  | p :: q :: rest =>
    if level < q.level then p.volume + (level - p.level) * (q.volume - p.volume) / (q.level - p.level)
    else interpolate (q :: rest) level

/-- The filtered level of a full window of n values (R39). -/
def filteredLevel (window : List Nat) (n : Nat) : Nat := (window.sum + n / 2) / n

/-! ### One sample (section 2.4) -/

/-- A sample is a converter fault when its code is above 65520, or when no answer came (R30): none stands for it,
some raw for an ordinary sample. -/
def sampleOf (raw : Nat) : Option Nat := if raw > 65520 then none else some raw

/-- The head of an ordinary sample is plausible (R35). -/
def plausibleHead (c : GaugeChannel) (head : Int) : Bool :=
  match c.reference with
  | some ref => decide ((head - ref).natAbs ≤ c.stepLimit)
  | none => true

/-- The score after an implausible sample (R36). -/
def scoreUp (n : Nat) : Nat := min (n + 8) 255

/-- The window after a corrected level has entered it (R38). -/
def enterWindow (n : Nat) (w : List Nat) (level : Nat) : List Nat :=
  (if n ≤ w.length then w.drop (w.length + 1 - n) else w) ++ [level]

/-- A corrected level enters the window, and level and volume follow (R38, R39, R40). -/
def GaugeChannel.enter (c : GaugeChannel) (level : Nat) : GaugeChannel :=
  let w := enterWindow c.windowLength c.window level
  if w.length = c.windowLength then
    let f := filteredLevel w c.windowLength
    { c with window := w, filtered := some f, volume := c.strap.map fun tb => interpolate tb f }
  else { c with window := w }

/-- The gauge state after the check that ends a sample (R42). -/
def checkState (c : GaugeChannel) : GaugeState :=
  if c.score ≥ 128 then .failed
  else match c.state with
    | .settling => if c.window.length = c.windowLength then (if c.score ≥ 64 then .suspect else .valid) else .settling
    | .valid => if c.score ≥ 64 then .suspect else .valid
    | .suspect => if c.score ≤ 31 then .valid else .suspect
    | .failed => .failed

/-- The channel after the steps of section 2.4 on one sample, before the state check: a converter fault is
implausible and leaves the reference head; any other sample makes its head the reference head (R35). -/
def GaugeChannel.sampled (c : GaugeChannel) (a : Attitude) : Option Nat → GaugeChannel
  | none => { c with score := scoreUp c.score }
  | some raw =>
    let head := headOf c raw
    if plausibleHead c head then
      { c with reference := some head, score := c.score - 1 }.enter (correctedLevel c a head)
    else { c with reference := some head, score := scoreUp c.score }

/-- The channel after a sample outside FAILED, state check included; entering FAILED makes level and volume absent
(R42, R44). -/
def GaugeChannel.handled (c : GaugeChannel) (a : Attitude) (raw : Option Nat) : GaugeChannel :=
  let c := c.sampled a raw
  let st := checkState c
  if st = .failed then { c with state := .failed, filtered := none, volume := none } else { c with state := st }

/-- What a channel has to publish (R41): in VALID or SUSPECT with a level and a volume that differ, with the state,
from its last-published record. -/
def GaugeChannel.toPublish (c : GaugeChannel) : Option Published :=
  if c.state = .valid ∨ c.state = .suspect then
    match c.filtered, c.volume with
    | some l, some v =>
      let p : Published := { level := l, volume := v, state := c.state }
      if c.published = some p then none else some p
    | _, _ => none
  else none

/-- The Gauging Unit tells the other blocks of a gauge state (R26, R43, R44, R47, R164). -/
def State.tellGauge (t : TankIx) (g : GaugeState) (s : State) : State :=
  s.tell [.gauge .ir t g, .gauge .te t g, .gauge .ss t g, .gauge .pmc t g]

/-- The publication that ends a sample (R41): the Tank Table takes it and the channel replaces its last-published
record. -/
def State.publishChannel (t : TankIx) (c : GaugeChannel) (s : State) : State :=
  match c.toPublish with
  | some p => (s.setGauge t (some { c with published := some p })).publish t p.level p.volume p.state
  | none => s.setGauge t (some c)

/-- A sample taken by a channel (R30, R31, sections 2.4 and 2.5): a FAILED channel discards it; otherwise the channel
handles it, publishes, and tells of a change of gauge state with its GAUGE report (R43, R44, R45). -/
def State.takeSample (t : TankIx) (c : GaugeChannel) (raw : Option Nat) (s : State) : State :=
  let c := { c with inFlight := none, lastSample := some s.clock }
  if c.state = .failed then s.setGauge t (some c)
  else
    let c' := c.handled s.gu.attitude raw
    let s := s.publishChannel t c'
    if c'.state = c.state then s
    else
      let s := if c'.state = .failed then s.hold t else s
      (s.report .gauge (tankCode t) c'.state.code c'.score).tellGauge t c'.state

/-! ### Restart, readmission, deletion (R26, R27, R28, R47) -/

/-- A channel in a fresh start with a definition and a table (R26, R28). -/
def GaugeChannel.fresh (d : TankDef) (strap : Option (List StrapPoint)) (now : Clock) (last : Option Clock) :
    GaugeChannel :=
  { span := d.span, zeroOffset := d.zeroOffset, stepLimit := d.stepLimit, windowLength := d.windowLength,
    dx := d.dx, dy := d.dy, height := d.height, strap := strap, state := .settling, score := 0, window := [],
    reference := none, filtered := none, volume := none, published := none, nextScan := now, inFlight := none,
    lastSample := last }

/-- A channel restart with the parameters and table the Tank Table now holds (R26): the published values are held, a
GAUGE report is queued and the blocks are told. -/
def State.restartChannel (t : TankIx) (s : State) : State :=
  match (s.tank t).defn with
  | some d =>
    let last := (s.gauge t).bind (·.lastSample)
    let s := s.setGauge t (some (GaugeChannel.fresh d (s.tank t).strap s.clock last))
    ((s.hold t).report .gauge (tankCode t) GaugeState.settling.code 0).tellGauge t .settling
  | none => s

/-- The channel after an accepted GAUGE_READMIT (R47): its schedule and a request in flight are kept. -/
def GaugeChannel.readmitted (c : GaugeChannel) : GaugeChannel :=
  { c with state := .settling, score := 0, window := [], filtered := none, volume := none, reference := none,
           published := none }

/-! ### Definition, removal and strapping: the two blocks together (R6 to R9, R26, R27) -/

/-- An accepted TANK_DEFINE (R6, R7). The blocks are told of the tank, then of M, then of the gauge (DESIGN CHOICE,
assumption 48). -/
def State.defineTank (t : TankIx) (d : TankDef) (s : State) : State :=
  let old := s.tank t
  let s := s.updTank t (if old.service = .undefined then TankRecord.define d else TankRecord.redefine d)
  ((s.tellTank t true .hostRequest old).reMoment).restartChannel t

/-- An accepted TANK_REMOVE (R8, R27). The blocks are told of the tank and then of M (DESIGN CHOICE, assumption 48). -/
def State.removeTank (t : TankIx) (s : State) : State :=
  let old := s.tank t
  let s := (s.updTank t TankRecord.remove).setGauge t none
  (s.tellTank t true .hostRequest old).reMoment

/-- An accepted STRAP_LOAD (R9). The blocks are told of the tank, then of M, then of the gauge (DESIGN CHOICE,
assumption 48). -/
def State.loadStrap (t : TankIx) (tb : List StrapPoint) (s : State) : State :=
  let old := s.tank t
  let s := s.updTank t (TankRecord.loadStrap tb)
  ((s.tellTank t false .hostRequest old).reMoment).restartChannel t

/-- An accepted GAUGE_READMIT (R47). The blocks are told of the tank, then of M, then of the gauge (DESIGN CHOICE,
assumption 48). -/
def State.readmit (t : TankIx) (c : GaugeChannel) (s : State) : State :=
  let s := (s.setGauge t (some c.readmitted)).dropPublished t
  (s.report .gauge (tankCode t) GaugeState.settling.code 0).tellGauge t .settling

/-! ### Schedule (R29) -/

/-- The scan period in force, in tenths (R29). -/
def scanPeriod (m : Mode) : Nat := if m = .layup then 600 else 5

/-- The earlier of two times (R29). -/
def earlier (now a b : Clock) : Clock :=
  if reached now a then a else if (a - now).toNat ≤ (b - now).toNat then a else b

/-- Change every channel. -/
def State.mapGauges (f : GaugeChannel → GaugeChannel) (s : State) : State :=
  { s with gu := { s.gu with channels := Vector.tabulate fun t => (s.gu.channels[t]).map f } }

/-- The Gauging Unit takes a change of plant mode (R29): leaving START every request goes out at once; leaving LAYUP
each next scan time comes forward to within 0.5 s. -/
def State.gaugeMode (old : Mode) (s : State) : State :=
  match old with
  | .start => s.mapGauges fun c => { c with nextScan := s.clock }
  | .layup => s.mapGauges fun c => { c with nextScan := earlier s.clock c.nextScan (after s.clock 5) }
  | _ => s

end Sys2Proof.Machine
end

