-- ==== Sys2Proof/Machine/Modes.lean ====
section
/-!
DEFINITION. The Plant Mode Controller's own operations (chapter 8): the change of mode, waking, and supervision.
-/
namespace Sys2Proof.Machine

/-! ### Plant mode (R158, R169) -/

/-- The supervision timer started now with the period in force (R169). -/
def State.newTimer (s : State) : SupTimer :=
  { start := s.clock, period := s.pmc.period, expiry := after s.clock (s.pmc.period * 10) }

/-- Change the controller's record. -/
def State.updMode (f : ModeController → ModeController) (s : State) : State := { s with pmc := f s.pmc }

/-- A PLANT report (R186). -/
def State.reportPlant (subject code value : Nat) (s : State) : State := s.report .plant subject code value

/-- The supervision state and timer that entering a mode leaves (R169). -/
def State.supervisionOn (s : State) (new : Mode) : Supervision × Option SupTimer :=
  if new.supervised then
    if s.pmc.mode.supervised then (s.pmc.sup, s.pmc.timer) else (.watching, some s.newTimer)
  else (.off, none)

/-- A change of plant mode (R158), with the wake record it leaves. -/
def State.changeMode (new : Mode) (wake : Option WakeRecord) (s : State) : State :=
  let old := s.pmc.mode
  let sup := s.supervisionOn new
  let s := s.updMode fun p =>
    { p with mode := new, left := if new = .fallback then some old else p.left, wake := wake,
             sup := sup.1, timer := sup.2 }
  (s.reportPlant 0 1 (old.code * 256 + new.code)).tell
    [.mode .gu old new, .mode .au old new, .mode .ir old new, .mode .te old new, .mode .ss old new]

/-! ### Waking (section 8.4) -/

/-- No tank that is IN_SERVICE has its gauge in SETTLING (R164). -/
def State.gaugesSettled (s : State) : Bool :=
  (List.finRange 12).all fun t =>
    !(decide ((s.tank t).service = .inService) && (s.gauge t).any fun c => c.state = .settling)

/-- WARMING completes (R164): by the gauges 1, by the wake limit 2 (R186). -/
def State.completeWarming (way : Nat) (w : WakeRecord) (s : State) : State :=
  let s := match w.cause with
    | .crossing t th d => s.reportPlant (tankCode t) 5 (th.code * 65536 + d.code * 256 + way)
    | .host => s
  match w.target with
  | some m => s.changeMode m none
  | none => s.updMode fun p =>
    { p with wake := some { w with phase := .confirming, limit := none, confirm := some (after s.clock 3000) } }

/-- The examination of WARMING (R164). -/
def State.examineWarming (s : State) : State :=
  match s.pmc.wake with
  | some w => if w.phase = .warming ∧ s.gaugesSettled = true then s.completeWarming 1 w else s
  | none => s

/-- The plant enters WAKING (R163, R165). -/
def State.enterWaking (cause : WakeCause) (target : Option Mode) (s : State) : State :=
  (s.changeMode .waking (some
    { cause := cause, target := target, phase := .warming, limit := some (after s.clock 600),
      confirm := none })).examineWarming

/-- A wake cause from the Tank Table (R165). -/
def State.takeWake (t : TankIx) (th : Threshold) (d : Direction) (s : State) : State :=
  if s.mode = .layup then s.enterWaking (.crossing t th d) none else s

/-- The wake limit timer expires (R164). -/
def State.wakeLimitExpires (s : State) : State :=
  match s.pmc.wake with
  | some w => if w.phase = .warming ∧ w.limit.isSome then s.completeWarming 2 w else s
  | none => s

/-- The tank a wake record names, or 0. -/
def WakeCause.subject : WakeCause → Nat
  | .crossing t _ _ => tankCode t
  | .host => 0

/-- The confirm timer expires: the wake is false (R166). -/
def State.confirmExpires (s : State) : State :=
  match s.pmc.wake with
  | some w =>
    if w.phase = .confirming ∧ w.confirm.isSome then (s.reportPlant w.cause.subject 6 0).changeMode .layup none
    else s
  | none => s

/-! ### MODE_SET (R160 to R166) -/

/-- A target that R160's table refuses from the mode in force. -/
def Mode.unreachable (cur target : Mode) : Bool := decide (cur = .fallback ∧ target = .layup)

/-- A watermaker that is FLUSHING or ROUTING blocks LAYUP (R162). -/
def SourceState.blocksLayup : SourceState → Bool
  | .flushing => true
  | .routing => true
  | _ => false

/-- The conditions of R162. -/
def State.layupBlocked (s : State) : Bool :=
  (s.te.orders.any fun o => o.state.live) || s.ir.wm1.state.blocksLayup || s.ir.wm2.state.blocksLayup ||
    decide (s.ir.shore.state ≠ .closed)

/-- What an accepted MODE_SET does (R160, R161, R163, R166). -/
def State.setMode (target : Mode) (s : State) : State :=
  if s.mode = target then s
  else match s.mode with
    | .layup => s.enterWaking .host (some target)
    | .waking =>
      match s.pmc.wake with
      | some w =>
        if target = .layup then s.changeMode .layup none
        else if w.phase = .warming then s.updMode fun p => { p with wake := some { w with target := some target } }
        else s.changeMode target none
      | none => s.changeMode target none
    | _ => s.changeMode target none

/-! ### Supervision (R169 to R172) -/

/-- A lapse (R170). -/
def State.lapse (c : SupCause) (s : State) : State :=
  match s.pmc.sup with
  | .watching =>
    (s.updMode fun p => { p with sup := .warning, timer := some s.newTimer }).reportPlant 0 3 c.code
  | .warning => (s.reportPlant 0 4 c.code).changeMode .fallback none
  | .off => s

/-- The supervision timer expires (R170). -/
def State.supervisionExpires (s : State) : State :=
  if s.pmc.timer.isSome then s.lapse .expiry else s

/-- How a heartbeat was judged (R172). -/
inductive Judgement
  | onTime | early | notJudged
  deriving DecidableEq, Repr

def Judgement.code : Judgement → Nat
  | .onTime => 1 | .early => 2 | .notJudged => 3

/-- The judgement of a heartbeat taken now (R172). -/
def State.judge (s : State) : Judgement :=
  match s.pmc.sup, s.pmc.kind, s.pmc.timer with
  | .off, _, _ => .notJudged
  | _, .window, some t => if elapsed s.clock t.start < t.period * 5 then .early else .onTime
  | _, _, _ => .onTime

/-- A heartbeat (R172). -/
def State.takeHeartbeat (s : State) : State :=
  match s.judge with
  | .notJudged => s
  | .early => s.lapse .early
  | .onTime =>
    let warned := decide (s.pmc.sup = .warning)
    let s := s.updMode fun p => { p with sup := .watching, timer := some s.newTimer }
    if warned then s.reportPlant 0 2 SupCause.heartbeat.code else s

end Sys2Proof.Machine
end

