-- ==== Sys2Proof/Machine/Supply.lean ====
section
/-!
DEFINITION. The Supply Selector's own operations (chapter 7): searches of the duty list, the examination of R148 to
R153, and what DUTY_SET and SUPPLY_ADVANCE do.
-/
namespace Sys2Proof.Machine

/-- The tank a SUPPLY report names (R147): the current tank, or the next tank, or 0. -/
def SupplySelector.subject (x : SupplySelector) : Nat := ((x.current <|> x.next).map tankCode).getD 0

/-- A change of state, current or next tank since `old` queues its SUPPLY report (R147): one report for what one event changes
(DESIGN CHOICE, assumption 43). -/
def State.reportSupply (old : SupplySelector) (s : State) : State :=
  let n := s.ss
  if n.state = old.state ∧ n.current = old.current ∧ n.next = old.next then s
  else s.report .supply n.subject n.state.code ((n.last.map SupplyReason.code).getD 0)

/-- Change the supply record. -/
def State.updSupply (f : SupplySelector → SupplySelector) (s : State) : State := { s with ss := f s.ss }

/-! ### Searching the list (R145) -/

/-- First eligible, passing over the tanks named as excluded. -/
def State.firstEligible (s : State) (out : List TankIx) : Option TankIx :=
  s.ss.duty.find? fun t => s.eligible t && !out.contains t

/-- The list read from the entry after a tank to the end and then from the beginning up to it; a tank that is not in
the list leaves it whole. -/
def listAfter (x : TankIx) (l : List TankIx) : List TankIx := (l.dropWhile (· ≠ x)).drop 1 ++ l.takeWhile (· ≠ x)

/-- Next eligible after a tank, passing over the tanks named as excluded. -/
def State.nextEligible (s : State) (x : TankIx) (out : List TankIx) : Option TankIx :=
  (listAfter x s.ss.duty).find? fun t => s.eligible t && decide (t ≠ x) && !out.contains t

/-! ### Moves -/

/-- A supply valve is commanded CLOSED where it is not in FAULT. -/
def State.closeSupply (t : TankIx) (s : State) : State :=
  if (s.valve (.tank t .supply)).state = .fault then s else s.command (.tank t .supply) .a

/-- A supply valve is commanded OPEN. -/
def State.openSupply (t : TankIx) (s : State) : State := s.command (.tank t .supply) .b

/-- A tank becomes the next tank of a switch (R148, R149, R151). -/
def State.switchTo (t : TankIx) (s : State) : State :=
  (s.updSupply fun x => { x with state := .switching, next := some t }).openSupply t

/-- A tank becomes the next tank of a changeover for a soft reason (R150, R153 to R155). -/
def State.changeTo (t : TankIx) (c : SoftReason) (s : State) : State :=
  (s.updSupply fun x =>
    { x with state := .changeover, next := some t, cause := some c, last := some c.reason }).openSupply t

/-- The state without a tank (R148, R149): LOST when the established mark is set, SEARCHING when it is clear. -/
def State.noSupply (s : State) : State :=
  s.updSupply fun x => { x with state := if x.established then .lost else .searching, next := none }

/-- SEARCHING and LOST (R148). -/
def State.findSupply (s : State) : State :=
  match s.firstEligible [] with
  | some t => s.switchTo t
  | none => s

/-- In SWITCHING the next tank is given up (R149); the last reason stays (DESIGN CHOICE, assumption 54). -/
def State.giveUpSwitch (t : TankIx) (s : State) : State :=
  let s := (s.closeSupply t).updSupply fun x => { x with next := none }
  match s.firstEligible [t] with
  | some u => s.switchTo u
  | none => s.noSupply

/-- In CHANGEOVER the next tank is given up (R152); the last reason stays, also where the changeover ends with it (DESIGN CHOICE,
assumption 54). -/
def State.giveUpChange (cur t : TankIx) (s : State) : State :=
  let s := (s.closeSupply t).updSupply fun x => { x with next := none }
  match s.nextEligible t [cur] with
  | some u => (s.updSupply fun x => { x with next := some u }).openSupply u
  | none => s.updSupply fun x =>
    { x with state := if (s.tank cur).states.l = .below then .lastReserve else .supplying, cause := none }

/-- A hard reason on the current tank, the first of the table (R151). -/
def State.hardReason (s : State) (t : TankIx) : Option SupplyReason :=
  let r := s.tank t
  (([(decide (r.cls ≠ .potable), SupplyReason.cls),
     (s.gaugeLost .ss t, .gauge),
     (decide (r.service = .isolated), .service),
     (decide (r.service ≠ .undefined) && !r.permits (·.supply), .permission),
     (decide (r.service = .undefined), .removed),
     (decide (r.states.ll = .below), .drawTrip),
     (decide ((s.valve (.tank t .supply)).state = .fault), .valveFault)] : List (Bool × SupplyReason)).find?
       (·.1)).map (·.2)

/-- The break of R151 in SUPPLYING and LAST_RESERVE. -/
def State.breakSupply (t : TankIx) (r : SupplyReason) (s : State) : State :=
  let s := (s.closeSupply t).updSupply fun x => { x with current := none, last := some r }
  match s.firstEligible [t] with
  | some u => s.switchTo u
  | none => s.updSupply fun x => { x with state := .lost }

/-! ### The examination (R146) -/

/-- The rule of the state the record is in (R148 to R153); `opened` is the tank whose supply valve has just answered at
OPEN. In CHANGEOVER a hard reason on the current tank stands before the next tank's loss of eligibility (DESIGN CHOICE,
assumption 51). -/
def State.examineCore (opened : Option TankIx) (s : State) : State :=
  match s.ss.state, s.ss.current, s.ss.next with
  | .searching, _, _ => s.findSupply
  | .lost, _, _ => s.findSupply
  | .switching, _, some t =>
    if !s.eligible t then s.giveUpSwitch t
    else if opened = some t then
      s.updSupply fun x => { x with state := .supplying, current := some t, next := none, established := true }
    else s
  | .supplying, some t, _ =>
    match s.hardReason t with
    | some r => s.breakSupply t r
    | none =>
      if (s.tank t).states.l = .below then
        match s.nextEligible t [] with
        | some u => s.changeTo u .low
        | none => s.updSupply fun x => { x with state := .lastReserve, last := some .low }
      else s
  | .lastReserve, some t, _ =>
    match s.hardReason t with
    | some r => s.breakSupply t r
    | none =>
      if s.eligible t then s.updSupply fun x => { x with state := .supplying }
      else
        match s.nextEligible t [] with
        | some u => s.changeTo u .low
        | none => s
  | .changeover, some t, some u =>
    if opened = some u ∧ s.eligible u = true then
      (s.closeSupply t).updSupply fun x =>
        { x with state := .supplying, current := some u, next := none, cause := none,
                 last := x.cause.map SoftReason.reason }
    else
      match s.hardReason t with
      | some r =>
        (s.closeSupply t).updSupply fun x =>
          { x with state := .switching, current := none, cause := none, last := some r }
      | none => if !s.eligible u then s.giveUpChange t u else s
  | _, _, _ => s

/-- An examination with its report (R146, R147). In START no notice is taken (R144). -/
def State.examine (opened : Option TankIx) (s : State) : State :=
  if s.mode = .start then s else (s.examineCore opened).reportSupply s.ss

/-- An answer about a valve (R146). -/
def State.supplyValve (v : Valve) (a : ValveAnswer) (s : State) : State :=
  match v, a with
  | .tank t .supply, .atB => s.examine (some t)
  | _, _ => s.examine none

/-! ### Requests -/

/-- What an accepted DUTY_SET does after the new list stands (R155). -/
def State.actOnDuty (s : State) : State :=
  let x := s.ss
  match x.state, x.current, x.next with
  | .supplying, some t, _ | .lastReserve, some t, _ =>
    if x.duty.contains t && s.eligible t then s
    else
      match s.firstEligible [t] with
      | some u => s.changeTo u .duty
      | none => s
  | .changeover, some t, some u => if x.duty.contains u then s else s.giveUpChange t u
  | .switching, _, some u => if x.duty.contains u then s else s.giveUpSwitch u
  | .searching, _, _ | .lost, _, _ => s.findSupply
  | _, _, _ => s

/-- An accepted DUTY_SET (R155). -/
def State.setDuty (l : List TankIx) (s : State) : State :=
  (s.updSupply fun x => { x with duty := l }).actOnDuty.reportSupply s.ss

/-- The tank SUPPLY_ADVANCE moves to, where it is not refused (R154). -/
def State.advanceTarget (s : State) : Option TankIx :=
  match s.ss.state, s.ss.current with
  | .supplying, some t => s.nextEligible t []
  | .lastReserve, some t => s.nextEligible t []
  | _, _ => none

/-- An accepted SUPPLY_ADVANCE (R154). -/
def State.advance (t : TankIx) (s : State) : State := (s.changeTo t .advance).reportSupply s.ss

end Sys2Proof.Machine
end

