-- ==== Sys2Proof/Machine/Transfer.lean ====
section
/-!
DEFINITION. The Transfer Engine's own operations (chapters 5 and 6): the order store, the arbiter with its guard list,
the leg-start checks, the phases of a run, its stops, and the end of a run.
-/
namespace Sys2Proof.Machine

/-! ### Legs and reports (R99, R100, R104, R186) -/

/-- The greatest value of a 32-bit count (R98, R100, R115). -/
def countMax : Nat := 4294967295

/-- The leg an order is at: its current leg index counts from 1 (R99). -/
def Order.leg (o : Order) : Option Leg := o.legs[o.current - 1]?

/-- Change the k-th leg of an order, k from 1. -/
def Order.updLeg (k : Nat) (f : Leg → Leg) (o : Order) : Order := { o with legs := o.legs.modify (k - 1) f }

/-- Change the k-th leg of the order with an id. -/
def State.updLeg (id k : Nat) (f : Leg → Leg) (s : State) : State := s.updOrder id (Order.updLeg k f)

/-- The tanks of a leg: source, then the destination where it is a tank (R122). -/
def Leg.tanks (l : Leg) : List TankIx :=
  match l.dest with
  | .tank t => [l.source, t]
  | .overboard => [l.source]

/-- The leg a channel runs. -/
def State.runLeg (s : State) (c : Channel) : Option Leg :=
  match (s.chan c).order with
  | some (id, k) => (s.order id).bind fun o => o.legs[k - 1]?
  | none => none

/-- The value of an order state report (R104, R186): leg index, and the channel on an entry into ACTIVE. -/
def orderValue (leg : Nat) (c : Option Channel) : Nat := leg * 16777216 + (c.map Channel.code).getD 0

/-- The value of a leg-end report (R104, R186): leg index, and the moved litres up to the field's greatest value. -/
def legEndValue (leg moved : Nat) : Nat := leg * 16777216 + min moved 16777215

/-- The state report of the order with an id, as it stands (R104). -/
def State.reportOrder (id : Nat) (s : State) : State :=
  match s.order id with
  | some o => s.report .order id o.state.code (orderValue o.current (if o.state = .active then o.channel else none))
  | none => s

/-- An order enters a state; any state but PENDING takes it off the guard list (R121). -/
def State.enterOrder (id : Nat) (st : OrderState) (f : Order → Order) (s : State) : State :=
  let s := s.updOrder id fun o => f { o with state := st }
  let s := if st = .pending then s
    else { s with te := { s.te with guardList := s.te.guardList.filter (· ≠ id) } }
  s.reportOrder id

/-- A leg ends with a result: recorded, and its leg-end report queued (R106, R107, R108). -/
def State.endLeg (id k : Nat) (r : LegResult) (s : State) : State :=
  let s := s.updLeg id k fun l => { l with result := some r }
  let moved := (((s.order id).bind fun o => o.legs[k - 1]?).map (·.moved)).getD 0
  s.report .order id r.code (legEndValue k moved)

/-! ### The store takes the outcome of a run (R106, R107) -/

/-- What the end of a leg makes of its order (R106, step 3): the new state, and whether the order moves on to its next
leg. -/
def Order.afterEnd (o : Order) (r : LegResult) : OrderState × Bool :=
  if o.cancelRequested then (.cancelled, false)
  else if r.successful || decide (o.policy = .skip) then
    (if o.current < o.legs.length then (.pending, true) else (.done, false))
  else (.failed, false)

/-- The store takes a leg end (R106). -/
def State.takeLegEnd (id k : Nat) (r : LegResult) (s : State) : State :=
  let s := s.endLeg id k r
  match s.order id with
  | none => s
  | some o =>
    let next := o.afterEnd r
    s.enterOrder id next.1 fun o =>
      { o with channel := none, current := if next.2 then o.current + 1 else o.current }

/-- The store takes a return (R107); a GUARD return places the order on the guard list (R121). -/
def State.takeReturn (id k : Nat) (cause : ReturnCause) (s : State) : State :=
  match s.order id with
  | none => s
  | some o =>
    if o.cancelRequested then
      (s.endLeg id k .cancelled).enterOrder id .cancelled fun o => { o with channel := none }
    else match cause with
      | .fallback => s.enterOrder id .held fun o => { o with channel := none, heldByFallback := true }
      | .channelOut => s.enterOrder id .pending fun o => { o with channel := none }
      | .guard =>
        let s := s.enterOrder id .pending fun o => { o with channel := none }
        { s with te := { s.te with guardList := s.te.guardList ++ [id] } }

/-! ### Channel states (R116) -/

/-- The value of a CHANNEL report (R116). -/
def ChannelRecord.reportValue (r : ChannelRecord) : Nat :=
  match r.state with
  | .busy => (r.order.map (·.1)).getD 0
  | .idle => 0
  | _ => (r.outReason.map OutReason.code).getD 0

/-- A channel's state changes, with its CHANNEL report (R116). -/
def State.setChannel (c : Channel) (st : ChannelState) (s : State) : State :=
  let s := s.updChan c fun r => { r with state := st }
  s.report .channel c.code st.code (s.chan c).reportValue

/-- The tanks a channel claimed are no longer claimed (R122). -/
def State.releaseClaims (c : Channel) (s : State) : State :=
  (s.chan c).claims.foldl (fun s t => s.updTank t fun r => { r with claim := none }) s

/-- The end of a run, or of a leg that failed a start check, steps 1 to 3 (R136). -/
def State.closeRun (c : Channel) (cause : StopCause) (s : State) : State :=
  let s := match (s.chan c).order, cause with
    | some (id, k), .result r => s.takeLegEnd id k r
    | some (id, k), .back b => s.takeReturn id k b
    | none, _ => s
  let s := (s.releaseClaims c).updChan c fun r =>
    { r with claims := [], order := none, phase := none, stop := none, lined := none, runFactor := none,
             runNoFlow := none, signAtStart := none, movedAtStart := 0, runPulses := 0 }
  s.setChannel c (if (s.chan c).state = .stoppingForOut then .out else .idle)

/-! ### The balance guard (R121, R137)

The engine reads M as the Tank Table's notices last gave it (R22, R129; DEDUCED for the guard and the start checks, assumption
44). -/

/-- The arm of a tank; of a tank that has been removed, a free value (DESIGN CHOICE, assumption 18). -/
def State.armOf (s : State) (t : TankIx) : Int :=
  match (s.tank t).defn with
  | some d => d.arm
  | none => Config.undefinedArm (tankCode t)

/-- The effect of a leg (R121). -/
def State.effect (s : State) (l : Leg) : Int :=
  (match l.dest with
   | .tank t => s.armOf t
   | .overboard => 0) - s.armOf l.source

/-- A leg is raising: its effect and M are both non-zero and of the same sign (R121). -/
def State.raising (s : State) (l : Leg) : Bool :=
  decide ((0 < s.effect l ∧ 0 < s.told.moment) ∨ (s.effect l < 0 ∧ s.told.moment < 0))

/-- |M| > M_lim with the guard on (R121, R137). -/
def State.overLimit (s : State) : Bool := decide (0 < s.tt.mLim ∧ s.tt.mLim < s.told.moment.natAbs)

/-- An order on the guard list is released (R121). -/
def State.released (s : State) (l : Leg) : Bool :=
  decide (s.tt.mLim = 0 ∨ s.told.moment.natAbs ≤ s.tt.mLim - s.tt.mHys) || !s.raising l ||
    decide (l.condition = .balance)

/-- The guard holds an order's leg back (R121). -/
def State.guardHolds (s : State) (id : Nat) (l : Leg) : Bool :=
  if s.te.guardList.contains id then !s.released l
  else !decide (l.condition = .balance) && s.overLimit && s.raising l

/-! ### Starting a leg (R123, R124) -/

/-- The valve through which a channel delivers a leg. -/
def Leg.delivery (l : Leg) (c : Channel) : Valve := c.delivery l.dest

/-- The destination tank of a leg. -/
def Leg.destTank (l : Leg) : Option TankIx :=
  match l.dest with
  | .tank t => some t
  | .overboard => none

/-- The tank is not fit for a leg by service state or permission (R123, R130). -/
def State.unavailable (s : State) (t : TankIx) (p : Perms → Bool) : Bool :=
  !decide ((s.tank t).service = .inService) || !(s.tank t).permits p

/-- The source's class is worse than the class of a destination that holds water (R123, R131). -/
def State.classClash (s : State) (l : Leg) : Bool :=
  match l.dest with
  | .tank t => !(s.tank t).empty && (s.tank l.source).cls.worse (s.tank t).cls
  | .overboard => false

/-- A threshold of the destination is ABOVE. -/
def State.destAbove (s : State) (l : Leg) (th : Threshold) : Bool :=
  match l.dest with
  | .tank t => decide ((s.tank t).states.get th = .above)
  | .overboard => false

/-- The result of a leg whose moved litres reach its volume (R123, R129). -/
def Leg.fullResult (l : Leg) : LegResult := if l.condition = .volume then .complete else .maxVolume

/-- The first cause that holds. -/
def firstCause {α : Type} (cs : List (Bool × α)) : Option α := (cs.find? (·.1)).map (·.2)

/-- The leg-start checks, in order (R123); none where every check passes. -/
def State.startCheck (s : State) (c : Channel) (l : Leg) : Option LegResult :=
  firstCause
    [(s.unavailable l.source (·.transferFrom) || l.destTank.any (s.unavailable · (·.transferTo)), .tankUnavailable),
     (!s.gaugeValid l.source || l.destTank.any (fun t => !s.gaugeValid t), .gaugeNotValid),
     (decide (l.dest = .overboard ∧ s.mode = .harbour), .modeForbids),
     (s.classClash l, .classConflict),
     (decide ((s.tank l.source).states.ll = .below), .sourceEmpty),
     (s.destAbove l .hh, .destFull),
     (decide (l.condition = .fill) && s.destAbove l .h, .complete),
     (decide (l.volume ≤ l.moved), l.fullResult),
     (decide (l.condition = .balance) && (decide (s.told.moment = 0) || decide (s.effect l = 0) || s.raising l),
       .wrongWay),
     (decide ((s.valve (c.suction l.source)).state = .fault) || decide ((s.valve (l.delivery c)).state = .fault),
       .valveFault)]

/-! ### Stopping a run (R134) -/

/-- A run is in a running phase (R115). -/
def ChannelRecord.running (r : ChannelRecord) : Bool :=
  match r.phase with
  | some .liningUp => true
  | some .starting => true
  | some .pumping => true
  | _ => false

/-- The lined valves with their last answers, suction first. -/
def ChannelRecord.linedList (r : ChannelRecord) : List (Valve × LinedAnswer) :=
  match r.lined with
  | some l => [(l.suction, l.suctionAnswer), (l.delivery, l.deliveryAnswer)]
  | none => []

/-- Each lined valve whose last answer is not FAULT is commanded CLOSED (R134, step 4). -/
def State.closeValves (c : Channel) (s : State) : State :=
  ((s.chan c).linedList.filter fun x => x.2 ≠ .fault).foldl (fun s x => s.command x.1 .a) s

/-- A pump as told that needs no stop (R134, step 3). -/
def PumpState.settled : PumpState → Bool
  | .stopped => true
  | .fault => true
  | _ => false

/-- A run in a running phase stops for a cause: steps 1 to 4 as far as they go at once (R134). -/
def State.stopRun (c : Channel) (cause : StopCause) (s : State) : State :=
  let r := s.chan c
  let leg := s.runLeg c
  let s := s.updChan c fun r => { r with stop := some cause, phase := some .stopping, noFlow := none }
  let s := if r.entryMade then
      ((leg.bind Leg.destTank).toList.foldl (fun s t => s.entryEnd t c.entrant) s).updChan c
        fun r => { r with entryMade := false }
    else s
  match r.pumpTold with
  | .starting | .running => (s.updChan c fun r => { r with pumpTold := .stopping }).pumpStop c
  | .stopping => s
  | .stopped | .fault => s.closeValves c

/-! ### What a running phase evaluates (R129 to R132, R137) -/

/-- Which causes of R132 an event makes a channel evaluate, beside the end condition, which each of these events
evaluates. -/
structure Evaluation where
  trips : Bool := false
  classes : Bool := false
  conflict : Bool := false
  guard : Bool := false
  deriving DecidableEq, Repr

/-- The end condition COMPLETE of a leg is met (R129). -/
def State.legComplete (s : State) (r : ChannelRecord) (l : Leg) : Bool :=
  match l.condition with
  | .volume => decide (l.volume ≤ l.moved)
  | .fill => s.destAbove l .h
  | .balance => decide (s.told.moment.natAbs ≤ s.tt.mHys) || decide (r.signAtStart ≠ some (MomentSign.of s.told.moment))

/-- The first cause, in the order of R132, that an evaluation meets. It reads the records as they stand when the notice
is taken (DEDUCED, assumption 34). -/
def State.stopCause (s : State) (c : Channel) (l : Leg) (e : Evaluation) : Option StopCause :=
  let r := s.chan c
  firstCause
    [(e.trips && (s.unavailable l.source (·.transferFrom) || l.destTank.any (s.unavailable · (·.transferTo))),
       .result .tankUnavailable),
     (e.trips && l.tanks.any (s.gaugeLost .te), .result .gaugeLost),
     (e.conflict || (e.classes && s.classClash l), .result .classConflict),
     (e.trips && s.destAbove l .hh, .result .destFull),
     (e.trips && decide ((s.tank l.source).states.ll = .below), .result .sourceEmpty),
     (s.legComplete r l, .result .complete),
     (decide (l.condition ≠ .volume ∧ l.volume ≤ l.moved), .result .maxVolume),
     (e.guard && decide (r.phase = some .pumping) && s.overLimit && s.raising l, .back .guard)]

/-- A channel evaluates its run, if that is in a running phase, and stops it with the first cause met. -/
def State.evaluate (c : Channel) (e : Evaluation) (s : State) : State :=
  if (s.chan c).running then
    match s.runLeg c with
    | some l =>
      match s.stopCause c l e with
      | some cause => s.stopRun c cause
      | none => s
    | none => s
  else s

/-- A run begins (R124), with the evaluation on entry to LINING_UP (R129, R130). The suction valve is commanded first
(DESIGN CHOICE, assumption 39), and the evaluation follows the commands of the phase that is entered (DESIGN CHOICE,
assumption 46). -/
def State.beginRun (c : Channel) (id k : Nat) (l : Leg) (s : State) : State :=
  let s := s.updLeg id k fun l => { l with runs := min (l.runs + 1) 255, lastChannel := some c }
  let s := s.updChan c fun r =>
    { r with runFactor := some r.meterFactor, runNoFlow := some r.noFlowTime, movedAtStart := l.moved,
             runPulses := 0, signAtStart := some (MomentSign.of s.told.moment), phase := some .liningUp,
             lined := some ⟨c.suction l.source, .none, l.delivery c, .none⟩ }
  ((s.command (c.suction l.source) .b).command (l.delivery c) .b).evaluate c { trips := true }

/-! ### The arbiter (R119 to R122) -/

/-- The PENDING orders by priority, highest first, and within a priority by age (R120), which is the order of the store's
list (DEDUCED, assumption 31). -/
def State.waiting (s : State) : List Order :=
  [3, 2, 1, 0].flatMap fun p => s.te.orders.filter fun o => decide (o.state = .pending ∧ o.priority = p)

/-- The arbiter weighs orders for a channel, one after another, up to the first whose leg is eligible (R121): a released
order leaves the guard list, and an order the guard holds back is marked as passed over. The guard is tested before the claims, so
a released order leaves the list also where the other channel claims one of its tanks (DESIGN CHOICE, assumption 45). -/
def State.weigh (c : Channel) : List Order → State → State × Option (Order × Leg)
  | [], s => (s, none)
  | o :: rest, s =>
    match o.leg with
    | none => State.weigh c rest s
    | some l =>
      if s.guardHolds o.id l then State.weigh c rest { s with te := { s.te with guardPassed := true } }
      else
        let s := { s with te := { s.te with guardList := s.te.guardList.filter (· ≠ o.id) } }
        if l.tanks.any ((s.chan c.other).claims.contains ·) then State.weigh c rest s else (s, some (o, l))

/-- A channel is given an order: ACTIVE, BUSY, claims, start checks, and the run or the end (R105, R120, R122, R123). -/
def State.give (c : Channel) (o : Order) (l : Leg) (s : State) : State :=
  let s := s.enterOrder o.id .active fun o => { o with channel := some c }
  let s := (s.updChan c fun r => { r with order := some (o.id, o.current) }).setChannel c .busy
  let s := s.updChan c fun r => { r with claims := l.tanks }
  let s := l.tanks.foldl (fun s t => s.updTank t fun r => { r with claim := some c }) s
  match s.startCheck c l with
  | some r => s.closeRun c (.result r)
  | none => s.beginRun c o.id o.current l

/-- A free channel takes the first eligible order; true where it took one (R120). -/
def State.tryGive (c : Channel) (s : State) : State × Bool :=
  if (s.chan c).state = .idle then
    match s.weigh c s.waiting with
    | (s, some (o, l)) => (s.give c o l, true)
    | (s, none) => (s, false)
  else (s, false)

/-- The arbiter's passes (R120); the number bounds them. TC2's list is made when TC2 is weighed, so an order that a failed start
check of TC1 has just returned to PENDING stands in it in the same pass (DESIGN CHOICE, assumption 53). -/
def State.passes : Nat → State → State
  | 0, s => s
  | n + 1, s =>
    let (s, gave1) := s.tryGive .tc1
    let (s, gave2) := s.tryGive .tc2
    if gave1 || gave2 then State.passes n s else s

/-- How many passes an arbitration can need: each pass but the last makes a channel BUSY or ends a leg (R120). -/
def State.passBound (s : State) : Nat := (s.te.orders.map (·.legs.length)).sum + 3

/-- The arbiter runs (R119). -/
def State.arbitrate (s : State) : State :=
  let s := { s with te := { s.te with guardPassed := false } }
  if s.mode.working then s.passes s.passBound else s

/-- The run of a channel is over (R134, step 5): the pump has stopped and both lined valves have answered. -/
def State.runOver (s : State) (c : Channel) : Option StopCause :=
  let r := s.chan c
  if r.phase = some .stopping ∧ r.pumpTold.settled ∧
      (r.linedList.all fun x => x.2 = .closed || x.2 = .fault) then r.stop
  else none

/-- A run that is over is handed on (R136, steps 1 to 3); true where it was. -/
def State.closeIfOver (c : Channel) (s : State) : State × Bool :=
  match s.runOver c with
  | some cause => (s.closeRun c cause, true)
  | none => (s, false)

/-- Runs that are over are handed on, TC1's first (DESIGN CHOICE, assumption 50), and the arbiter runs once (R136). -/
def State.settle (s : State) : State :=
  let (s, over1) := s.closeIfOver .tc1
  let (s, over2) := s.closeIfOver .tc2
  if over1 || over2 then s.arbitrate else s

/-! ### Answers of the Actuator Unit (R125, R133, R135) -/

/-- The answer of a valve is recorded where it is one of the lined valves (R115). -/
def Lined.record (v : Valve) (a : LinedAnswer) (l : Lined) : Lined :=
  if v = l.suction then { l with suctionAnswer := a }
  else if v = l.delivery then { l with deliveryAnswer := a }
  else l

/-- A stop cause that gives way to a fault result (R135). -/
def StopCause.overtaken (r : LegResult) : StopCause → StopCause
  | .result x => .result x
  | .back _ => .result r

/-- Every lined valve has answered at OPEN (R125). -/
def ChannelRecord.linedOpen (r : ChannelRecord) : Bool :=
  r.lined.isSome && r.linedList.all fun x => x.2 = .opened

/-- The channel takes an answer of one of its valves (R125, R133, R135). An answer at OPEN is recorded in a running
phase alone (DEDUCED, assumption 39), and a RESTORED notice leaves the recorded answer as it is (DESIGN CHOICE,
assumption 39). On entry to STARTING the pump is commanded first and the evaluation follows (DESIGN CHOICE,
assumption 46). -/
def State.channelValve (c : Channel) (v : Valve) (a : ValveAnswer) (s : State) : State :=
  let r := s.chan c
  let record (x : LinedAnswer) (s : State) : State :=
    s.updChan c fun r => { r with lined := r.lined.map (Lined.record v x) }
  if r.linedList.any (fun x => x.1 = v) then
    match a with
    | .atB =>
      if r.running then
        let s := record .opened s
        if r.phase = some .liningUp ∧ (s.chan c).linedOpen then
          let s := s.updChan c fun r => { r with phase := some .starting, pumpTold := .starting }
          (s.pumpStart c).evaluate c { trips := true }
        else s
      else s
    | .atA => record .closed s
    | .failed _ =>
      let s := record .fault s
      if r.running then s.stopRun c (.result .valveFault)
      else s.updChan c fun r => { r with stop := r.stop.map (StopCause.overtaken .valveFault) }
    | .restored => s
  else s

/-- The run enters PUMPING (R126). A CONFLICT answer is weighed with the other causes of this event (R132; DEDUCED,
assumption 38). -/
def State.enterPumping (c : Channel) (s : State) : State :=
  let s := s.updChan c fun r =>
    { r with phase := some .pumping, noFlow := some (after s.clock ((r.runNoFlow.getD r.noFlowTime) * 10)) }
  match s.runLeg c with
  | none => s
  | some l =>
    match l.dest with
    | .overboard => s.evaluate c { trips := true, classes := true, guard := true }
    | .tank t =>
      let (answer, s) := s.entryNotice t c.entrant (s.tank l.source).cls
      let s := if answer = .conflict then s else s.updChan c fun r => { r with entryMade := true }
      s.evaluate c { trips := true, classes := true, guard := true, conflict := decide (answer = .conflict) }

/-- The pump's fault takes its channel out of service (R133, R135). -/
def State.channelPumpFault (c : Channel) (s : State) : State :=
  let r := s.chan c
  let s := s.updChan c fun r => { r with pumpTold := .fault, outReason := some .pumpFault }
  let s := match r.state with
    | .idle => s.setChannel c .out
    | .busy => s.setChannel c .stoppingForOut
    | _ => s
  if r.running then s.stopRun c (.result .pumpFault)
  else if r.phase = some .stopping then
    let s := s.updChan c fun r => { r with stop := r.stop.map (StopCause.overtaken .pumpFault) }
    if r.pumpTold.settled then s else s.closeValves c
  else s

/-- The channel takes an answer of its pump (R125, R133 to R135). -/
def State.channelPump (c : Channel) (a : PumpAnswer) (s : State) : State :=
  let r := s.chan c
  match a with
  | .running =>
    let s := s.updChan c fun r => { r with pumpTold := .running }
    if r.phase = some .starting then s.enterPumping c else s
  | .stopped =>
    let s := s.updChan c fun r => { r with pumpTold := .stopped }
    if r.phase = some .stopping ∧ !r.pumpTold.settled then s.closeValves c else s
  | .fault _ => s.channelPumpFault c
  | .refused _ => s.channelPumpFault c

/-! ### Notices (R119, R129 to R131, R137, R140) -/

/-- Both channels evaluate, TC1 first (DESIGN CHOICE, assumption 50). -/
def State.evaluateBoth (e : Channel → Evaluation) (s : State) : State :=
  (s.evaluate .tc1 (e .tc1)).evaluate .tc2 (e .tc2)

/-- A channel evaluates a notice about a tank, if the tank is one of its leg's. -/
def State.evaluateTank (t : TankIx) (e : Evaluation) (c : Channel) (s : State) : State :=
  if (s.runLeg c).any (fun l => l.tanks.contains t) = true then s.evaluate c e else s

/-- The engine takes a notice from the Tank Table (R4) or the Gauging Unit about a tank; TC1 acts first (DESIGN CHOICE,
assumption 50). -/
def State.transferTank (t : TankIx) (e : Evaluation) (s : State) : State :=
  ((s.evaluateTank t e .tc1).evaluateTank t e .tc2).settle.arbitrate

/-- What a channel evaluates on a Tank Table notice (R129, R130, R131, R137). -/
def TankChange.evaluation (d : TankChange) : Evaluation :=
  { trips := true, classes := d.cls.isSome || d.empty, guard := d.definition }

/-- A channel's entry conflicts (R131). -/
def State.transferConflict (c : Channel) (s : State) : State :=
  (s.evaluate c { trips := true, conflict := true }).settle

/-- A change of M, or an accepted BALANCE_SET (R119, R129, R137). -/
def State.transferMoment (s : State) : State :=
  let s := (s.evaluateBoth fun _ => { guard := true }).settle
  if !s.te.guardList.isEmpty || s.te.guardPassed then s.arbitrate else s

/-- One channel acts on a new mode (R135, R140). -/
def State.channelMode (new : Mode) (c : Channel) (s : State) : State :=
  let r := s.chan c
  match new with
  | .fallback =>
    if r.running then s.stopRun c (.back .fallback)
    else s.updChan c fun r =>
      { r with stop := r.stop.map fun
          | .result x => .result x
          | .back _ => .back .fallback }
  | .harbour =>
    if r.running && (s.runLeg c).any (fun l => l.dest = .overboard) then s.stopRun c (.result .modeForbids) else s
  | _ => s

/-- The engine takes a change of plant mode (R119, R140); TC1 acts first (DESIGN CHOICE, assumption 50). -/
def State.transferMode (new : Mode) (s : State) : State :=
  let s := ((s.channelMode new .tc1).channelMode new .tc2).settle
  if new.working then s.arbitrate else s

/-! ### Flow (R127, R128) -/

/-- A count kept to its stated range 0 to 4,294,967,295; past it, a free value (DESIGN CHOICE,
assumption 19). -/
def movedFigure (n : Nat) : Nat := if n ≤ countMax then n else Config.movedPastRange n

/-- The run pulses after one more (DESIGN CHOICE, assumption 19). -/
def raisePulses (n : Nat) : Nat := if n < countMax then n + 1 else Config.runPulsesPastRange

/-- A channel's flow pulse (R127, R128), with the end condition it may meet (R129). START is no exception
(DEDUCED, assumption 29). -/
def State.channelPulse (c : Channel) (s : State) : State :=
  let r := s.chan c
  let factor := if r.phase.isSome then r.runFactor.getD r.meterFactor else r.meterFactor
  let t := countPulse factor (r.totalizer, r.residue)
  let s := s.updChan c fun r => { r with totalizer := t.1, residue := t.2 }
  if r.phase.isSome then
    let n := raisePulses r.runPulses
    let s := s.updChan c fun r =>
      { r with runPulses := n,
               noFlow := if r.phase = some .pumping then
                   some (after s.clock ((r.runNoFlow.getD r.noFlowTime) * 10)) else r.noFlow }
    let s := match r.order with
      | some (id, k) => s.updLeg id k fun l => { l with moved := movedFigure (r.movedAtStart + n * 100 / factor) }
      | none => s
    (s.evaluate c {}).settle
  else s

/-- The no-flow timer expires (R128). -/
def State.flowLost (c : Channel) (s : State) : State :=
  let r := s.chan c
  if r.phase = some .pumping ∧ r.noFlow.isSome then (s.stopRun c (.result .noFlow)).settle else s

/-! ### Requests -/

/-- The store with room for one more sequence number (R98). -/
def State.renumber (s : State) : State :=
  if s.te.sequence < countMax then s
  else { s with te := { s.te with
    orders := s.te.orders.zipIdx.map fun x => { x.1 with sequence := x.2 + 1 },
    sequence := s.te.orders.length + 1 } }

/-- An accepted ORDER_SUBMIT (R98, R103). -/
def State.submit (id priority : Nat) (policy : Policy) (legs : List Leg) (s : State) : State :=
  let s := s.renumber
  let o : Order :=
    { id := id, priority := priority, policy := policy, legs := legs, state := .pending, current := 1,
      sequence := s.te.sequence, heldByFallback := false, cancelRequested := false, channel := none }
  let s := { s with te := { s.te with orders := s.te.orders ++ [o], sequence := s.te.sequence + 1 } }
  (s.reportOrder id).arbitrate

/-- The cancel of a live order (R108, R141). -/
def State.cancel (id : Nat) (s : State) : State :=
  match s.order id with
  | none => s
  | some o =>
    match o.state with
    | .pending | .held =>
      let s := if o.leg.any (fun l => 0 < l.runs) = true then s.endLeg id o.current .cancelled else s
      s.enterOrder id .cancelled fun o => { o with heldByFallback := false }
    | .active =>
      if o.cancelRequested then s
      else
        let s := s.updOrder id fun o => { o with cancelRequested := true }
        match o.channel with
        | some c => if (s.chan c).running then s.stopRun c (.result .cancelled) else s
        | none => s
    | _ => s

/-- An accepted ORDER_RESUME (R110). -/
def State.resume (id : Nat) (s : State) : State :=
  (s.enterOrder id .pending fun o => { o with heldByFallback := false }).arbitrate

/-- An accepted CHANNEL_OUT (R138). -/
def State.takeOut (c : Channel) (s : State) : State :=
  let r := s.chan c
  match r.state with
  | .idle => (s.updChan c fun r => { r with outReason := some .host }).setChannel c .out
  | .busy =>
    let s := (s.updChan c fun r => { r with outReason := some .host }).setChannel c .stoppingForOut
    if r.running then (s.stopRun c (.back .channelOut)).settle else s
  | _ => s

/-- An accepted CHANNEL_IN (R139). -/
def State.takeIn (c : Channel) (s : State) : State :=
  if (s.chan c).state = .out then
    ((s.updChan c fun r => { r with outReason := none }).setChannel c .idle).arbitrate
  else s

/-- Some order is ACTIVE (R114). -/
def State.anyActive (s : State) : Bool := s.te.orders.any fun o => o.state = .active

/-- Some order is live (R114). -/
def State.anyLive (s : State) : Bool := s.te.orders.any fun o => o.state.live

end Sys2Proof.Machine
end

