-- ==== Sys2Proof/Machine/Notices.lean ====
section
/-!
DEFINITION. Delivery of the notices in flight between the blocks (DEDUCED, assumption 6): what each block does with each, and
the run of deliveries that ends every step.
-/
namespace Sys2Proof.Machine

/-- The Actuator Unit takes a change of plant mode (R62). -/
def State.actuatorMode (old : Mode) (s : State) : State := if old = .commission then s.returnAll else s

/-- A notice of a change to a tank is taken by a block (R4). A block that finds the tank UNDEFINED knows no gauge of it any
more (R27; DEDUCED, assumption 44). -/
def State.takeTank (dst : Block) (t : TankIx) (c : TankChange) (s : State) : State :=
  let s := if (s.tank t).service = .undefined then s.setTold dst t none else s
  match dst with
  | .ir => s.intakeTank t
  | .te => s.transferTank t c.evaluation
  | .ss => s.examine none
  | .pmc => s.examineWarming
  | .gu => s
  | .au => s

/-- A notice of a gauge state is taken by a block, which knows that state from then on (R46, R123, R164). -/
def State.takeGauge (dst : Block) (t : TankIx) (g : GaugeState) (s : State) : State :=
  let s := s.setTold dst t (some g)
  match dst with
  | .ir => s.intakeTank t
  | .te => s.transferTank t { trips := true }
  | .ss => s.examine none
  | .pmc => s.examineWarming
  | .gu => s
  | .au => s

/-- A change of plant mode is taken by a block (R158). -/
def State.takeMode (dst : Block) (old new : Mode) (s : State) : State :=
  match dst with
  | .gu => s.gaugeMode old
  | .au => s.actuatorMode old
  | .ir => s.intakeMode old new
  | .te => s.transferMode new
  | .ss => if old = .start then s.examine none else s
  | .pmc => s

/-- An answer about a valve is taken by its owner (R55, R59). -/
def State.takeValve (v : Valve) (a : ValveAnswer) (s : State) : State :=
  match v.owner with
  | .ir => s.intakeValve v a
  | .tc1 => (s.channelValve .tc1 v a).settle
  | .tc2 => (s.channelValve .tc2 v a).settle
  | .ss => s.supplyValve v a

/-- A conflict notice is taken by the entrant (R11). -/
def State.takeConflict (t : TankIx) (e : Entrant) (s : State) : State :=
  match e with
  | .intake => s.intakeConflict t
  | .tc1 => s.transferConflict .tc1
  | .tc2 => s.transferConflict .tc2

/-- One notice is taken. -/
def State.take (m : Msg) (s : State) : State :=
  match m with
  | .tank dst t c => s.takeTank dst t c
  | .gauge dst t g => s.takeGauge dst t g
  | .mode dst old new => s.takeMode dst old new
  | .moment m => (s.setToldMoment m).transferMoment
  | .balance => s.transferMoment
  | .conflict t e => s.takeConflict t e
  | .wake t th d => s.takeWake t th d
  | .valve v a => s.takeValve v a
  | .pump c a => (s.channelPump c a).settle
  | .decide => s.decideAll
  | .report r => s.append r

/-- Notices are taken, first in first out, up to a number of them. -/
def State.drain : Nat → State → State
  | 0, s => s
  | n + 1, s =>
    match s.msgs with
    | [] => s
    | m :: rest => State.drain n ((State.take m { s with msgs := rest }).keepDumpTimers)

/-- What ends every step: the dump timers follow their conditions (R76), and the notices are delivered. -/
def State.deliver (s : State) : State := s.keepDumpTimers.drain Config.noticeBudget

end Sys2Proof.Machine
end

