-- ==== Sys2Proof/Machine/Start.lean ====
section
/-!
DEFINITION. The Settings Store's own operations (chapter 10): the start of the part, the load of the image, the save
record and the end of a save.
-/
namespace Sys2Proof.Machine

/-- The four records held apart from the image (R193) as a start begins: the class of each tank and the totalizers. -/
structure Kept where
  cls : TankIx → QClass
  source : Source → Nat × Nat
  channel : Channel → Nat

/-- What a power-up finds (R193). -/
def Kept.powerUp : Kept := { cls := fun _ => .quarantine, source := fun _ => (0, 0), channel := fun _ => 0 }

/-- What a restart keeps (R193). -/
def State.kept (s : State) : Kept :=
  { cls := fun t => (s.tank t).cls, source := fun x => ((s.source x).produced, (s.source x).dumped),
    channel := fun c => (s.chan c).totalizer }

/-- A start begins (R191): the clock at 0, every block at its reset values, the plant mode START. The stored image
stays; a save in flight has been cut off. -/
def State.begin (cause : ResetCause) (k : Kept) (s : State) : State :=
  let au := ActuatorUnit.start s.pins
  let maker (x : Source) (st : SourceState) := SourceRecord.start st (k.source x).1 (k.source x).2
  { s with
    power := .on, clock := 0, tt := TankTable.start k.cls, gu := GaugingUnit.start, au := au,
    ir := IntakeRouter.start (maker .wm1 .stopped) (maker .wm2 .stopped) (maker .shore .closed),
    te := TransferEngine.start (ChannelRecord.start au.tp1.state (k.channel .tc1))
      (ChannelRecord.start au.tp2.state (k.channel .tc2)),
    ss := SupplySelector.start, pmc := ModeController.start, lu := LinkUnit.start,
    sts := { s.sts with workingFlag := false, storeValid := false, save := none, cause := cause },
    told := Told.blank, msgs := [] }

/-! ### Saving (R189)

The checksum is held as whether it agrees (DESIGN CHOICE, assumption 26). -/

/-- What the image holds of a tank. -/
def TankRecord.image (r : TankRecord) : ImageTank :=
  { defn := r.defn, strap := r.strap, service := r.service, limits := r.limits }

/-- The working settings with a start mode and the working commissioning flag (R188, R189). -/
def State.workingImage (s : State) (m : Mode) : Image :=
  { commissioning := s.sts.workingFlag, startMode := m,
    tanks := Vector.tabulate fun t => (s.tank t).image, mLim := s.tt.mLim, mHys := s.tt.mHys, rules := s.ir.rules,
    wm1 := s.ir.wm1.settings, wm2 := s.ir.wm2.settings, shore := s.ir.shore.settings,
    tc1 := ⟨s.te.tc1.meterFactor, s.te.tc1.noFlowTime⟩, tc2 := ⟨s.te.tc2.meterFactor, s.te.tc2.noFlowTime⟩,
    travelTimeout := s.au.travelTimeout, duty := s.ss.duty, period := s.pmc.period, kind := s.pmc.kind }

/-- A save begins: the record is copied, and the write first marks the stored checksum as not agreeing (R189). -/
def State.beginSave (m : Mode) (s : State) : State :=
  { s with sts := { s.sts with save := some (s.workingImage m), checksumAgrees := false } }

/-- The write of a save ends (R189). -/
def State.endSave (s : State) : State :=
  match s.sts.save with
  | some im =>
    { s with sts := { s.sts with stored := im, checksumAgrees := true, storeValid := true, save := none } }.reportPlant
      0 7 0
  | none => s

/-! ### The load (R192) -/

/-- A tank's record as the load leaves it (R2): its settings from the image, its class kept where the image defines it,
QUARANTINE otherwise. -/
def ImageTank.load (i : ImageTank) (c : QClass) : TankRecord :=
  match i.defn with
  | some d =>
    { TankRecord.blank c with
      defn := some d, strap := i.strap, service := i.service, limits := i.limits,
      notices := some NoticeEnables.initial }
  | none => TankRecord.blank .quarantine

/-- What the blocks know of the gauges and of M once the image is loaded: each channel is created in SETTLING without a notice
(R28), and no volume is published, so M is 0 (R2;
DEDUCED, assumption 44). -/
def Image.told (im : Image) : Told :=
  let g := Vector.tabulate fun t => im.tanks[t].defn.map fun _ => GaugeState.settling
  { ir := g, te := g, ss := g, moment := 0 }

/-- The blocks take their settings from an image (R2, R28, R64, R72, R78, R117, R144, R157). -/
def State.takeImage (im : Image) (s : State) : State :=
  { s with
    tt := { s.tt with tanks := Vector.tabulate fun t => im.tanks[t].load (s.tank t).cls,
                      mLim := im.mLim, mHys := im.mHys, moment := 0 },
    gu := { s.gu with channels := Vector.tabulate fun t =>
      im.tanks[t].defn.map fun d => GaugeChannel.fresh d im.tanks[t].strap s.clock none },
    au := { s.au with travelTimeout := im.travelTimeout },
    ir := { s.ir with
      rules := im.rules, wm1 := { s.ir.wm1 with settings := im.wm1 }, wm2 := { s.ir.wm2 with settings := im.wm2 },
      shore := { s.ir.shore with settings := im.shore } },
    te := { s.te with
      tc1 := { s.te.tc1 with meterFactor := im.tc1.meterFactor, noFlowTime := im.tc1.noFlowTime },
      tc2 := { s.te.tc2 with meterFactor := im.tc2.meterFactor, noFlowTime := im.tc2.noFlowTime } },
    ss := { s.ss with duty := im.duty },
    pmc := { s.pmc with period := im.period, kind := im.kind },
    told := im.told }

/-- The image the blocks take (R192). -/
def SettingsStore.toLoad (x : SettingsStore) : Image :=
  if x.checksumAgrees then x.stored else { Image.factory with commissioning := false }

/-- The first mode (R192). -/
def SettingsStore.firstMode (x : SettingsStore) : Mode :=
  if x.checksumAgrees then (if x.stored.commissioning then .commission else x.stored.startMode) else .configure

/-- The load ends (R192): settings, then the marks, then the first mode (R159). Of the tanks' service states the blocks get no
notice beside that of the plant's leaving START (R3, R28, R144; DEDUCED, assumption 56). -/
def State.load (s : State) : State :=
  let im := s.sts.toLoad
  let s' := s.takeImage im
  ({ s' with sts := { s'.sts with workingFlag := im.commissioning, storeValid := s.sts.checksumAgrees } }).changeMode
    s.sts.firstMode none

end Sys2Proof.Machine
end

