-- ==== Sys2Proof/Machine/PlantRequests.lean ====
section
/-!
DEFINITION. What the Supply Selector, the Plant Mode Controller, the Link Unit and the Settings Store answer to their
requests (R154 to R156, R160, R171, R172, R178, R179, R181, R182, R189, R190).
-/
namespace Sys2Proof.Machine

/-! ### Supply Selector -/

/-- DUTY_SET (R155). -/
def answerDutySet (p : List Byte) (s : State) : Answer × State :=
  if !dutySizeOk p then refuse .badLength s
  else if s.saving then refuse .busy s
  else match readDuty p with
    | none => refuse .badValue s
    | some l =>
      let s := s.setDuty l
      accept (u8 s.ss.state.code) s

/-- SUPPLY_ADVANCE (R154). Its reply gives each tank behind a presence byte, as fields that can be absent (R143, R187; DEDUCED,
assumption 16). -/
def answerSupplyAdvance (p : List Byte) (s : State) : Answer × State :=
  if p.length ≠ 0 then refuse .badLength s
  else if s.ss.state = .changeover ∨ s.ss.state = .switching then refuse .busy s
  else match s.ss.current, s.advanceTarget with
    | some t, some u => accept (optField 1 tankByte (some t) ++ optField 1 tankByte (some u)) (s.advance u)
    | _, _ => refuse .badValue s

/-- SUPPLY_GET (R156). -/
def answerSupplyGet (p : List Byte) (s : State) : Answer × State :=
  if p.length ≠ 0 then refuse .badLength s else accept s.supplyReply s

/-! ### Plant Mode Controller -/

/-- MODE_SET (R160). LAYUP in LAYUP is no change, whatever R162 would say (DEDUCED, assumption 35). -/
def answerModeSet (p : List Byte) (s : State) : Answer × State :=
  if p.length ≠ 1 then refuse .badLength s
  else if s.mode = .commission then refuse .modeConflict s
  else match targetAt p 0 with
    | none => refuse .badValue s
    | some m =>
      if s.mode.unreachable m then refuse .modeConflict s
      else if m = .configure ∧ s.anyActive = true then refuse .ordersActive s
      else if m = .layup ∧ s.mode ≠ .layup ∧ s.mode ≠ .waking ∧ s.layupBlocked = true then refuse .layupBlocked s
      else
        let s := s.setMode m
        accept s.pmc.bytes s

/-- SUPERVISION_SET (R171). -/
def answerSupervisionSet (p : List Byte) (s : State) : Answer × State :=
  if p.length ≠ 3 then refuse .badLength s
  else if !s.mode.configuring then refuse .modeConflict s
  else if s.saving then refuse .busy s
  else match readSupervision p with
    | none => refuse .badValue s
    | some (period, kind) =>
      accept (u16 period ++ u8 kind.code) (s.updMode fun m => { m with period := period, kind := kind })

/-- HEARTBEAT (R172). -/
def answerHeartbeat (p : List Byte) (s : State) : Answer × State :=
  if p.length ≠ 0 then refuse .badLength s
  else
    let j := s.judge
    let s := s.takeHeartbeat
    accept (u8 s.pmc.sup.code ++ u8 s.pmc.mode.code ++ u8 j.code) s

/-! ### Link Unit -/

/-- STATUS_GET (R178), accepted in START too. -/
def answerStatusGet (p : List Byte) (s : State) : Answer × State :=
  if p.length ≠ 0 then refuse .badLength s else accept s.statusReply s

/-- FETCH_REPORTS (R181). -/
def answerFetchReports (p : List Byte) (s : State) : Answer × State :=
  if p.length ≠ 1 then refuse .badLength s
  else match natIn 1 8 (byteAt p 0) with
    | none => refuse .badValue s
    | some n =>
      let out := s.lu.queue.take n
      let left := s.lu.queue.drop n
      accept (mark s.lu.overflow ++ u8 out.length ++ u8 left.length ++ out.flatMap Report.bytes)
        { s with lu := { s.lu with queue := left, overflow := false } }

/-- REPORT_ENABLE (R182). -/
def answerReportEnable (p : List Byte) (s : State) : Answer × State :=
  if p.length ≠ 10 then refuse .badLength s
  else match readEnables p with
    | none => refuse .badValue s
    | some e => accept e.bytes { s with lu := { s.lu with enables := e } }

/-- RESTART (R179). -/
def answerRestart (p : List Byte) (s : State) : Answer × State :=
  if p.length ≠ 0 then refuse .badLength s
  else if s.saving then refuse .busy s
  else accept [] { s with lu := { s.lu with restarting := true } }

/-! ### Settings Store -/

/-- SETTINGS_SAVE (R189). -/
def answerSettingsSave (p : List Byte) (s : State) : Answer × State :=
  if p.length ≠ 1 then refuse .badLength s
  else if s.saving then refuse .busy s
  else match startModeAt p 0 with
    | none => refuse .badValue s
    | some m => accept [] (s.beginSave m)

/-- COMMISSION_END (R190). -/
def answerCommissionEnd (p : List Byte) (s : State) : Answer × State :=
  if p.length ≠ 1 then refuse .badLength s
  else if s.mode ≠ .commission then refuse .modeConflict s
  else if s.saving then refuse .busy s
  else match startModeAt p 0 with
    | none => refuse .badValue s
    | some m =>
      if s.anyActive then refuse .ordersActive s
      else
        let s := (({ s with sts := { s.sts with workingFlag := false } }).beginSave m).changeMode .configure none
        accept (u8 s.pmc.mode.code) s

end Sys2Proof.Machine
end

