-- ==== Sys2Proof/Machine/TankRequests.lean ====
section
/-!
DEFINITION. What the Tank Table and the Gauging Unit answer to their requests (chapters 1 and 2): checks in the order of
R5, R47 and R48, then the effect. Every request but STATUS_GET is refused in START by the Link Unit already
(Machine/Link.lean, R176), so START is not checked again here.
-/
namespace Sys2Proof.Machine

/-- TANK_DEFINE (R5, R6, R7). -/
def answerTankDefine (p : List Byte) (s : State) : Answer × State :=
  if p.length ≠ tankDefineSize then refuse .badLength s
  else if !s.mode.configuring then refuse .modeConflict s
  else if s.saving then refuse .busy s
  else match tankAt p 0, readDefinition p with
    | some t, some d => accept [] (s.defineTank t d)
    | _, _ => refuse .badValue s

/-- TANK_REMOVE (R5, R8). -/
def answerTankRemove (p : List Byte) (s : State) : Answer × State :=
  if p.length ≠ 1 then refuse .badLength s
  else if !s.mode.configuring then refuse .modeConflict s
  else if s.saving then refuse .busy s
  else match tankAt p 0 with
    | some t =>
      if (s.tank t).service = .undefined then refuse .noSuchTank s
      else accept [] (s.removeTank t)
    | none => refuse .badValue s

/-- The size of a STRAP_LOAD payload agrees with its point count (R187). -/
def strapSizeOk (p : List Byte) : Bool := decide (2 ≤ p.length ∧ p.length = 2 + 6 * byteAt p 1)

/-- STRAP_LOAD (R5, R9). -/
def answerStrapLoad (p : List Byte) (s : State) : Answer × State :=
  if !strapSizeOk p then refuse .badLength s
  else if !s.mode.configuring then refuse .modeConflict s
  else if s.saving then refuse .busy s
  else match tankAt p 0 with
    | none => refuse .badValue s
    | some t =>
      match (s.tank t).defn with
      | none => refuse .noSuchTank s
      | some d =>
        match readStrap d.height p with
        | none => refuse .badTable s
        | some tb => accept (mark (strapLimits (fullVolume tb) (s.tank t).limits).2) (s.loadStrap t tb)

/-- TANK_SERVICE (R5, R10). -/
def answerTankService (p : List Byte) (s : State) : Answer × State :=
  if p.length ≠ 2 then refuse .badLength s
  else if s.saving then refuse .busy s
  else match tankAt p 0, serviceAt p 1 with
    | some t, some v =>
      if (s.tank t).service = .undefined then refuse .noSuchTank s
      else if v = .inService ∧ (s.tank t).strap = none then refuse .noTable s
      else if (s.tank t).service = v then accept [] s
      else accept [] (s.setService t v)
    | _, _ => refuse .badValue s

/-- TANK_CLASS (R5, R11). -/
def answerTankClass (p : List Byte) (s : State) : Answer × State :=
  if p.length ≠ 2 then refuse .badLength s
  else match tankAt p 0, QClass.ofCode (byteAt p 1) with
    | some t, some c =>
      if (s.tank t).service = .undefined then refuse .noSuchTank s
      else accept [] (s.changeClass t c)
    | _, _ => refuse .badValue s

/-- TANK_LIMITS (R5, R18). -/
def answerTankLimits (p : List Byte) (s : State) : Answer × State :=
  if p.length ≠ 21 then refuse .badLength s
  else if s.saving then refuse .busy s
  else match tankAt p 0, readLimits p with
    | some t, some m =>
      if (s.tank t).service = .undefined then refuse .noSuchTank s
      else match (s.tank t).strap with
        | none => refuse .noTable s
        | some tb =>
          let m := clampLimits (fullVolume tb) m
          if limitsOk m then accept m.bytes (s.setLimits t m) else refuse .badValue s
    | _, _ => refuse .badValue s

/-- TANK_NOTICE (R5, R19). -/
def answerTankNotice (p : List Byte) (s : State) : Answer × State :=
  if p.length ≠ 13 then refuse .badLength s
  else match tankAt p 0, readNotices p with
    | some t, some n =>
      if (s.tank t).service = .undefined then refuse .noSuchTank s
      else accept [] (s.updTank t fun r => { r with notices := some n })
    | _, _ => refuse .badValue s

/-- BALANCE_SET (R5, R23). -/
def answerBalanceSet (p : List Byte) (s : State) : Answer × State :=
  if p.length ≠ 8 then refuse .badLength s
  else if s.saving then refuse .busy s
  else match readBalance p with
    | some (lim, hys) => accept [] ({ s with tt := { s.tt with mLim := lim, mHys := hys } }.emit .balance)
    | none => refuse .badValue s

/-- TANK_GET (R24). -/
def answerTankGet (p : List Byte) (s : State) : Answer × State :=
  if p.length ≠ 1 then refuse .badLength s
  else match tankAt p 0 with
    | some t => accept (s.tankReply t) s
    | none => refuse .badValue s

/-- GAUGE_READMIT (R47). -/
def answerGaugeReadmit (p : List Byte) (s : State) : Answer × State :=
  if p.length ≠ 1 then refuse .badLength s
  else match tankAt p 0 with
    | none => refuse .badValue s
    | some t =>
      match s.gauge t with
      | none => refuse .noSuchTank s
      | some c => if c.state = .failed then accept [] (s.readmit t c) else refuse .badValue s

/-- GAUGE_GET (R48). -/
def answerGaugeGet (p : List Byte) (s : State) : Answer × State :=
  if p.length ≠ 1 then refuse .badLength s
  else match tankAt p 0 with
    | none => refuse .badValue s
    | some t =>
      match s.gauge t with
      | none => refuse .noSuchTank s
      | some c => accept (s.gaugeReply c) s

end Sys2Proof.Machine
end

