-- ==== Sys2Proof/Machine/TransferRequests.lean ====
section
/-!
DEFINITION. What the order store and the transfer channels answer to their requests (R102 to R113, R118, R138, R139,
R142).
-/
namespace Sys2Proof.Machine

/-- The greatest number of orders the store holds (R98). -/
def storeSize : Nat := 16

/-- The tanks an order's legs name. -/
def legTanks (legs : List Leg) : List TankIx := legs.flatMap Leg.tanks

/-- ORDER_SUBMIT (R102, R103). -/
def answerOrderSubmit (p : List Byte) (s : State) : Answer × State :=
  if !submitSizeOk p then refuse .badLength s
  else if !s.mode.working then refuse .modeConflict s
  else if storeSize ≤ s.te.orders.length then refuse .storeFull s
  else if u16At p 0 = 0 then refuse .badValue s
  else if (s.order (u16At p 0)).isSome then refuse .idInUse s
  else match readOrder p with
    | none => refuse .badValue s
    | some (priority, policy, legs) =>
      if (legTanks legs).any fun t => (s.tank t).service = .undefined then refuse .noSuchTank s
      else
        let s := s.submit (u16At p 0) priority policy legs
        accept (u16 (u16At p 0) ++ u8 s.te.orders.length) s

/-- ORDER_CANCEL (R108). The reply is worked out as the cancel is recorded (DEDUCED, assumption 27). -/
def answerOrderCancel (p : List Byte) (s : State) : Answer × State :=
  if p.length ≠ 2 then refuse .badLength s
  else match s.order (u16At p 0) with
    | none => refuse .noSuchOrder s
    | some o =>
      if !o.state.live then refuse .wrongState s
      else
        let s := s.cancel o.id
        let o' := (s.order o.id).getD o
        accept (u8 o'.state.code ++ mark o'.cancelRequested) s.settle

/-- What STOP_ALL counts of the orders it took: those CANCELLED at once, and those now ACTIVE with the mark set
(R109). -/
def State.stopCounts (s : State) (ids : List Nat) : Nat × Nat :=
  ((ids.filter fun i => (s.order i).any fun o => o.state = .cancelled).length,
   (ids.filter fun i => (s.order i).any fun o => o.state = .active && o.cancelRequested).length)

/-- STOP_ALL (R109). The counts are worked out as the cancels are recorded (DEDUCED, assumption 27). -/
def answerStopAll (p : List Byte) (s : State) : Answer × State :=
  if p.length ≠ 0 then refuse .badLength s
  else
    let ids := (s.te.orders.filter fun o => o.state.live).map (·.id)
    let s := ids.foldl (fun s i => s.cancel i) s
    let n := s.stopCounts ids
    accept (u8 n.1 ++ u8 n.2) s.settle

/-- ORDER_RESUME (R110). -/
def answerOrderResume (p : List Byte) (s : State) : Answer × State :=
  if p.length ≠ 2 then refuse .badLength s
  else if !s.mode.working then refuse .modeConflict s
  else match s.order (u16At p 0) with
    | none => refuse .noSuchOrder s
    | some o => if o.state = .held then accept [] (s.resume o.id) else refuse .wrongState s

/-- ORDER_REMOVE (R111). -/
def answerOrderRemove (p : List Byte) (s : State) : Answer × State :=
  if p.length ≠ 2 then refuse .badLength s
  else match s.order (u16At p 0) with
    | none => refuse .noSuchOrder s
    | some o =>
      if o.state.live then refuse .wrongState s
      else
        let s := { s with te := { s.te with orders := s.te.orders.filter (·.id ≠ o.id) } }
        accept (u8 s.te.orders.length) s

/-- ORDER_GET (R112). -/
def answerOrderGet (p : List Byte) (s : State) : Answer × State :=
  if p.length ≠ 2 then refuse .badLength s
  else match s.order (u16At p 0) with
    | none => refuse .noSuchOrder s
    | some o => accept (o.reply (s.te.orders.findIdx (·.id = o.id) + 1)) s

/-- ORDER_LIST (R113). -/
def answerOrderList (p : List Byte) (s : State) : Answer × State :=
  if p.length ≠ 0 then refuse .badLength s else accept (listField Order.line s.te.orders) s

/-- CHANNEL_SET (R118). -/
def answerChannelSet (p : List Byte) (s : State) : Answer × State :=
  if p.length ≠ 5 then refuse .badLength s
  else if !s.mode.configuring then refuse .modeConflict s
  else if s.saving then refuse .busy s
  else match Channel.ofCode (byteAt p 0), readChannelSettings p with
    | some c, some v =>
      accept [] (s.updChan c fun r => { r with meterFactor := v.meterFactor, noFlowTime := v.noFlowTime })
    | _, _ => refuse .badValue s

/-- CHANNEL_OUT (R138). -/
def answerChannelOut (p : List Byte) (s : State) : Answer × State :=
  if p.length ≠ 1 then refuse .badLength s
  else match Channel.ofCode (byteAt p 0) with
    | none => refuse .badValue s
    | some c =>
      let s := s.takeOut c
      accept (u8 (s.chan c).state.code) s

/-- CHANNEL_IN (R139). -/
def answerChannelIn (p : List Byte) (s : State) : Answer × State :=
  if p.length ≠ 1 then refuse .badLength s
  else match Channel.ofCode (byteAt p 0) with
    | none => refuse .badValue s
    | some c =>
      if (s.chan c).state = .stoppingForOut then refuse .busy s
      else if (s.pump c).state = .fault then refuse .faultPresent s
      else
        let s := s.takeIn c
        accept (u8 (s.chan c).state.code) s

/-- CHANNEL_GET (R142). -/
def answerChannelGet (p : List Byte) (s : State) : Answer × State :=
  if p.length ≠ 1 then refuse .badLength s
  else match Channel.ofCode (byteAt p 0) with
    | none => refuse .badValue s
    | some c => accept (s.channelReply c (s.chan c) ((s.runLeg c).map (·.moved))) s

end Sys2Proof.Machine
end

