-- ==== Sys2Proof/Machine/Link.lean ====
section
/-!
DEFINITION. The Link Unit's own operations (chapter 9): the kind code table, the taking of a request, the intake with
its LINK_BUSY replies, and the bytes of the line.
-/
namespace Sys2Proof.Machine

/-- What a block does with a payload. -/
abbrev Handler := List Byte → State → Answer × State

/-- The kind code of STATUS_GET (R184). -/
def statusGetKind : Byte := 0x60

/-- The kind code table (R184): the owner's answer to a kind; none where the table has no entry. -/
def handlerOf (kind : Byte) : Option Handler :=
  match kind.toNat with
  | 0x10 => some answerTankDefine
  | 0x11 => some answerTankRemove
  | 0x12 => some answerStrapLoad
  | 0x13 => some answerTankService
  | 0x14 => some answerTankClass
  | 0x15 => some answerTankLimits
  | 0x16 => some answerTankNotice
  | 0x17 => some answerBalanceSet
  | 0x18 => some answerTankGet
  | 0x20 => some answerGaugeReadmit
  | 0x21 => some answerGaugeGet
  | 0x28 => some answerValveSet
  | 0x29 => some answerValveReset
  | 0x2A => some answerValveGet
  | 0x2B => some answerActuatorSet
  | 0x2C => some answerPumpReset
  | 0x30 => some answerSourceSet
  | 0x31 => some answerSourcePermit
  | 0x32 => some answerSourceGet
  | 0x33 => some answerRuleSet
  | 0x34 => some answerRuleGet
  | 0x35 => some answerShoreOpen
  | 0x36 => some answerShoreClose
  | 0x37 => some answerProbeCheck
  | 0x40 => some answerOrderSubmit
  | 0x41 => some answerOrderCancel
  | 0x42 => some answerStopAll
  | 0x43 => some answerOrderResume
  | 0x44 => some answerOrderRemove
  | 0x45 => some answerOrderGet
  | 0x46 => some answerOrderList
  | 0x48 => some answerChannelSet
  | 0x49 => some answerChannelOut
  | 0x4A => some answerChannelIn
  | 0x4B => some answerChannelGet
  | 0x50 => some answerDutySet
  | 0x51 => some answerSupplyAdvance
  | 0x52 => some answerSupplyGet
  | 0x58 => some answerModeSet
  | 0x59 => some answerSupervisionSet
  | 0x5B => some answerHeartbeat
  | 0x60 => some answerStatusGet
  | 0x61 => some answerFetchReports
  | 0x62 => some answerReportEnable
  | 0x63 => some answerRestart
  | 0x68 => some answerSettingsSave
  | 0x69 => some answerCommissionEnd
  | _ => none

/-- A request is taken (R176): UNKNOWN_KIND for a kind without an entry; in START MODE_CONFLICT for every known kind but
STATUS_GET, whatever its size (DEDUCED, assumption 13); otherwise the owner answers. -/
def State.answer (r : Request) (s : State) : Answer × State :=
  match handlerOf r.kind with
  | none => refuse .unknownKind s
  | some h => if s.mode = .start ∧ r.kind ≠ statusGetKind then refuse .modeConflict s else h r.payload s

/-- How many requests the intake holds (R175). -/
def intakeCapacity : Nat := 4

/-- How many LINK_BUSY replies the reply sequence has room for (R175). -/
def refusalCapacity : Nat := 4

/-- The LINK_BUSY replies that await transmission: those in the reply sequence, the one that is being sent too (R175; DESIGN CHOICE,
assumption 55). -/
def LinkUnit.refusals (l : LinkUnit) : Nat := (l.replies.filter (·.refusal)).length

/-- A request joins the intake, is taken and answered, and its reply joins the reply sequence (R175 to R177; DESIGN
CHOICE, assumption 12). A reply other than OK carries the status alone. -/
def State.serve (r : Request) (s : State) : State :=
  let s := { s with lu := { s.lu with intake := s.lu.intake ++ [r] } }
  let (a, s) := s.answer r
  { s with lu := { s.lu with replies := s.lu.replies ++ [⟨r.kind, r.tag, a.status, a.payload, false⟩] } }

/-- A well-formed frame is handed to the intake (R175); after RESTART it is discarded (R179). -/
def State.receive (r : Request) (s : State) : State :=
  if s.lu.restarting then s
  else if s.lu.intake.length < intakeCapacity then s.serve r
  else if s.lu.refusals < refusalCapacity then
    { s with lu := { s.lu with replies := s.lu.replies ++ [⟨r.kind, r.tag, .linkBusy, [], true⟩] } }
  else s

/-- Put the framer's state. -/
def State.setFramer (f : Framer) (s : State) : State := { s with lu := { s.lu with framer := f } }

/-- Something happens to a part that runs, and the notices it causes are delivered; nothing happens to a part that is
off or held (R191). -/
def State.react (f : State → State) (s : State) : State := if s.power = .on then (f s).deliver else s

/-- A whole well-formed frame has been received: the framer is in HUNT again, and the intake has the frame (R173; DESIGN
CHOICE, assumption 11). -/
def State.frame (r : Request) (s : State) : State := s.react fun s => (s.setFramer .hunt).receive r

/-- A run of bytes is received; each well-formed frame they complete is handed to the intake (R173). -/
def State.bytesIn (bs : List Byte) (s : State) : State :=
  let out := s.lu.framer.bytes bs
  out.2.foldl (fun s r => (s.receive r).deliver) (s.setFramer out.1)

/-- The oldest reply has been sent (R177). -/
def State.sent (s : State) : State :=
  match s.lu.replies with
  | [] => s
  | r :: rest =>
    { s with txd := r.frame,
             lu := { s.lu with replies := rest, intake := if r.refusal then s.lu.intake else s.lu.intake.tail } }

end Sys2Proof.Machine
end

