-- ==== Sys2Proof/Machine/HostCommands.lean ====
section
/-!
DEFINITION. The meanings of the 47 host requests: each is the arrival of a well-formed frame with its kind code (R184),
which the Link Unit receives, takes and answers (Machine/Link.lean). What the owner does with the payload is the request's
own `answer` definition.
-/
namespace Sys2Proof.Machine

/-- TANK_DEFINE (R6). -/
def execTankDefine (tag : Byte) (payload : List Byte) (s : State) : Host.Outcome State Fault Refusal :=
  .next (s.frame ⟨0x10, tag, payload⟩)

/-- TANK_REMOVE (R8). -/
def execTankRemove (tag : Byte) (payload : List Byte) (s : State) : Host.Outcome State Fault Refusal :=
  .next (s.frame ⟨0x11, tag, payload⟩)

/-- STRAP_LOAD (R9). -/
def execStrapLoad (tag : Byte) (payload : List Byte) (s : State) : Host.Outcome State Fault Refusal :=
  .next (s.frame ⟨0x12, tag, payload⟩)

/-- TANK_SERVICE (R10). -/
def execTankService (tag : Byte) (payload : List Byte) (s : State) : Host.Outcome State Fault Refusal :=
  .next (s.frame ⟨0x13, tag, payload⟩)

/-- TANK_CLASS (R11). -/
def execTankClass (tag : Byte) (payload : List Byte) (s : State) : Host.Outcome State Fault Refusal :=
  .next (s.frame ⟨0x14, tag, payload⟩)

/-- TANK_LIMITS (R18). -/
def execTankLimits (tag : Byte) (payload : List Byte) (s : State) : Host.Outcome State Fault Refusal :=
  .next (s.frame ⟨0x15, tag, payload⟩)

/-- TANK_NOTICE (R19). -/
def execTankNotice (tag : Byte) (payload : List Byte) (s : State) : Host.Outcome State Fault Refusal :=
  .next (s.frame ⟨0x16, tag, payload⟩)

/-- BALANCE_SET (R23). -/
def execBalanceSet (tag : Byte) (payload : List Byte) (s : State) : Host.Outcome State Fault Refusal :=
  .next (s.frame ⟨0x17, tag, payload⟩)

/-- TANK_GET (R24). -/
def execTankGet (tag : Byte) (payload : List Byte) (s : State) : Host.Outcome State Fault Refusal :=
  .next (s.frame ⟨0x18, tag, payload⟩)

/-- GAUGE_READMIT (R47). -/
def execGaugeReadmit (tag : Byte) (payload : List Byte) (s : State) : Host.Outcome State Fault Refusal :=
  .next (s.frame ⟨0x20, tag, payload⟩)

/-- GAUGE_GET (R48). -/
def execGaugeGet (tag : Byte) (payload : List Byte) (s : State) : Host.Outcome State Fault Refusal :=
  .next (s.frame ⟨0x21, tag, payload⟩)

/-- VALVE_SET (R61). -/
def execValveSet (tag : Byte) (payload : List Byte) (s : State) : Host.Outcome State Fault Refusal :=
  .next (s.frame ⟨0x28, tag, payload⟩)

/-- VALVE_RESET (R60). -/
def execValveReset (tag : Byte) (payload : List Byte) (s : State) : Host.Outcome State Fault Refusal :=
  .next (s.frame ⟨0x29, tag, payload⟩)

/-- VALVE_GET (R63). -/
def execValveGet (tag : Byte) (payload : List Byte) (s : State) : Host.Outcome State Fault Refusal :=
  .next (s.frame ⟨0x2A, tag, payload⟩)

/-- ACTUATOR_SET (R64). -/
def execActuatorSet (tag : Byte) (payload : List Byte) (s : State) : Host.Outcome State Fault Refusal :=
  .next (s.frame ⟨0x2B, tag, payload⟩)

/-- PUMP_RESET (R69). -/
def execPumpReset (tag : Byte) (payload : List Byte) (s : State) : Host.Outcome State Fault Refusal :=
  .next (s.frame ⟨0x2C, tag, payload⟩)

/-- SOURCE_SET (R95). -/
def execSourceSet (tag : Byte) (payload : List Byte) (s : State) : Host.Outcome State Fault Refusal :=
  .next (s.frame ⟨0x30, tag, payload⟩)

/-- SOURCE_PERMIT (R77). -/
def execSourcePermit (tag : Byte) (payload : List Byte) (s : State) : Host.Outcome State Fault Refusal :=
  .next (s.frame ⟨0x31, tag, payload⟩)

/-- SOURCE_GET (R97). -/
def execSourceGet (tag : Byte) (payload : List Byte) (s : State) : Host.Outcome State Fault Refusal :=
  .next (s.frame ⟨0x32, tag, payload⟩)

/-- RULE_SET (R79). -/
def execRuleSet (tag : Byte) (payload : List Byte) (s : State) : Host.Outcome State Fault Refusal :=
  .next (s.frame ⟨0x33, tag, payload⟩)

/-- RULE_GET (R79). -/
def execRuleGet (tag : Byte) (payload : List Byte) (s : State) : Host.Outcome State Fault Refusal :=
  .next (s.frame ⟨0x34, tag, payload⟩)

/-- SHORE_OPEN (R91). -/
def execShoreOpen (tag : Byte) (payload : List Byte) (s : State) : Host.Outcome State Fault Refusal :=
  .next (s.frame ⟨0x35, tag, payload⟩)

/-- SHORE_CLOSE (R92). -/
def execShoreClose (tag : Byte) (payload : List Byte) (s : State) : Host.Outcome State Fault Refusal :=
  .next (s.frame ⟨0x36, tag, payload⟩)

/-- PROBE_CHECK (R93). -/
def execProbeCheck (tag : Byte) (payload : List Byte) (s : State) : Host.Outcome State Fault Refusal :=
  .next (s.frame ⟨0x37, tag, payload⟩)

/-- ORDER_SUBMIT (R102). -/
def execOrderSubmit (tag : Byte) (payload : List Byte) (s : State) : Host.Outcome State Fault Refusal :=
  .next (s.frame ⟨0x40, tag, payload⟩)

/-- ORDER_CANCEL (R108). -/
def execOrderCancel (tag : Byte) (payload : List Byte) (s : State) : Host.Outcome State Fault Refusal :=
  .next (s.frame ⟨0x41, tag, payload⟩)

/-- STOP_ALL (R109). -/
def execStopAll (tag : Byte) (payload : List Byte) (s : State) : Host.Outcome State Fault Refusal :=
  .next (s.frame ⟨0x42, tag, payload⟩)

/-- ORDER_RESUME (R110). -/
def execOrderResume (tag : Byte) (payload : List Byte) (s : State) : Host.Outcome State Fault Refusal :=
  .next (s.frame ⟨0x43, tag, payload⟩)

/-- ORDER_REMOVE (R111). -/
def execOrderRemove (tag : Byte) (payload : List Byte) (s : State) : Host.Outcome State Fault Refusal :=
  .next (s.frame ⟨0x44, tag, payload⟩)

/-- ORDER_GET (R112). -/
def execOrderGet (tag : Byte) (payload : List Byte) (s : State) : Host.Outcome State Fault Refusal :=
  .next (s.frame ⟨0x45, tag, payload⟩)

/-- ORDER_LIST (R113). -/
def execOrderList (tag : Byte) (payload : List Byte) (s : State) : Host.Outcome State Fault Refusal :=
  .next (s.frame ⟨0x46, tag, payload⟩)

/-- CHANNEL_SET (R118). -/
def execChannelSet (tag : Byte) (payload : List Byte) (s : State) : Host.Outcome State Fault Refusal :=
  .next (s.frame ⟨0x48, tag, payload⟩)

/-- CHANNEL_OUT (R138). -/
def execChannelOut (tag : Byte) (payload : List Byte) (s : State) : Host.Outcome State Fault Refusal :=
  .next (s.frame ⟨0x49, tag, payload⟩)

/-- CHANNEL_IN (R139). -/
def execChannelIn (tag : Byte) (payload : List Byte) (s : State) : Host.Outcome State Fault Refusal :=
  .next (s.frame ⟨0x4A, tag, payload⟩)

/-- CHANNEL_GET (R142). -/
def execChannelGet (tag : Byte) (payload : List Byte) (s : State) : Host.Outcome State Fault Refusal :=
  .next (s.frame ⟨0x4B, tag, payload⟩)

/-- DUTY_SET (R155). -/
def execDutySet (tag : Byte) (payload : List Byte) (s : State) : Host.Outcome State Fault Refusal :=
  .next (s.frame ⟨0x50, tag, payload⟩)

/-- SUPPLY_ADVANCE (R154). -/
def execSupplyAdvance (tag : Byte) (payload : List Byte) (s : State) : Host.Outcome State Fault Refusal :=
  .next (s.frame ⟨0x51, tag, payload⟩)

/-- SUPPLY_GET (R156). -/
def execSupplyGet (tag : Byte) (payload : List Byte) (s : State) : Host.Outcome State Fault Refusal :=
  .next (s.frame ⟨0x52, tag, payload⟩)

/-- MODE_SET (R160). -/
def execModeSet (tag : Byte) (payload : List Byte) (s : State) : Host.Outcome State Fault Refusal :=
  .next (s.frame ⟨0x58, tag, payload⟩)

/-- SUPERVISION_SET (R171). -/
def execSupervisionSet (tag : Byte) (payload : List Byte) (s : State) : Host.Outcome State Fault Refusal :=
  .next (s.frame ⟨0x59, tag, payload⟩)

/-- HEARTBEAT (R172). -/
def execHeartbeat (tag : Byte) (payload : List Byte) (s : State) : Host.Outcome State Fault Refusal :=
  .next (s.frame ⟨0x5B, tag, payload⟩)

/-- STATUS_GET (R178). -/
def execStatusGet (tag : Byte) (payload : List Byte) (s : State) : Host.Outcome State Fault Refusal :=
  .next (s.frame ⟨0x60, tag, payload⟩)

/-- FETCH_REPORTS (R181). -/
def execFetchReports (tag : Byte) (payload : List Byte) (s : State) : Host.Outcome State Fault Refusal :=
  .next (s.frame ⟨0x61, tag, payload⟩)

/-- REPORT_ENABLE (R182). -/
def execReportEnable (tag : Byte) (payload : List Byte) (s : State) : Host.Outcome State Fault Refusal :=
  .next (s.frame ⟨0x62, tag, payload⟩)

/-- RESTART (R179). -/
def execRestart (tag : Byte) (payload : List Byte) (s : State) : Host.Outcome State Fault Refusal :=
  .next (s.frame ⟨0x63, tag, payload⟩)

/-- SETTINGS_SAVE (R189). -/
def execSettingsSave (tag : Byte) (payload : List Byte) (s : State) : Host.Outcome State Fault Refusal :=
  .next (s.frame ⟨0x68, tag, payload⟩)

/-- COMMISSION_END (R190). -/
def execCommissionEnd (tag : Byte) (payload : List Byte) (s : State) : Host.Outcome State Fault Refusal :=
  .next (s.frame ⟨0x69, tag, payload⟩)

end Sys2Proof.Machine
end

