-- ==== Sys2Proof/Machine/LinkCommands.lean ====
section
/-!
DEFINITION. The meanings of the other events of the control link: frames that no owner takes, bytes that make no frame,
and the end of a reply's transmission (R173, R175, R176, R177).
-/
namespace Sys2Proof.Machine

/-- UNKNOWN_KIND (R176): a well-formed frame; the kind code table decides. -/
def execUnknownKind (kind tag : Byte) (payload : List Byte) (s : State) : Host.Outcome State Fault Refusal :=
  .next (s.frame ⟨kind, tag, payload⟩)

/-- LINK_BUSY (R175): a well-formed frame; the intake decides whether there is room for it. -/
def execLinkBusy (kind tag : Byte) (payload : List Byte) (s : State) : Host.Outcome State Fault Refusal :=
  .next (s.react fun s => (s.setFramer .hunt).receive ⟨kind, tag, payload⟩)

/-- FRAME_DISCARDED (R173): bytes are received, the framer decides what they make (DESIGN CHOICE,
assumption 11). -/
def execFrameDiscarded (bytes : List Byte) (s : State) : Host.Outcome State Fault Refusal :=
  .next (s.react fun s => s.bytesIn bytes)

/-- RECEIVE_GAP (R173): the bytes before the gap, the discard of the partial frame, and the byte that ends the gap,
examined in HUNT. -/
def execReceiveGap (before : List Byte) (next : Byte) (s : State) : Host.Outcome State Fault Refusal :=
  .next (s.react fun s => ((s.bytesIn before).setFramer .hunt).bytesIn [next])

/-- FRAMING_ERROR (R173): the bytes before it; the byte itself is dropped, and the partial frame discarded. -/
def execFramingError (before : List Byte) (s : State) : Host.Outcome State Fault Refusal :=
  .next (s.react fun s => (s.bytesIn before).setFramer .hunt)

/-- RXD_BREAK (R173): the bytes before it, and the discard of the partial frame. -/
def execRxdBreak (before : List Byte) (s : State) : Host.Outcome State Fault Refusal :=
  .next (s.react fun s => (s.bytesIn before).setFramer .hunt)

/-- REPLY_SENT (R177). -/
def execReplySent (s : State) : Host.Outcome State Fault Refusal :=
  .next (s.react State.sent)

end Sys2Proof.Machine
end

