-- ==== Sys2Proof/Machine/PlantCommands.lean ====
section
/-!
DEFINITION. The meanings of the plant's events: sensor samples, field feedback, flow pulses, run signals, and the
expiries of the part's timers. An expiry command is the expiry itself: it acts while its timer runs (DESIGN
CHOICE, assumption 2).
-/
namespace Sys2Proof.Machine

/-! ### Level channels and the inclinometer -/

/-- SAMPLE_REQUEST (R29): no requests in START. The next scan time is one period after the request (DEDUCED, assumption
33). -/
def execSampleRequest (tank : TankIx) (s : State) : Host.Outcome State Fault Refusal :=
  .next (s.react fun s =>
    match s.gauge tank with
    | some c =>
      if s.mode = .start then s
      else s.setGauge tank
        (some { c with inFlight := some s.clock, nextScan := after s.clock (scanPeriod s.mode) })
    | none => s)

/-- SAMPLE_ANSWER (R30): taken within 100 ms of the request, which the clock shows as at most one tenth (DESIGN
CHOICE, assumption 3). An answer marked late, to a request that has expired (R30) or that a channel restart or a removal has
discarded (R26), is ignored, also while a later request is in flight (DESIGN CHOICE, assumption 47). -/
def execSampleAnswer (tank : TankIx) (answer : ConverterAnswer) (s : State) : Host.Outcome State Fault Refusal :=
  .next (s.react fun s =>
    match s.gauge tank with
    | some c =>
      match c.inFlight with
      | some t => if answer.late = false ∧ elapsed s.clock t ≤ 1 then s.takeSample tank c (sampleOf answer.code.toNat) else s
      | none => s
    | none => s)

/-- SAMPLE_TIMEOUT (R30). -/
def execSampleTimeout (tank : TankIx) (s : State) : Host.Outcome State Fault Refusal :=
  .next (s.react fun s =>
    match s.gauge tank with
    | some c => if c.inFlight.isSome then s.takeSample tank c none else s
    | none => s)

/-- A slope clamped to −3000..3000 (R32). -/
def clampSlope (z : Int) : Int := max (-3000) (min 3000 z)

/-- ATTITUDE_SAMPLE (R32). -/
def execAttitudeSample (list trim : BitVec 16) (s : State) : Host.Outcome State Fault Refusal :=
  .next (s.react fun s =>
    let a : Attitude :=
      { list := clampSlope list.toInt, trim := clampSlope trim.toInt, live := true,
        outOfRange := decide (clampSlope list.toInt ≠ list.toInt ∨ clampSlope trim.toInt ≠ trim.toInt),
        lastTime := s.clock }
    let wasLive := s.gu.attitude.live
    let s := { s with gu := { s.gu with attitude := a } }
    if wasLive then s else s.report .gauge 0 5 0)

/-- ATTITUDE_STALE (R33). -/
def execAttitudeStale (s : State) : Host.Outcome State Fault Refusal :=
  .next (s.react fun s =>
    if s.gu.attitude.live then
      { s with gu := { s.gu with attitude := { s.gu.attitude with live := false } } }.report .gauge 0 6 0
    else s)

/-! ### Valves and pumps -/

/-- VALVE_FEEDBACK (R54): the two limit inputs of a valve; a change of the reported position is one feedback event. -/
def execValveFeedback (valve : Valve) (aInput bInput : Bool) (s : State) : Host.Outcome State Fault Refusal :=
  let p : LimitInputs := ⟨aInput, bInput⟩
  let s := { s with pins := { s.pins with limits := s.pins.limits.set valve.ix p } }
  .next (s.react fun s => if p.position = (s.valve valve).reported then s else s.feedback valve p.position)

/-- TRAVEL_TIMEOUT (R57). -/
def execTravelTimeout (valve : Valve) (s : State) : Host.Outcome State Fault Refusal :=
  .next (s.react fun s =>
    let r := s.valve valve
    if r.state.target.isSome ∧ r.timer.isSome then s.valveFault valve .travelTimeout else s)

/-- The run feedback inputs. -/
def Pins.setPump (c : Channel) (b : Bool) (p : Pins) : Pins :=
  match c with
  | .tc1 => { p with tp1 := b }
  | .tc2 => { p with tp2 := b }

/-- PUMP_FEEDBACK (R65): a change of the run feedback is one feedback event. -/
def execPumpFeedback (pump : Channel) (running : Bool) (s : State) : Host.Outcome State Fault Refusal :=
  let s := { s with pins := s.pins.setPump pump running }
  .next (s.react fun s => if (s.pump pump).feedback = running then s else s.pumpFeedback pump running)

/-- START_TIMEOUT (R66). -/
def execStartTimeout (pump : Channel) (s : State) : Host.Outcome State Fault Refusal :=
  .next (s.react fun s =>
    if (s.pump pump).state = .starting ∧ (s.pump pump).timer.isSome then s.pumpFault pump .startTimeout else s)

/-- STOP_TIMEOUT (R68). -/
def execStopTimeout (pump : Channel) (s : State) : Host.Outcome State Fault Refusal :=
  .next (s.react fun s =>
    if (s.pump pump).state = .stopping ∧ (s.pump pump).timer.isSome then s.pumpFault pump .stopTimeout else s)

/-! ### Sources -/

/-- CONDUCTIVITY_SAMPLE (R73): in every plant mode except START. -/
def execConductivitySample (source : Source) (value : Nat) (s : State) : Host.Outcome State Fault Refusal :=
  .next (s.react fun s => if s.mode = .start then s else s.conductivity source value)

/-- The run signal of a watermaker. -/
def Pins.maker (p : Pins) : Watermaker → Bool
  | .wm1 => p.wm1
  | .wm2 => p.wm2

/-- The run signal inputs. -/
def Pins.setMaker (w : Watermaker) (b : Bool) (p : Pins) : Pins :=
  match w with
  | .wm1 => { p with wm1 := b }
  | .wm2 => { p with wm2 := b }

/-- RUN_SIGNAL (R74): each change is one event; in START the signal is only there to be read (R72). -/
def execRunSignal (maker : Watermaker) (running : Bool) (s : State) : Host.Outcome State Fault Refusal :=
  let was := s.pins.maker maker
  let s := { s with pins := s.pins.setMaker maker running }
  .next (s.react fun s =>
    if was = running ∨ s.mode = .start then s
    else if running then s.makerRise maker else s.makerFall maker)

/-- FLUSH_END (R74). -/
def execFlushEnd (maker : Watermaker) (s : State) : Host.Outcome State Fault Refusal :=
  .next (s.react (State.endFlush maker))

/-- DUMP_LIMIT (R76). -/
def execDumpLimit (maker : Watermaker) (s : State) : Host.Outcome State Fault Refusal :=
  .next (s.react (State.dumpExpired maker))

/-- SOURCE_PULSE (R96). -/
def execSourcePulse (source : Source) (s : State) : Host.Outcome State Fault Refusal :=
  .next (s.react (State.sourcePulse source))

/-- PROBE_CHECK_END (R94). -/
def execProbeCheckEnd (source : Source) (s : State) : Host.Outcome State Fault Refusal :=
  .next (s.react fun s => if (s.source source).check.isSome then s.endCheck source else s)

/-! ### Transfer channels -/

/-- CHANNEL_PULSE (R127). -/
def execChannelPulse (channel : Channel) (s : State) : Host.Outcome State Fault Refusal :=
  .next (s.react (State.channelPulse channel))

/-- NO_FLOW (R128). -/
def execNoFlow (channel : Channel) (s : State) : Host.Outcome State Fault Refusal :=
  .next (s.react (State.flowLost channel))

/-! ### Waking and supervision -/

/-- WAKE_LIMIT (R164). -/
def execWakeLimit (s : State) : Host.Outcome State Fault Refusal :=
  .next (s.react State.wakeLimitExpires)

/-- FALSE_WAKE (R166). -/
def execFalseWake (s : State) : Host.Outcome State Fault Refusal :=
  .next (s.react State.confirmExpires)

/-- SUPERVISION_EXPIRY (R170). -/
def execSupervisionExpiry (s : State) : Host.Outcome State Fault Refusal :=
  .next (s.react State.supervisionExpires)

end Sys2Proof.Machine
end

