-- ==== Sys2Proof/Machine/PowerCommands.lean ====
section
/-!
DEFINITION. The meanings of the power, reset and store events (R179, R189, R191, R192). They are written over all the
part's states: off, held in reset, and running (DEDUCED, assumption 25).
-/
namespace Sys2Proof.Machine

/-- The supply goes or RESETN goes low: the part stops, and a save in flight is cut off (R189, R191); its stored checksum
was marked as not agreeing when the write began. -/
def State.stopPart (p : Power) (s : State) : State :=
  { s with power := p, sts := { s.sts with save := none } }

/-- The level of the RESETN input; true is high. -/
def State.setResetn (high : Bool) (s : State) : State := { s with pins := { s.pins with resetn := high } }

/-- POWER_UP (R191): every block takes its reset values. With RESETN low the part is held with those values, and its start begins
when RESETN returns high (DEDUCED, assumption 25). -/
def execPowerUp (s : State) : Host.Outcome State Fault Refusal :=
  .next (if s.pins.resetn then s.begin .powerUp Kept.powerUp else (s.begin .powerUp Kept.powerUp).stopPart .held)

/-- RESETN_HELD (R191): RESETN goes low and holds the part; a part without supply stays off. -/
def execResetnHeld (s : State) : Host.Outcome State Fault Refusal :=
  let s := s.setResetn false
  .next (if s.power = .off then s else s.stopPart .held)

/-- RESET_LINE (R191, R193): RESETN returns high after at least 10 µs, and a restart begins. -/
def execResetLine (s : State) : Host.Outcome State Fault Refusal :=
  let s := s.setResetn true
  .next (if s.power = .off then s else s.begin .resetLine s.kept)

/-- RESTART_REQUEST (R179): the RESTART reply and every reply ahead of it have been sent, and the part restarts. -/
def execRestartRequest (s : State) : Host.Outcome State Fault Refusal :=
  .next (if s.power = .on ∧ s.lu.restarting = true ∧ s.lu.replies = [] then s.begin .restartRequest s.kept else s)

/-- LOAD_END (R192): the load of a part in START ends, when this command says so (DESIGN CHOICE, assumption 4). -/
def execLoadEnd (s : State) : Host.Outcome State Fault Refusal :=
  .next (s.react fun s => if s.mode = .start then s.load else s)

/-- SAVE_END (R189): the write ends when this command says so (DESIGN CHOICE, assumption 4). -/
def execSaveEnd (s : State) : Host.Outcome State Fault Refusal :=
  .next (s.react State.endSave)

/-- POWER_LOSS (R189, R191). -/
def execPowerLoss (s : State) : Host.Outcome State Fault Refusal :=
  .next (s.stopPart .off)

end Sys2Proof.Machine
end

