-- ==== Sys2Proof/Machine/Dispatch.lean ====
section
/-! DEFINITION. The dispatch: one arm per command, each one direct call of its meaning. -/
namespace Sys2Proof.Machine
open Sys2Proof

def exec (i : Instr) (s : State) : Host.Outcome State Fault Refusal :=
  match i with
  | .tankDefine tag payload => Sys2Proof.Machine.execTankDefine tag payload s
  | .tankRemove tag payload => Sys2Proof.Machine.execTankRemove tag payload s
  | .strapLoad tag payload => Sys2Proof.Machine.execStrapLoad tag payload s
  | .tankService tag payload => Sys2Proof.Machine.execTankService tag payload s
  | .tankClass tag payload => Sys2Proof.Machine.execTankClass tag payload s
  | .tankLimits tag payload => Sys2Proof.Machine.execTankLimits tag payload s
  | .tankNotice tag payload => Sys2Proof.Machine.execTankNotice tag payload s
  | .balanceSet tag payload => Sys2Proof.Machine.execBalanceSet tag payload s
  | .tankGet tag payload => Sys2Proof.Machine.execTankGet tag payload s
  | .gaugeReadmit tag payload => Sys2Proof.Machine.execGaugeReadmit tag payload s
  | .gaugeGet tag payload => Sys2Proof.Machine.execGaugeGet tag payload s
  | .valveSet tag payload => Sys2Proof.Machine.execValveSet tag payload s
  | .valveReset tag payload => Sys2Proof.Machine.execValveReset tag payload s
  | .valveGet tag payload => Sys2Proof.Machine.execValveGet tag payload s
  | .actuatorSet tag payload => Sys2Proof.Machine.execActuatorSet tag payload s
  | .pumpReset tag payload => Sys2Proof.Machine.execPumpReset tag payload s
  | .sourceSet tag payload => Sys2Proof.Machine.execSourceSet tag payload s
  | .sourcePermit tag payload => Sys2Proof.Machine.execSourcePermit tag payload s
  | .sourceGet tag payload => Sys2Proof.Machine.execSourceGet tag payload s
  | .ruleSet tag payload => Sys2Proof.Machine.execRuleSet tag payload s
  | .ruleGet tag payload => Sys2Proof.Machine.execRuleGet tag payload s
  | .shoreOpen tag payload => Sys2Proof.Machine.execShoreOpen tag payload s
  | .shoreClose tag payload => Sys2Proof.Machine.execShoreClose tag payload s
  | .probeCheck tag payload => Sys2Proof.Machine.execProbeCheck tag payload s
  | .orderSubmit tag payload => Sys2Proof.Machine.execOrderSubmit tag payload s
  | .orderCancel tag payload => Sys2Proof.Machine.execOrderCancel tag payload s
  | .stopAll tag payload => Sys2Proof.Machine.execStopAll tag payload s
  | .orderResume tag payload => Sys2Proof.Machine.execOrderResume tag payload s
  | .orderRemove tag payload => Sys2Proof.Machine.execOrderRemove tag payload s
  | .orderGet tag payload => Sys2Proof.Machine.execOrderGet tag payload s
  | .orderList tag payload => Sys2Proof.Machine.execOrderList tag payload s
  | .channelSet tag payload => Sys2Proof.Machine.execChannelSet tag payload s
  | .channelOut tag payload => Sys2Proof.Machine.execChannelOut tag payload s
  | .channelIn tag payload => Sys2Proof.Machine.execChannelIn tag payload s
  | .channelGet tag payload => Sys2Proof.Machine.execChannelGet tag payload s
  | .dutySet tag payload => Sys2Proof.Machine.execDutySet tag payload s
  | .supplyAdvance tag payload => Sys2Proof.Machine.execSupplyAdvance tag payload s
  | .supplyGet tag payload => Sys2Proof.Machine.execSupplyGet tag payload s
  | .modeSet tag payload => Sys2Proof.Machine.execModeSet tag payload s
  | .supervisionSet tag payload => Sys2Proof.Machine.execSupervisionSet tag payload s
  | .heartbeat tag payload => Sys2Proof.Machine.execHeartbeat tag payload s
  | .statusGet tag payload => Sys2Proof.Machine.execStatusGet tag payload s
  | .fetchReports tag payload => Sys2Proof.Machine.execFetchReports tag payload s
  | .reportEnable tag payload => Sys2Proof.Machine.execReportEnable tag payload s
  | .restart tag payload => Sys2Proof.Machine.execRestart tag payload s
  | .settingsSave tag payload => Sys2Proof.Machine.execSettingsSave tag payload s
  | .commissionEnd tag payload => Sys2Proof.Machine.execCommissionEnd tag payload s
  | .unknownKind kind tag payload => Sys2Proof.Machine.execUnknownKind kind tag payload s
  | .linkBusy kind tag payload => Sys2Proof.Machine.execLinkBusy kind tag payload s
  | .frameDiscarded bytes => Sys2Proof.Machine.execFrameDiscarded bytes s
  | .receiveGap before next => Sys2Proof.Machine.execReceiveGap before next s
  | .framingError before => Sys2Proof.Machine.execFramingError before s
  | .rxdBreak before => Sys2Proof.Machine.execRxdBreak before s
  | .replySent => Sys2Proof.Machine.execReplySent s
  | .powerUp => Sys2Proof.Machine.execPowerUp s
  | .resetnHeld => Sys2Proof.Machine.execResetnHeld s
  | .resetLine => Sys2Proof.Machine.execResetLine s
  | .restartRequest => Sys2Proof.Machine.execRestartRequest s
  | .loadEnd => Sys2Proof.Machine.execLoadEnd s
  | .saveEnd => Sys2Proof.Machine.execSaveEnd s
  | .sampleRequest tank => Sys2Proof.Machine.execSampleRequest tank s
  | .sampleAnswer tank answer => Sys2Proof.Machine.execSampleAnswer tank answer s
  | .sampleTimeout tank => Sys2Proof.Machine.execSampleTimeout tank s
  | .attitudeSample list trim => Sys2Proof.Machine.execAttitudeSample list trim s
  | .attitudeStale => Sys2Proof.Machine.execAttitudeStale s
  | .valveFeedback valve aInput bInput => Sys2Proof.Machine.execValveFeedback valve aInput bInput s
  | .travelTimeout valve => Sys2Proof.Machine.execTravelTimeout valve s
  | .pumpFeedback pump running => Sys2Proof.Machine.execPumpFeedback pump running s
  | .startTimeout pump => Sys2Proof.Machine.execStartTimeout pump s
  | .stopTimeout pump => Sys2Proof.Machine.execStopTimeout pump s
  | .conductivitySample source value => Sys2Proof.Machine.execConductivitySample source value s
  | .runSignal maker running => Sys2Proof.Machine.execRunSignal maker running s
  | .flushEnd maker => Sys2Proof.Machine.execFlushEnd maker s
  | .dumpLimit maker => Sys2Proof.Machine.execDumpLimit maker s
  | .sourcePulse source => Sys2Proof.Machine.execSourcePulse source s
  | .probeCheckEnd source => Sys2Proof.Machine.execProbeCheckEnd source s
  | .channelPulse channel => Sys2Proof.Machine.execChannelPulse channel s
  | .noFlow channel => Sys2Proof.Machine.execNoFlow channel s
  | .wakeLimit => Sys2Proof.Machine.execWakeLimit s
  | .falseWake => Sys2Proof.Machine.execFalseWake s
  | .supervisionExpiry => Sys2Proof.Machine.execSupervisionExpiry s
  | .powerLoss => Sys2Proof.Machine.execPowerLoss s

end Sys2Proof.Machine
end

