-- ==== Sys2Proof/Machine/Idle.lean ====
section
/-!
DEFINITION. What the part does while no command waits (DESIGN CHOICE, assumption 1): the first of its own timers that is due
expires, and when none is due a tenth of a second passes.
-/
namespace Sys2Proof.Machine

/-- A timer that runs and has reached its expiry. -/
def State.expired (s : State) (t : Option Clock) : Bool := t.any (reached s.clock)

/-- A time has lain in the past for a number of tenths or more. -/
def State.past (s : State) (t : Option Clock) (tenths : Nat) : Bool := t.any fun a => tenths ≤ elapsed s.clock a

/-- The expiries that are due, each as its command. -/
def State.dueList (s : State) : List Instr :=
  let tanks := List.finRange 12
  (tanks.filter fun t => (s.gauge t).any fun c => s.past c.inFlight 1).map Instr.sampleTimeout ++
  (tanks.filter fun t => decide (s.mode ≠ .start) && (s.gauge t).any fun c => reached s.clock c.nextScan).map
    Instr.sampleRequest ++
  (if s.gu.attitude.live && s.past (some s.gu.attitude.lastTime) 20 then [.attitudeStale] else []) ++
  (Valve.all.filter fun v => (s.valve v).state.target.isSome && s.expired (s.valve v).timer).map Instr.travelTimeout ++
  ([Channel.tc1, .tc2].filter fun c => decide ((s.pump c).state = .starting) && s.expired (s.pump c).timer).map
    Instr.startTimeout ++
  ([Channel.tc1, .tc2].filter fun c => decide ((s.pump c).state = .stopping) && s.expired (s.pump c).timer).map
    Instr.stopTimeout ++
  ([Watermaker.wm1, .wm2].filter fun w => decide ((s.source w.source).state = .flushing) &&
    s.expired (s.source w.source).flush).map Instr.flushEnd ++
  ([Watermaker.wm1, .wm2].filter fun w => decide ((s.source w.source).settings.dumpLimit ≠ 0) &&
    s.past (s.source w.source).dump ((s.source w.source).settings.dumpLimit * 10)).map Instr.dumpLimit ++
  ([Source.wm1, .wm2, .shore].filter fun x => s.expired (s.source x).check).map Instr.probeCheckEnd ++
  ([Channel.tc1, .tc2].filter fun c => decide ((s.chan c).phase = some .pumping) && s.expired (s.chan c).noFlow).map
    Instr.noFlow ++
  (if s.pmc.wake.any fun w => decide (w.phase = .warming) && s.expired w.limit then [.wakeLimit] else []) ++
  (if s.pmc.wake.any fun w => decide (w.phase = .confirming) && s.expired w.confirm then [.falseWake] else []) ++
  (if s.expired (s.pmc.timer.map (·.expiry)) then [.supervisionExpiry] else []) ++
  (if s.lu.restarting && s.lu.replies.isEmpty then [.restartRequest] else [])

/-- The step of a part for which no command waits. -/
def State.idle (s : State) : Host.Outcome State Fault Refusal :=
  if s.power = .on then
    match s.dueList with
    | c :: _ => exec c s
    | [] => .next { s with clock := after s.clock 1 }
  else .next s

end Sys2Proof.Machine
end

