-- ==== Sys2Proof/Machine/Step.lean ====
section
/-! DEFINITION. The step: the command at the front of the queue, or the part's own time. -/
namespace Sys2Proof.Machine

/-- Take the command at the front of the queue and run it with the queue's rest; with no command, idle (DESIGN
CHOICE, assumption 1). -/
def step (s : State) : Host.Outcome State Fault Refusal :=
  match s.pending with
  | c :: rest => exec c { s with pending := rest }
  | [] => s.idle

/-- The state with the command a word spells put at the front of its queue; no word spells one (Decode.lean; DEDUCED,
assumption 37). -/
def State.withFetchWord (s : State) (nbits w : Nat) : State :=
  match decodeTableWord nbits w with
  | some c => { s with pending := c :: s.pending }
  | none => s

end Sys2Proof.Machine
end

