-- ==== Sys2Proof/Safety.lean ====
section
/-!
DEFINITION. The terms the claims use: what the link needs to take a request, the requests on the line with their sizes,
the part of the state that no delivery of notices touches, and the laws that the manual says the blocks keep.
-/
namespace Sys2Proof
open Machine

/-- The frame a request is, with its kind code (R184); none for an event that is no request. -/
def Instr.request : Instr → Option Request
  | .tankDefine tag p => some ⟨0x10, tag, p⟩
  | .tankRemove tag p => some ⟨0x11, tag, p⟩
  | .strapLoad tag p => some ⟨0x12, tag, p⟩
  | .tankService tag p => some ⟨0x13, tag, p⟩
  | .tankClass tag p => some ⟨0x14, tag, p⟩
  | .tankLimits tag p => some ⟨0x15, tag, p⟩
  | .tankNotice tag p => some ⟨0x16, tag, p⟩
  | .balanceSet tag p => some ⟨0x17, tag, p⟩
  | .tankGet tag p => some ⟨0x18, tag, p⟩
  | .gaugeReadmit tag p => some ⟨0x20, tag, p⟩
  | .gaugeGet tag p => some ⟨0x21, tag, p⟩
  | .valveSet tag p => some ⟨0x28, tag, p⟩
  | .valveReset tag p => some ⟨0x29, tag, p⟩
  | .valveGet tag p => some ⟨0x2A, tag, p⟩
  | .actuatorSet tag p => some ⟨0x2B, tag, p⟩
  | .pumpReset tag p => some ⟨0x2C, tag, p⟩
  | .sourceSet tag p => some ⟨0x30, tag, p⟩
  | .sourcePermit tag p => some ⟨0x31, tag, p⟩
  | .sourceGet tag p => some ⟨0x32, tag, p⟩
  | .ruleSet tag p => some ⟨0x33, tag, p⟩
  | .ruleGet tag p => some ⟨0x34, tag, p⟩
  | .shoreOpen tag p => some ⟨0x35, tag, p⟩
  | .shoreClose tag p => some ⟨0x36, tag, p⟩
  | .probeCheck tag p => some ⟨0x37, tag, p⟩
  | .orderSubmit tag p => some ⟨0x40, tag, p⟩
  | .orderCancel tag p => some ⟨0x41, tag, p⟩
  | .stopAll tag p => some ⟨0x42, tag, p⟩
  | .orderResume tag p => some ⟨0x43, tag, p⟩
  | .orderRemove tag p => some ⟨0x44, tag, p⟩
  | .orderGet tag p => some ⟨0x45, tag, p⟩
  | .orderList tag p => some ⟨0x46, tag, p⟩
  | .channelSet tag p => some ⟨0x48, tag, p⟩
  | .channelOut tag p => some ⟨0x49, tag, p⟩
  | .channelIn tag p => some ⟨0x4A, tag, p⟩
  | .channelGet tag p => some ⟨0x4B, tag, p⟩
  | .dutySet tag p => some ⟨0x50, tag, p⟩
  | .supplyAdvance tag p => some ⟨0x51, tag, p⟩
  | .supplyGet tag p => some ⟨0x52, tag, p⟩
  | .modeSet tag p => some ⟨0x58, tag, p⟩
  | .supervisionSet tag p => some ⟨0x59, tag, p⟩
  | .heartbeat tag p => some ⟨0x5B, tag, p⟩
  | .statusGet tag p => some ⟨0x60, tag, p⟩
  | .fetchReports tag p => some ⟨0x61, tag, p⟩
  | .reportEnable tag p => some ⟨0x62, tag, p⟩
  | .restart tag p => some ⟨0x63, tag, p⟩
  | .settingsSave tag p => some ⟨0x68, tag, p⟩
  | .commissionEnd tag p => some ⟨0x69, tag, p⟩
  | .unknownKind kind tag p => some ⟨kind, tag, p⟩
  | .linkBusy kind tag p => some ⟨kind, tag, p⟩
  | .frameDiscarded _ => none
  | .receiveGap _ _ => none
  | .framingError _ => none
  | .rxdBreak _ => none
  | .replySent => none
  | .powerUp => none
  | .resetnHeld => none
  | .resetLine => none
  | .restartRequest => none
  | .loadEnd => none
  | .saveEnd => none
  | .sampleRequest _ => none
  | .sampleAnswer _ _ => none
  | .sampleTimeout _ => none
  | .attitudeSample _ _ => none
  | .attitudeStale => none
  | .valveFeedback _ _ _ => none
  | .travelTimeout _ => none
  | .pumpFeedback _ _ => none
  | .startTimeout _ => none
  | .stopTimeout _ => none
  | .conductivitySample _ _ => none
  | .runSignal _ _ => none
  | .flushEnd _ => none
  | .dumpLimit _ => none
  | .sourcePulse _ => none
  | .probeCheckEnd _ => none
  | .channelPulse _ => none
  | .noFlow _ => none
  | .wakeLimit => none
  | .falseWake => none
  | .supervisionExpiry => none
  | .powerLoss => none

/-- The event may carry a VALVE_RESET or begin a new start: what may end a valve's FAULT (R59). -/
def Instr.mayRepair : Instr → Bool
  | .frameDiscarded _ => true
  | .receiveGap _ _ => true
  | .framingError _ => true
  | .rxdBreak _ => true
  | .powerUp => true
  | .resetLine => true
  | .restartRequest => true
  | i => i.request.any fun r => r.kind = 0x29

end Sys2Proof

namespace Sys2Proof.Machine

/-! ### A part that is ready -/

/-- The link takes frames and has room for one more request (R175, R179). -/
abbrev State.listening (s : State) : Prop :=
  s.power = .on ∧ s.lu.restarting = false ∧ s.lu.intake.length < intakeCapacity

/-- The Link Unit takes a request and hands it to its owner: the plant is not in START (R176). -/
abbrev State.ready (s : State) : Prop := s.listening ∧ s.mode ≠ .start

/-- A request that changes stored settings is not held back: the mode takes configuration and no save is in flight. -/
abbrev State.configurable (s : State) : Prop := s.ready ∧ s.mode.configuring = true ∧ s.saving = false

/-- A notice that can wake the plant. -/
def Msg.wakes : Msg → Bool
  | .wake _ _ _ => true
  | _ => false

/-- No wake can come of the notices in flight: none is a wake cause, and a wake under way waits for its confirmation or
for a gauge (R164, R165). -/
abbrev State.wakeless (s : State) : Prop :=
  (∀ m ∈ s.msgs, m.wakes = false) ∧
    (s.pmc.wake.all fun w => decide (w.phase = .confirming) || !s.gaugesSettled) = true

/-- What the link holds after a request has been taken and answered (R175 to R177): the framer in HUNT, the request in
the intake, its reply in the reply sequence. -/
def State.answered (kind tag : Byte) (payload : List Byte) (st : Status) (reply : List Byte) (s : State) : State :=
  { s with lu := { s.lu with
    framer := .hunt, intake := s.lu.intake ++ [⟨kind, tag, payload⟩],
    replies := s.lu.replies ++ [⟨kind, tag, st, reply, false⟩] } }

/-- A tank's record put, and the balance moment worked out anew (R22). -/
def State.putTank (t : TankIx) (r : TankRecord) (s : State) : State :=
  { s with tt := { s.tt with tanks := s.tt.tanks.set t r, moment := momentOf (s.tt.tanks.set t r) } }

/-! ### Sizes and kinds of the requests -/

/-- The payload has the size that R187 (R185 for ORDER_SUBMIT) gives the kind; true for a kind without an entry. -/
def payloadSizeOk (kind : Byte) (p : List Byte) : Bool :=
  match kind.toNat with
  | 0x10 => p.length = 21
  | 0x12 => strapSizeOk p
  | 0x13 | 0x14 | 0x28 | 0x2B | 0x31 | 0x41 | 0x43 | 0x44 | 0x45 => p.length = 2
  | 0x15 => p.length = 21
  | 0x16 => p.length = 13
  | 0x17 => p.length = 8
  | 0x30 => p.length = 16
  | 0x33 => ruleSizeOk p
  | 0x40 => submitSizeOk p
  | 0x48 => p.length = 5
  | 0x50 => dutySizeOk p
  | 0x59 => p.length = 3
  | 0x62 => p.length = 10
  | 0x35 | 0x36 | 0x42 | 0x46 | 0x51 | 0x52 | 0x5B | 0x60 | 0x63 => p.length = 0
  | 0x11 | 0x18 | 0x20 | 0x21 | 0x29 | 0x2A | 0x2C | 0x32 | 0x34 | 0x37 | 0x49 | 0x4A | 0x4B | 0x58 | 0x61 | 0x68
  | 0x69 => p.length = 1
  | _ => true

/-- The requests that a save in flight refuses (R189), by kind code: those that change a stored setting, SETTINGS_SAVE,
COMMISSION_END and RESTART. -/
def refusedBySave : List Byte :=
  [0x10, 0x11, 0x12, 0x13, 0x15, 0x17, 0x33, 0x30, 0x48, 0x2B, 0x50, 0x59, 0x68, 0x69, 0x63]

/-- The plant mode in which a request that a save in flight refuses is past its owner's mode check (R6, R8, R9, R64, R79, R95,
R118, R171: CONFIGURE and COMMISSION; R190: COMMISSION; the others every mode but START). -/
def Mode.takesChange (m : Mode) (kind : Byte) : Bool :=
  match kind.toNat with
  | 0x10 | 0x11 | 0x12 | 0x2B | 0x30 | 0x33 | 0x48 | 0x59 => m.configuring
  | 0x69 => decide (m = .commission)
  | _ => decide (m ≠ .start)

/-! ### Payload ranges -/

/-- The ranges of a definition (R6). -/
abbrev TankDef.lawful (d : TankDef) : Prop :=
  500 ≤ d.height ∧ d.height ≤ 8000 ∧ d.residual ≤ 5000 ∧ -1500 ≤ d.arm ∧ d.arm ≤ 1500 ∧
    500 ≤ d.span ∧ d.span ≤ 8000 ∧ -500 ≤ d.zeroOffset ∧ d.zeroOffset ≤ 500 ∧ 1 ≤ d.stepLimit ∧ d.stepLimit ≤ 2000 ∧
    d.windowLength ∈ [1, 2, 4, 8, 16] ∧ -20000 ≤ d.dx ∧ d.dx ≤ 20000 ∧ -20000 ≤ d.dy ∧ d.dy ≤ 20000

/-- A strapping table of a tank of this height (R9). -/
abbrev strapLawful (height : Nat) (tb : List StrapPoint) : Prop :=
  2 ≤ tb.length ∧ tb.length ≤ 16 ∧ (tb.head?.map (·.level)) = some 0 ∧
    tb.Pairwise (fun p q => p.level < q.level ∧ p.volume ≤ q.volume) ∧ lastLevel tb = height ∧
    100 ≤ fullVolume tb ∧ fullVolume tb ≤ 99999

/-- The ranges of a source's settings (R95). -/
abbrev SourceSettings.lawful (x : SourceSettings) : Prop :=
  10 ≤ x.goodLimit ∧ x.goodLimit ≤ 9000 ∧ x.goodLimit < x.fairLimit ∧ x.fairLimit ≤ 9999 ∧
    1 ≤ x.improvement ∧ x.improvement ≤ 8 ∧ 30 ≤ x.flushTime ∧ x.flushTime ≤ 900 ∧
    (x.dumpLimit = 0 ∨ (60 ≤ x.dumpLimit ∧ x.dumpLimit ≤ 3600)) ∧ 1 ≤ x.meterFactor ∧ x.meterFactor ≤ 10000 ∧
    x.probeReference ≤ 9999 ∧ x.probeTolerance ≤ 9999

/-- What R79 asks of a rule: a ROUTE rule has 1 to 4 distinct tanks. -/
def Rule.lawful (r : Rule) : Bool :=
  match r.action with
  | .dump => true
  | .route x => decide (1 ≤ x.group.length ∧ x.group.length ≤ 4 ∧ x.group.Nodup)

/-- What R102 asks of a leg as it is submitted, and what R103 gives it. -/
abbrev Leg.submitted (l : Leg) : Prop :=
  l.dest ≠ .tank l.source ∧ ¬(l.condition = .fill ∧ l.dest = .overboard) ∧ 1 ≤ l.volume ∧ l.volume ≤ 99999 ∧
    l.moved = 0 ∧ l.runs = 0 ∧ l.result = none ∧ l.lastChannel = none

/-- The payload of ORDER_SUBMIT (R185): each leg as the first 7 bytes of its record. -/
def submitPayload (id priority : Nat) (policy : Policy) (legs : List Leg) : List Byte :=
  u16 id ++ u8 priority ++ u8 policy.code ++ u8 legs.length ++ legs.flatMap fun l => l.bytes.take 7

/-! ### What no notice changes

The notices of R4, R22, R44, R158 and the answers of R55 to R68 make the blocks act: valves are commanded, legs stop and
start, sources move. They never reach the settings, the measured values, the pins, the stored image, the replies or the
clock. `standing` blanks what they may reach, so that two states with equal `standing` agree on all the rest. -/

/-- Claim and entries blanked, and the class of an empty tank, which a flow into it may change (R20). -/
def TankRecord.standing (r : TankRecord) : TankRecord :=
  { r with cls := if r.empty then .quarantine else r.cls, claim := none, entries := [] }

/-- The next scan time blanked (R29). -/
def GaugeChannel.standing (c : GaugeChannel) : GaugeChannel := { c with nextScan := 0 }

/-- What a valve keeps: its reported position, its fault and the reason of it. -/
def ValveRecord.standing (r : ValveRecord) : Position × Bool × Option ValveFault :=
  (r.reported, decide (r.state = .fault), r.reason)

/-- What a pump keeps: its feedback, its fault and the reason of it. -/
def PumpRecord.standing (r : PumpRecord) : Bool × Bool × Option PumpFault :=
  (r.feedback, decide (r.state = .fault), r.reason)

/-- What a source keeps: its settings, last sample, probe, check, switch and counts; the rest blanked. -/
def SourceRecord.standing (r : SourceRecord) : SourceRecord :=
  { r with state := .stopped, dumpReason := none, endReason := none, grade := .bad, counter := 0, worst := none,
           inhibited := none, permit := .withheld, flush := none, dump := none, rule := none, route := none }

/-- What a leg keeps: all but its runs, its result and the channel of its last run. -/
def Leg.standing (l : Leg) : Leg := { l with runs := 0, result := none, lastChannel := none }

/-- What an order keeps: all but its state, current leg, hold reason and channel. -/
def Order.standing (o : Order) : Order :=
  { o with legs := o.legs.map Leg.standing, state := .pending, current := 1, heldByFallback := false, channel := none }

/-- What a transfer channel keeps: its settings, its totalizer and its residue. -/
def ChannelRecord.standing (r : ChannelRecord) : Nat × Nat × Nat × Nat :=
  (r.meterFactor, r.noFlowTime, r.totalizer, r.residue)

/-- The part of the state that no delivery of notices touches. -/
structure Standing where
  power : Power
  clock : Clock
  pins : Pins
  txd : List Byte
  tanks : List TankRecord
  mLim : Nat
  mHys : Nat
  moment : Int
  gauges : List (Option GaugeChannel)
  attitude : Attitude
  valves : List (Position × Bool × Option ValveFault)
  tp1 : Bool × Bool × Option PumpFault
  tp2 : Bool × Bool × Option PumpFault
  travelTimeout : Nat
  wm1 : SourceRecord
  wm2 : SourceRecord
  shore : SourceRecord
  rules : Vector Rule 8
  orders : List Order
  sequence : Nat
  tc1 : Nat × Nat × Nat × Nat
  tc2 : Nat × Nat × Nat × Nat
  duty : List TankIx
  period : Nat
  kind : SupKind
  framer : Framer
  intake : List Request
  replies : List Reply
  enables : ReportEnables
  restarting : Bool
  sts : SettingsStore
  pending : List Instr
  deriving DecidableEq, Repr

/-- What of a state no delivery of notices touches. -/
def State.standing (s : State) : Standing :=
  { power := s.power, clock := s.clock, pins := s.pins, txd := s.txd,
    tanks := s.tt.tanks.toList.map TankRecord.standing, mLim := s.tt.mLim, mHys := s.tt.mHys, moment := s.tt.moment,
    gauges := s.gu.channels.toList.map (Option.map GaugeChannel.standing), attitude := s.gu.attitude,
    valves := s.au.valves.toList.map ValveRecord.standing, tp1 := s.au.tp1.standing, tp2 := s.au.tp2.standing,
    travelTimeout := s.au.travelTimeout,
    wm1 := s.ir.wm1.standing, wm2 := s.ir.wm2.standing, shore := s.ir.shore.standing, rules := s.ir.rules,
    orders := s.te.orders.map Order.standing, sequence := s.te.sequence,
    tc1 := s.te.tc1.standing, tc2 := s.te.tc2.standing, duty := s.ss.duty,
    period := s.pmc.period, kind := s.pmc.kind,
    framer := s.lu.framer, intake := s.lu.intake, replies := s.lu.replies, enables := s.lu.enables,
    restarting := s.lu.restarting, sts := s.sts, pending := s.pending }

/-- All that a state has and no delivery of notices can take away, another state has: the standing part, and the reports
queued so far, oldest first. -/
def State.standsIn (base u : State) : Prop :=
  u.standing = base.standing ∧ base.lu.queue <+: u.lu.queue

/-! ### What a stop and a change of mode leave -/

/-- No run waits to be handed on (R134, step 5). -/
abbrev State.settled (s : State) : Prop := s.runOver .tc1 = none ∧ s.runOver .tc2 = none

/-- A channel is pumping a leg: the pump has answered RUNNING and runs, the entry has been made where the leg ends in a tank,
and the other channel has no run that waits to be handed on. -/
abbrev State.pumping (s : State) (c : Channel) (l : Leg) : Prop :=
  s.runLeg c = some l ∧ (s.chan c).phase = some .pumping ∧ (s.chan c).noFlow.isSome ∧ (s.chan c).pumpTold = .running ∧
    (s.chan c).entryMade = l.destTank.isSome ∧ (s.pump c).state = .running ∧ (s.pump c).feedback = true ∧
    s.runOver c.other = none

/-- A pumping run has been stopped for a cause (R134, steps 1 to 3): the stop cause recorded, the no-flow timer stopped, the
entry ended, the pump commanded to stop with its 10 s timer running. The valves wait for the pump's answer. -/
def State.runStopping (c : Channel) (cause : StopCause) (dest : Option TankIx) (s : State) : State :=
  let s := match dest with
    | some t => s.updTank t fun r => { r with entries := r.entries.filter fun x => decide (x.entrant ≠ c.entrant) }
    | none => s
  (s.updChan c fun r =>
    { r with stop := some cause, phase := some .stopping, noFlow := none, entryMade := false,
             pumpTold := .stopping }).setPump c
    { s.pump c with run := false, state := .stopping, timer := some (after s.clock 100) }

/-- The Plant Mode Controller's record after a mode other than WAKING and FALLBACK has been entered (R158, R169). -/
def State.entered (m : Mode) (s : State) : ModeController :=
  { s.pmc with
    mode := m, wake := none,
    sup := if m.supervised then (if s.mode.supervised then s.pmc.sup else .watching) else .off,
    timer := if m.supervised then
        (if s.mode.supervised then s.pmc.timer else some ⟨s.clock, s.pmc.period, after s.clock (s.pmc.period * 10)⟩)
      else none }

/-- No order, no source and no main is left over from before a start, and no channel has a run (R72, R101, R117). -/
abbrev State.quietAtStart (s : State) : Prop :=
  s.te.orders = [] ∧ s.te.tc1.phase = none ∧ s.te.tc2.phase = none ∧ s.ir.wm1.state = .stopped ∧
    s.ir.wm2.state = .stopped ∧ s.ir.shore.state = .closed ∧ s.ir.main = ProductMain.unused

/-! ### What is due -/

/-- A timer with an expiry has reached it. -/
abbrev State.at (s : State) (t : Option Clock) : Prop := ∃ e ∈ t, reached s.clock e = true

/-- The expiries that are due, each as its command, by the rule of its timer. -/
def State.due (s : State) : Instr → Prop
  | .sampleTimeout t => ∃ c ∈ s.gauge t, ∃ a ∈ c.inFlight, 1 ≤ elapsed s.clock a
  | .sampleRequest t => s.mode ≠ .start ∧ ∃ c ∈ s.gauge t, reached s.clock c.nextScan = true
  | .attitudeStale => s.gu.attitude.live = true ∧ 20 ≤ elapsed s.clock s.gu.attitude.lastTime
  | .travelTimeout v => ((s.valve v).state = .movingToA ∨ (s.valve v).state = .movingToB) ∧ s.at (s.valve v).timer
  | .startTimeout c => (s.pump c).state = .starting ∧ s.at (s.pump c).timer
  | .stopTimeout c => (s.pump c).state = .stopping ∧ s.at (s.pump c).timer
  | .flushEnd w => (s.source w.source).state = .flushing ∧ s.at (s.source w.source).flush
  | .dumpLimit w => (s.source w.source).settings.dumpLimit ≠ 0 ∧
      ∃ a ∈ (s.source w.source).dump, (s.source w.source).settings.dumpLimit * 10 ≤ elapsed s.clock a
  | .probeCheckEnd x => s.at (s.source x).check
  | .noFlow c => (s.chan c).phase = some .pumping ∧ s.at (s.chan c).noFlow
  | .wakeLimit => ∃ w ∈ s.pmc.wake, w.phase = .warming ∧ s.at w.limit
  | .falseWake => ∃ w ∈ s.pmc.wake, w.phase = .confirming ∧ s.at w.confirm
  | .supervisionExpiry => ∃ t ∈ s.pmc.timer, reached s.clock t.expiry = true
  | .restartRequest => s.lu.restarting = true ∧ s.lu.replies = []
  | _ => False

/-! ### The arbiter's choice and the end of a run -/

/-- A PENDING order is weighed before an order: by priority, highest first, and within a priority by age (R120). -/
abbrev State.weighedBefore (s : State) (o : Order) (x : Order) : Prop :=
  x.state = OrderState.pending ∧ (o.priority < x.priority ∨
    (x.priority = o.priority ∧ x ∈ s.te.orders.takeWhile fun y => decide (y.id ≠ o.id)))

/-- The guard does not hold an order's current leg back, and neither of its tanks is claimed by the other channel (R121). -/
def State.eligibleLeg (s : State) (c : Channel) (o : Order) : Bool :=
  o.leg.any fun l => !s.guardHolds o.id l && l.tanks.all fun t => !(s.chan c.other).claims.contains t

/-- What weighing a set of orders leaves (R119, R121): an order of it that the guard does not hold back is off the guard list, and
it is known whether the guard held one back. -/
def State.afterWeighing (seen : Order → Bool) (s : State) : State :=
  { s with te := { s.te with
    guardList := s.te.guardList.filter fun id =>
      !s.te.orders.any fun o => seen o && decide (o.id = id) && o.leg.any fun l => !s.guardHolds o.id l,
    guardPassed := s.te.guardPassed || s.te.orders.any fun o => seen o && o.leg.any (s.guardHolds o.id) } }

/-- The claims of a channel are released, its run record is blank, and it is IDLE, or OUT from STOPPING_FOR_OUT, with its
CHANNEL report (R136, steps 2 and 3). -/
def State.channelFreed (c : Channel) (s : State) : State :=
  let st : ChannelState := if (s.chan c).state = .stoppingForOut then .out else .idle
  let s := (s.chan c).claims.foldl (fun s t => s.updTank t fun r => { r with claim := none }) s
  (s.updChan c fun r =>
    { r with state := st, order := none, phase := none, stop := none, claims := [], lined := none, runFactor := none,
             runNoFlow := none, movedAtStart := 0, runPulses := 0, signAtStart := none }).report .channel c.code st.code
    (if st = .out then ((s.chan c).outReason.map OutReason.code).getD 0 else 0)

/-- The order a channel runs is left in a state and at a leg, off the channel, with its state report (R104, R106, R107). -/
def State.orderLeft (o : Order) (st : OrderState) (current : Nat) (held : Bool) (s : State) : State :=
  let s := s.updOrder o.id fun y =>
    { y with state := st, channel := none, current := current, heldByFallback := held }
  let list := if st = .pending then s.te.guardList else s.te.guardList.filter fun x => decide (x ≠ o.id)
  ({ s with te := { s.te with guardList := list } }).report .order o.id st.code (current * 16777216)

/-- The current leg of an order ends with a result: recorded, with its leg-end report (R104, R106). -/
def State.legResult (o : Order) (r : LegResult) (s : State) : State :=
  (s.updOrder o.id fun y =>
    { y with legs := y.legs.modify (o.current - 1) fun l => { l with result := some r } }).report .order o.id r.code
      (o.current * 16777216 + min ((o.leg.map (·.moved)).getD 0) 16777215)

/-- A channel hands on a leg end (R106, R136): CANCELLED for an order whose cancel is requested; the next leg, or DONE after the
last, for a successful leg and under SKIP; FAILED otherwise. -/
def State.legHandedOn (c : Channel) (o : Order) (r : LegResult) (s : State) : State :=
  let goesOn : Bool := r.successful || decide (o.policy = .skip)
  let s := s.legResult o r
  let s := if o.cancelRequested then s.orderLeft o .cancelled o.current o.heldByFallback
    else if goesOn && decide (o.current < o.legs.length) then s.orderLeft o .pending (o.current + 1) o.heldByFallback
    else s.orderLeft o (if goesOn then .done else .failed) o.current o.heldByFallback
  s.channelFreed c

/-- A channel hands on a return (R107, R121, R136): the leg is kept, the order is HELD after FALLBACK and PENDING otherwise, on
the guard list after GUARD; an order whose cancel is requested ends CANCELLED. -/
def State.runHandedBack (c : Channel) (o : Order) (b : ReturnCause) (s : State) : State :=
  let s := if o.cancelRequested then (s.legResult o .cancelled).orderLeft o .cancelled o.current o.heldByFallback
    else match b with
      | .fallback => s.orderLeft o .held o.current true
      | .channelOut => s.orderLeft o .pending o.current o.heldByFallback
      | .guard =>
        let s := s.orderLeft o .pending o.current o.heldByFallback
        { s with te := { s.te with guardList := s.te.guardList ++ [o.id] } }
  s.channelFreed c

/-- A run that is over is handed on by its stop cause (R136), and then the arbiter runs (R119). -/
def State.runHandedOn (c : Channel) (o : Order) (k : StopCause) (s : State) : State :=
  (match k with
    | .result r => s.legHandedOn c o r
    | .back b => s.runHandedBack c o b).arbitrate

/-- A run that is STOPPING is handed on where it is over: its pump has stopped or failed, and every lined valve has answered at
CLOSED or FAULT (R134, step 5). -/
def State.handedOnIfOver (c : Channel) (o : Order) (k : StopCause) (s : State) : State :=
  if ((s.chan c).pumpTold = .stopped ∨ (s.chan c).pumpTold = .fault) ∧
      ((s.chan c).linedList.all fun x => decide (x.2 = .closed ∨ x.2 = .fault)) = true then s.runHandedOn c o k
  else s

/-! ### Laws the blocks keep -/

/-- The law of the report queue (R180). -/
def State.queueLaw (s : State) : Prop := s.lu.queue.length ≤ queueCapacity

/-- The law of the score (R36). -/
def State.scoreLaw (s : State) : Prop := ∀ t c, s.gauge t = some c → c.score ≤ 255

/-- The balance moment is the sum over the tanks (R22). -/
def State.momentLaw (s : State) : Prop := s.tt.moment = momentOf s.tt.tanks

/-- The law of the entries (R20): no entry that counts is of a worse class than its tank. -/
def State.entryLaw (s : State) : Prop :=
  ∀ t, ∀ e ∈ (s.tank t).entries, e.ending = false → e.waterClass.worse (s.tank t).cls = false

/-- The law of the store (R98): at most 16 orders, with distinct ids. -/
abbrev State.storeLaw (s : State) : Prop := s.te.orders.length ≤ storeSize ∧ (s.te.orders.map (·.id)).Nodup

/-- The law of the runs (R98, R99, R105): the order a channel holds is ACTIVE on that channel with that leg as its current
one, an ACTIVE order is held by its channel, and a channel that is IDLE or OUT holds none. -/
def State.runLaw (s : State) : Prop :=
  (∀ c id k, (s.chan c).order = some (id, k) →
    ∃ o, s.order id = some o ∧ o.state = .active ∧ o.channel = some c ∧ o.current = k) ∧
  (∀ o ∈ s.te.orders, o.state = .active → ∃ c, o.channel = some c ∧ (s.chan c).order = some (o.id, o.current)) ∧
  ∀ c, (s.chan c).state = .idle ∨ (s.chan c).state = .out → (s.chan c).order = none

/-- The law of the claims (R122): a channel that is IDLE or OUT holds none, and no tank is claimed by both. -/
def State.claimLaw (s : State) : Prop :=
  (∀ c, (s.chan c).state = .idle ∨ (s.chan c).state = .out → (s.chan c).claims = []) ∧
    ∀ t ∈ s.te.tc1.claims, t ∉ s.te.tc2.claims

/-- The tanks a supply state holds (R147): current and next, each present or not. -/
def SupplySelector.lawful (x : SupplySelector) : Prop :=
  match x.state with
  | .searching => x.current = none ∧ x.next = none ∧ x.established = false
  | .lost => x.current = none ∧ x.next = none ∧ x.established = true
  | .switching => x.current = none ∧ x.next.isSome
  | .supplying => x.current.isSome ∧ x.next = none ∧ x.established = true
  | .lastReserve => x.current.isSome ∧ x.next = none ∧ x.established = true
  | .changeover => x.current.isSome ∧ x.next.isSome ∧ x.established = true

/-- A mode a wake may have as its target (section 8.4). -/
def Mode.wakeTarget : Mode → Bool
  | .configure => true
  | .run => true
  | .harbour => true
  | _ => false

/-- A start mode (R188). -/
def Mode.startMode : Mode → Bool
  | .run => true
  | .harbour => true
  | .layup => true
  | _ => false

/-- The law of the mode record (R157): a wake record exactly in WAKING, with a target that can be asked for; a
supervision timer exactly while supervision is on; supervision only in a supervised mode; and start modes as R188 has
them. -/
def State.modeLaw (s : State) : Prop :=
  (s.pmc.wake.isSome = decide (s.pmc.mode = .waking)) ∧
    (∀ w m, s.pmc.wake = some w → w.target = some m → m.wakeTarget) ∧
    (s.pmc.timer.isSome = decide (s.pmc.sup ≠ .off)) ∧
    (s.pmc.sup ≠ .off → s.pmc.mode.supervised) ∧
    s.sts.stored.startMode.startMode ∧ (∀ im, s.sts.save = some im → im.startMode.startMode)

/-- What R52 says of a valve's record: the travel timer runs exactly while the valve moves, and a fault reason is present
exactly in FAULT. -/
def ValveRecord.lawful (r : ValveRecord) : Prop :=
  r.timer.isSome = r.state.target.isSome ∧ r.reason.isSome = decide (r.state = .fault)

/-- What R65 says of a pump's record: the run command is RUN in STARTING and RUNNING alone, the timer runs in STARTING and
STOPPING alone, and a fault reason is present exactly in FAULT. -/
def PumpRecord.lawful (p : PumpRecord) : Prop :=
  p.run = decide (p.state = .starting ∨ p.state = .running) ∧
    p.timer.isSome = decide (p.state = .starting ∨ p.state = .stopping) ∧ p.reason.isSome = decide (p.state = .fault)

/-- The laws of the valve and pump records (R52, R65). -/
def State.actuatorLaw (s : State) : Prop :=
  (∀ v, (s.valve v).lawful) ∧ s.au.tp1.lawful ∧ s.au.tp2.lawful

/-- The dump timers run exactly while their conditions hold (R76). -/
def State.dumpTimerLaw (s : State) : Prop :=
  ∀ w, (s.source (Watermaker.source w)).dump.isSome = s.dumpTimerRuns w

/-- The commanded position of a valve that is at an end or moves to one is that end (R52, R55). -/
def ValveRecord.obedient (r : ValveRecord) : Prop :=
  (r.state = .atA ∨ r.state = .movingToA → r.commanded = .a) ∧ (r.state = .atB ∨ r.state = .movingToB → r.commanded = .b)

/-- The law of the intake valves (R83): one that is commanded open is the current or the next tank's, or stands open alone under
host command (R61, R62); the main holds the tanks that its state says, an UNUSED main holds nothing at all (R85), and no source
stands on the main twice. -/
def State.intakeValveLaw (s : State) : Prop :=
  (∀ t : TankIx, s.commandedOpen (.tank t .intake) = true →
    s.ir.main.current = some t ∨ s.ir.main.next = some t ∨
      ((s.valve (.tank t .intake)).hostMark = true ∧ ∀ u, s.commandedOpen (.tank u .intake) = true → u = t)) ∧
  (s.ir.main.state = .unused → s.ir.main = ProductMain.unused) ∧
  (s.ir.main.state = .opening → s.ir.main.current = none) ∧ (s.ir.main.state = .delivering → s.ir.main.next = none) ∧
  s.ir.main.sources.Nodup ∧ ∀ t : TankIx, (s.valve (.tank t .intake)).obedient

/-- How many intake valves are commanded open. -/
def State.intakeValvesOpen (s : State) : Nat :=
  ((List.finRange 12).filter fun t => s.commandedOpen (.tank t .intake)).length

/-- The law of the supply valves (R147): one that is commanded open is the current or the next tank's, or stands open alone under
host command (R61, R62). -/
def State.supplyValveLaw (s : State) : Prop :=
  s.ss.lawful ∧
  (∀ t : TankIx, s.commandedOpen (.tank t .supply) = true →
    s.ss.current = some t ∨ s.ss.next = some t ∨
      ((s.valve (.tank t .supply)).hostMark = true ∧ ∀ u, s.commandedOpen (.tank u .supply) = true → u = t)) ∧
  ∀ t : TankIx, (s.valve (.tank t .supply)).obedient

/-- How many supply valves are commanded open. -/
def State.supplyValvesOpen (s : State) : Nat :=
  ((List.finRange 12).filter fun t => s.commandedOpen (.tank t .supply)).length

/-- The law of the pumps (R126), with what it takes to keep it while no notice is in flight: a channel knows its pump's state, but
for one: where a run is stopped while the answer RUNNING is on its way, that answer leaves the channel told RUNNING beside a
STOPPING pump; a pump is commanded to run only in STARTING and PUMPING; there every lined valve has answered at OPEN; in a running
phase the lined valves are the channel's own, demanded OPEN by it alone, not in FAULT, and AT_B where they have answered at OPEN; a
channel that is IDLE or OUT has no run. -/
def State.pumpLaw (s : State) : Prop :=
  ∀ c : Channel,
    ((s.chan c).pumpTold = (s.pump c).state ∨
      ((s.chan c).phase = some .stopping ∧ (s.pump c).state = .stopping ∧ (s.chan c).pumpTold = .running)) ∧
    ((s.pump c).run = true → (s.chan c).phase = some .starting ∨ (s.chan c).phase = some .pumping) ∧
    ((s.chan c).phase = some .starting ∨ (s.chan c).phase = some .pumping → (s.chan c).linedOpen = true) ∧
    ((s.chan c).running = true → ∀ x ∈ (s.chan c).linedList,
      x.1.owner = c.owner ∧ (s.valve x.1).demand = .b ∧ (s.valve x.1).hostMark = false ∧ (s.valve x.1).state ≠ .fault ∧
        (x.2 = .opened → (s.valve x.1).state = .atB)) ∧
    ((s.chan c).state = .idle ∨ (s.chan c).state = .out → (s.chan c).phase = none)

/-- The permit status as last told is the permit status (R75). -/
def State.permitLaw (s : State) : Prop := ∀ w, (s.source (Watermaker.source w)).permit = s.permitStatus w

/-- What an image holds of a tank is in range: a strapping table belongs to a definition and ends at its height (R9, R188). -/
def ImageTank.lawful (i : ImageTank) : Prop :=
  (∀ tb ∈ i.strap, i.defn.any fun d => decide (strapLawful d.height tb)) ∧ ∀ d ∈ i.defn, 1 ≤ d.windowLength

/-- A channel agrees with its tank's definition and table, and what it has worked out lies in range (R37, R39, R40). -/
def GaugeChannel.inRange (c : GaugeChannel) (r : TankRecord) : Prop :=
  r.defn.map (·.height) = some c.height ∧ c.strap = r.strap ∧ 1 ≤ c.windowLength ∧ (∀ l ∈ c.window, l ≤ c.height) ∧
    (∀ l ∈ c.filtered, l ≤ c.height) ∧ ∀ v ∈ c.volume, c.strap.any fun tb => decide (v ≤ fullVolume tb)

/-- The law of the published values (R41): a published level lies within the tank's height, a published volume within its full
volume; with what the tanks, the channels and the stored images hold to keep it so. -/
def State.publishedLaw (s : State) : Prop :=
  (∀ t, (s.tank t).image.lawful ∧
    (∀ v ∈ (s.tank t).volume, (s.tank t).strap.any fun tb => decide (v ≤ fullVolume tb)) ∧
    (∀ l ∈ (s.tank t).level, (s.tank t).strap.isSome ∧ (s.tank t).defn.any fun d => decide (l ≤ d.height)) ∧
    ∀ c ∈ s.gauge t, c.inRange (s.tank t)) ∧
  (∀ t : TankIx, s.sts.stored.tanks[t].lawful) ∧ ∀ im ∈ s.sts.save, ∀ t : TankIx, im.tanks[t].lawful

end Sys2Proof.Machine
end

