-- ==== Sys2Proof/Certificates/Slice0/Obligations.lean ====
section
/-!
DEFINITION. The statements about the EW-412 that the provers settle. Most say what one command leaves: an explicit state,
after which the notices in flight are delivered (`State.deliver`), or a state of which delivery takes nothing away
(`State.standsIn`).
-/
open Sys2Proof Sys2Proof.Machine

/-! ### The machine as a whole -/

/-- A step takes the command at the front of the queue and runs it with the queue's rest. -/
def Obligations.StepRunsTheFrontCommand : Prop :=
  ∀ (s : State) (c : Instr) (rest : List Instr),
    step { s with pending := c :: rest } = exec c { s with pending := rest }

/-- On an empty queue a part that runs takes the first of its expiries that is due, as the command of that expiry, and where
none is due its plant clock counts on by a tenth of a second (R180); a part that is off or held stays as it is. That a step
does this where no command waits, and the order of expiries due at one moment, are DESIGN CHOICES (log entry 1). What is due,
each by its own rule (`State.due`): a request without its answer (R30), a scan (R29), a stale attitude (R33), a travel time
(R57), a pump's start or stop (R66, R68), a flush (R74), a dump limit (R76), a probe check (R94), the no-flow time (R128),
the wake limit and the confirmation (R164, R166), supervision (R170), and a RESTART whose replies have been sent (R179). -/
def Obligations.IdleStepsLetTimePass : Prop :=
  (∀ s : State, s.pending = [] →
    (s.power ≠ .on → step s = .next s) ∧
    (s.power = .on → (∀ c, ¬s.due c) → step s = .next { s with clock := s.clock + 1 }) ∧
    (s.power = .on → (∃ c, s.due c) → ∃ c, s.due c ∧ step s = exec c s)) ∧
  (∀ (s : State) (c : Instr) (rest : List Instr), s.dueList = c :: rest → s.pending = [] → s.power = .on →
    step s = exec c s) ∧
  (∀ (s : State) (c : Instr), c ∈ s.dueList ↔ s.due c)

/-- Every command completes in every state, and none touches the queue of commands that wait. -/
def Obligations.EveryCommandCompletes : Prop :=
  ∀ (c : Instr) (s : State), ∃ t, exec c s = .next t ∧ t.pending = s.pending

/-- Delivering the notices in flight between the blocks, whatever they are, changes nothing of the standing part of the state
(settings, measured values, pins, replies, stored image, totalizers, order contents, faults), and takes no report from the
queue. The plant mode, its wake record and its supervision it changes only by a wake: with no wake cause in flight and no
wake that could complete, the Plant Mode Controller stays as it is (section 8.4, R158). What it does: with no notice in flight
the state stays as it is, but that the dump timers follow their conditions (R76; SourceSettingsAndPermitsAreStored says how).
With notices in flight it takes the oldest, whole (`State.take`), in the state whose list is the rest, and goes on from there,
so that what the taking sends joins the end of the list and is taken in its turn. It takes at most as many as the budget, 4096
(DESIGN CHOICE, log entry 6), and what is beyond stays in flight. -/
def Obligations.DeliveryKeepsWhatStands : Prop :=
  (∀ s : State, s.standsIn s.deliver ∧ (s.wakeless → s.deliver.pmc = s.pmc)) ∧
  (∀ s : State,
    (s.msgs = [] → s.deliver = s.keepDumpTimers) ∧
    (∀ m rest, s.msgs = m :: rest → s.deliver.msgs = [] →
      s.deliver = (State.take m { s.keepDumpTimers with msgs := rest }).deliver)) ∧
  (∀ s : State, s.deliver = State.drain 4096 s.keepDumpTimers ∧ State.drain 0 s = s ∧ ∀ n : Nat,
    (s.msgs = [] → State.drain n s = s) ∧
    (∀ m rest, s.msgs = m :: rest →
      State.drain (n + 1) s = State.drain n (State.take m { s with msgs := rest }).keepDumpTimers))

/-! ### The control link (chapter 9) -/

/-- The Link Unit's own refusals (R176): a kind without an entry in the kind code table is answered UNKNOWN_KIND in every
plant mode, which is the own effect of the row UNKNOWN_KIND; in START every known kind but STATUS_GET is answered
MODE_CONFLICT. Nothing else changes. -/
def Obligations.LinkUnitRefusesByKind : Prop :=
  ∀ (s : State) (c : Instr) (r : Request), c.request = some r → s.listening →
    (handlerOf r.kind = none → exec c s = .next (s.answered r.kind r.tag r.payload .unknownKind []).deliver) ∧
    (s.mode = .start → (handlerOf r.kind).isSome → r.kind ≠ statusGetKind →
      exec c s = .next (s.answered r.kind r.tag r.payload .modeConflict []).deliver)

/-- The checks that every request meets before its own, outside START, in their order. A request whose payload has not the
size that its kind has is answered BAD_LENGTH. The configuration requests outside CONFIGURE and COMMISSION, and
COMMISSION_END outside COMMISSION, are answered MODE_CONFLICT. While a save is in flight, each request that R189 names is
answered BUSY in every plant mode in which its owner comes to that check. A value outside its range is answered BAD_VALUE: a
tank, source, slot or channel number, a field of a definition (R6), a direction, a class, a threshold value, a valve number
outside 1 to 77, which is no pump's number where a pump may be read (R60, R61, R63), an end (R61), the travel timeout (R64), a
source setting (R95), a permit setting, the action, class, group of a rule (R79), a channel's settings (R118), a duty list
with a wrong or repeated tank (R155), the supervision settings (R171), a number of reports outside 1 to 8 (R181), a start mode
(R189, R190). Nothing else changes. -/
def Obligations.ChecksRefuseRequests : Prop :=
  ∀ (s : State) (c : Instr) (r : Request), c.request = some r → s.ready →
    (payloadSizeOk r.kind r.payload = false →
      exec c s = .next (s.answered r.kind r.tag r.payload .badLength []).deliver) ∧
    (s.saving = true → r.kind ∈ refusedBySave → payloadSizeOk r.kind r.payload = true →
      s.mode.takesChange r.kind = true →
      exec c s = .next (s.answered r.kind r.tag r.payload .busy []).deliver) ∧
    (r.kind ∈ refusedBySave → payloadSizeOk r.kind r.payload = true → s.mode.takesChange r.kind = false →
      exec c s = .next (s.answered r.kind r.tag r.payload .modeConflict []).deliver) ∧
    ∀ outside : Int → Int → Int → Prop, (∀ lo hi v, outside lo hi v ↔ v < lo ∨ hi < v) →
      payloadSizeOk r.kind r.payload = true →
      (r.kind ∈ refusedBySave → s.saving = false ∧ s.mode.takesChange r.kind = true) →
      ∀ p, p = r.payload →
      (r.kind ∈ [0x10, 0x11, 0x12, 0x13, 0x14, 0x15, 0x16, 0x18, 0x20, 0x21] ∧ outside 1 12 (byteAt p 0)) ∨
      (r.kind = 0x10 ∧ (outside 500 8000 (i16At p 1) ∨ outside 0 5000 (u32At p 3) ∨ outside (-1500) 1500 (i16At p 7) ∨
        outside 500 8000 (i16At p 10) ∨ outside (-500) 500 (i16At p 12) ∨ outside 1 2000 (i16At p 14) ∨
        byteAt p 16 ∉ [1, 2, 4, 8, 16] ∨ outside (-20000) 20000 (i16At p 17) ∨ outside (-20000) 20000 (i16At p 19))) ∨
      (r.kind = 0x13 ∧ outside 1 2 (byteAt p 1)) ∨
      (r.kind = 0x14 ∧ outside 1 3 (byteAt p 1)) ∨
      (r.kind = 0x15 ∧ (outside 0 99999 (u32At p 1) ∨ outside 0 99999 (u32At p 5) ∨ outside 0 99999 (u32At p 9) ∨
        outside 0 99999 (u32At p 13) ∨ outside 0 99999 (u32At p 17))) ∨
      (r.kind = 0x28 ∧ s.mode = .commission ∧ (outside 1 77 (byteAt p 0) ∨ outside 1 2 (byteAt p 1))) ∨
      (r.kind = 0x29 ∧ outside 1 77 (byteAt p 0)) ∨
      (r.kind = 0x2A ∧ outside 1 77 (byteAt p 0) ∧ byteAt p 0 ∉ [81, 82]) ∨
      (r.kind = 0x2B ∧ outside 10 120 (u16At p 0)) ∨
      (r.kind ∈ [0x30, 0x32, 0x37] ∧ outside 1 3 (byteAt p 0)) ∨
      (r.kind = 0x30 ∧ (outside 10 9000 (u16At p 1) ∨ outside (u16At p 1 + 1) 9999 (u16At p 3) ∨
        outside 1 8 (byteAt p 5) ∨ outside 30 900 (u16At p 6) ∨ (u16At p 8 ≠ 0 ∧ outside 60 3600 (u16At p 8)) ∨
        outside 1 10000 (u16At p 10) ∨ outside 0 9999 (u16At p 12) ∨ outside 0 9999 (u16At p 14))) ∨
      (r.kind = 0x31 ∧ (outside 1 2 (byteAt p 0) ∨ outside 1 2 (byteAt p 1))) ∨
      (r.kind ∈ [0x33, 0x34] ∧ outside 1 8 (byteAt p 0)) ∨
      (r.kind = 0x33 ∧ (outside 1 2 (byteAt p 4) ∨
        (byteAt p 4 = 2 ∧ (outside 1 3 (byteAt p 5) ∨ outside 1 4 (byteAt p 6))) ∨
        (∃ b ∈ p.drop 7, outside 1 12 b.toNat) ∨ ¬(p.drop 7).Nodup)) ∨
      (r.kind ∈ [0x48, 0x49, 0x4A, 0x4B] ∧ outside 1 2 (byteAt p 0)) ∨
      (r.kind = 0x48 ∧ (outside 1 10000 (u16At p 1) ∨ outside 5 60 (u16At p 3))) ∨
      (r.kind = 0x50 ∧ ((∃ b ∈ p.drop 1, outside 1 12 b.toNat) ∨ ¬(p.drop 1).Nodup)) ∨
      (r.kind = 0x59 ∧ (outside 2 60 (u16At p 0) ∨ outside 1 2 (byteAt p 2))) ∨
      (r.kind = 0x61 ∧ outside 1 8 (byteAt p 0)) ∨
      (r.kind ∈ [0x68, 0x69] ∧ byteAt p 0 ∉ [Mode.run.code, Mode.harbour.code, Mode.layup.code]) →
      exec c s = .next (s.answered r.kind r.tag r.payload .badValue []).deliver

/-- The queries answer from the state as it stands and change nothing but the link's own record of the request; STATUS_GET
is answered in START too. The bytes of a reply are those of its own definition in Replies.lean; where R187 leaves a
layout open, they are the model's choice (DESIGN CHOICE, log entry 16). -/
def Obligations.QueriesChangeNothing : Prop :=
  ∀ (s : State) (tag : Byte), s.listening →
    exec (.statusGet tag []) s = .next (s.answered 0x60 tag [] .ok s.statusReply).deliver ∧
    (s.mode ≠ .start →
      (∀ t, exec (.tankGet tag (tankByte t)) s =
        .next (s.answered 0x18 tag (tankByte t) .ok (s.tankReply t)).deliver) ∧
      (∀ t g, s.gauge t = some g → exec (.gaugeGet tag (tankByte t)) s =
        .next (s.answered 0x21 tag (tankByte t) .ok (s.gaugeReply g)).deliver) ∧
      (∀ v : Valve, exec (.valveGet tag (u8 v.number)) s =
        .next (s.answered 0x2A tag (u8 v.number) .ok (s.valveReply v)).deliver) ∧
      (∀ c : Channel, exec (.valveGet tag (u8 c.pumpNumber)) s =
        .next (s.answered 0x2A tag (u8 c.pumpNumber) .ok (s.pumpReply c)).deliver) ∧
      (∀ x : Source, exec (.sourceGet tag (u8 x.code)) s =
        .next (s.answered 0x32 tag (u8 x.code) .ok (s.sourceReply x)).deliver) ∧
      (∀ k : Fin 8, exec (.ruleGet tag (u8 (k.val + 1))) s =
        .next (s.answered 0x34 tag (u8 (k.val + 1)) .ok (s.ir.rules[k]).bytes).deliver) ∧
      (∀ id o, id < 65536 → s.order id = some o → exec (.orderGet tag (u16 id)) s =
        .next (s.answered 0x45 tag (u16 id) .ok
          (o.reply (s.te.orders.findIdx (fun x => decide (x.id = id)) + 1))).deliver) ∧
      exec (.orderList tag []) s =
        .next (s.answered 0x46 tag [] .ok (listField Order.line s.te.orders)).deliver ∧
      (∀ c : Channel, exec (.channelGet tag (u8 c.code)) s =
        .next (s.answered 0x4B tag (u8 c.code) .ok
          (s.channelReply c (s.chan c) ((s.runLeg c).map (·.moved)))).deliver) ∧
      exec (.supplyGet tag []) s = .next (s.answered 0x52 tag [] .ok s.supplyReply).deliver)

/-- A request that finds the intake full is not executed: with room in the reply sequence it is answered LINK_BUSY, and
without room it is discarded (R175). The LINK_BUSY reply that is being transmitted still counts among the four (DESIGN
CHOICE, log entry 55). For the row LINK_BUSY this is its own effect. The oldest reply leaves the sequence once its last byte
has left TXD, and its request leaves the intake if it was there (R177). -/
def Obligations.FullIntakesRefuseAndSentRepliesLeave : Prop :=
  (∀ (s : State) (c : Instr) (r : Request), c.request = some r → s.power = .on → s.lu.restarting = false →
    intakeCapacity ≤ s.lu.intake.length →
    (s.lu.refusals < refusalCapacity →
      exec c s = .next ({ s with lu := { s.lu with
        framer := .hunt, replies := s.lu.replies ++ [Reply.mk r.kind r.tag .linkBusy [] true] } }).deliver) ∧
    (refusalCapacity ≤ s.lu.refusals →
      exec c s = .next ({ s with lu := { s.lu with framer := .hunt } }).deliver)) ∧
  (∀ (s : State) (r : Reply) (rest : List Reply), s.power = .on → s.lu.replies = r :: rest →
    (r.refusal = false → exec .replySent s = .next ({ s with
      txd := frameBytes (r.kind ||| 0x80) r.tag (u8 r.status.code ++ r.payload),
      lu := { s.lu with replies := rest, intake := s.lu.intake.tail } }).deliver) ∧
    (r.refusal = true → exec .replySent s = .next ({ s with
      txd := frameBytes (r.kind ||| 0x80) r.tag (u8 r.status.code ++ r.payload),
      lu := { s.lu with replies := rest } }).deliver))

/-- Every frame that R184 allows, sent with its CRC, is received whole: from HUNT the framer hands over exactly that request
and is in HUNT again. A frame whose CRC bytes disagree, or whose length byte is outside 2 to 252, is discarded: nothing but
the framer's state HUNT is left of it. A byte with a framing error or a break discards the partial frame, and the byte that
ends a gap is examined in HUNT (R173). -/
def Obligations.FramesAreReceivedOrDiscarded : Prop :=
  (∀ (kind tag : Byte) (payload : List Byte), payload.length ≤ 250 →
    Framer.hunt.bytes (frameBytes kind tag payload) = (.hunt, [⟨kind, tag, payload⟩])) ∧
  (∀ (s : State) (body : List Byte) (hi lo : Byte), s.power = .on → s.lu.framer = .hunt →
    2 ≤ body.length → body.length ≤ 252 → u16 (crc16 (frameCore body)).toNat ≠ [hi, lo] →
    exec (.frameDiscarded (0x5A :: frameCore body ++ [hi, lo])) s = .next s.deliver) ∧
  (∀ (s : State) (len : Byte), s.power = .on → s.lu.framer = .hunt → (len.toNat < 2 ∨ 252 < len.toNat) →
    exec (.frameDiscarded [0x5A, len]) s = .next s.deliver) ∧
  (∀ (s : State) (before : List Byte), s.power = .on → (s.lu.framer.bytes before).2 = [] →
    exec (.framingError before) s = .next ({ s with lu := { s.lu with framer := .hunt } }).deliver ∧
    exec (.rxdBreak before) s = .next ({ s with lu := { s.lu with framer := .hunt } }).deliver ∧
    ∀ b : Byte, exec (.receiveGap before b) s =
      .next ({ s with lu := { s.lu with framer := if b = 0x5A then .length else .hunt } }).deliver)

/-- What the request payloads carry is read back whole: for every tank, definition, strapping table, limits, enables,
settings, rule, order and duty list in range, the reader of the request's payload gives what the payload was written from. -/
def Obligations.PayloadsReadBack : Prop :=
  (∀ (t : TankIx) (d : TankDef), d.lawful →
    tankAt (tankByte t ++ d.bytes) 0 = some t ∧ readDefinition (tankByte t ++ d.bytes) = some d ∧
      payloadSizeOk 0x10 (tankByte t ++ d.bytes) = true) ∧
  (∀ (t : TankIx) (height : Nat) (tb : List StrapPoint), 500 ≤ height → height ≤ 8000 → strapLawful height tb →
    tankAt (tankByte t ++ listField StrapPoint.bytes tb) 0 = some t ∧
      readStrap height (tankByte t ++ listField StrapPoint.bytes tb) = some tb ∧
      payloadSizeOk 0x12 (tankByte t ++ listField StrapPoint.bytes tb) = true) ∧
  (∀ (t : TankIx) (m : Limits), m.ll ≤ 99999 → m.l ≤ 99999 → m.h ≤ 99999 → m.hh ≤ 99999 → m.hysteresis ≤ 99999 →
    readLimits (tankByte t ++ m.bytes) = some m) ∧
  (∀ (t : TankIx) (n : NoticeEnables), readNotices (tankByte t ++ n.bytes) = some n) ∧
  (∀ (x : Source) (v : SourceSettings), v.lawful →
    Source.ofCode (byteAt (u8 x.code ++ v.bytes) 0) = some x ∧ readSourceSettings (u8 x.code ++ v.bytes) = some v) ∧
  (∀ (k : Fin 8) (r : Rule), r.lawful = true →
    slotAt (u8 (k.val + 1) ++ r.bytes) 0 = some k ∧ readRule (u8 (k.val + 1) ++ r.bytes) = some r ∧
      payloadSizeOk 0x33 (u8 (k.val + 1) ++ r.bytes) = true) ∧
  (∀ (id priority : Nat) (policy : Policy) (legs : List Leg), id < 65536 → priority ≤ 3 → 1 ≤ legs.length →
    legs.length ≤ 8 → (∀ l ∈ legs, l.submitted) →
    u16At (submitPayload id priority policy legs) 0 = id ∧
      readOrder (submitPayload id priority policy legs) = some (priority, policy, legs) ∧
      payloadSizeOk 0x40 (submitPayload id priority policy legs) = true) ∧
  (∀ l : List TankIx, 1 ≤ l.length → l.Nodup → readDuty (listField tankByte l) = some l) ∧
  (∀ e : ReportEnables, readEnables e.bytes = some e)

/-- FETCH_REPORTS removes the oldest reports, up to the number asked for, returns them with the overflow mark and the counts,
and clears the mark; REPQ is then asserted exactly while reports are left (R181). The ten enables of a REPORT_ENABLE replace
those held, and the reply gives them; a value other than 0 or 1 is refused with BAD_VALUE (R182). In START the Link Unit
answers MODE_CONFLICT whatever the payload's size (R176; DEDUCED, log entry 13). A report whose kind's enable is clear is not
created; another is appended at the back of a queue of fewer than 32 records, and a full queue discards it with the overflow
mark set (R180). Nothing else changes. -/
def Obligations.ReportsAreFetchedAndEnabled : Prop :=
  (∀ (s : State) (tag n : Byte), s.ready → 1 ≤ n.toNat → n.toNat ≤ 8 →
    exec (.fetchReports tag [n]) s = .next
      (({ s with lu := { s.lu with queue := s.lu.queue.drop n.toNat, overflow := false } }).answered 0x61 tag [n] .ok
        (mark s.lu.overflow ++ u8 (min n.toNat s.lu.queue.length) ++ u8 (s.lu.queue.length - n.toNat) ++
          (s.lu.queue.take n.toNat).flatMap Report.bytes)).deliver ∧
    ∀ s' : State, s'.power = .on → (s'.repq = true ↔ s'.lu.queue ≠ [])) ∧
  (∀ (s : State) (tag : Byte) (p : List Byte), s.power = .on → s.lu.restarting = false →
    s.lu.intake.length < intakeCapacity →
    (p.length ≠ 10 → s.mode ≠ .start →
      exec (.reportEnable tag p) s = .next (s.answered 0x62 tag p .badLength []).deliver) ∧
    (s.mode = .start → exec (.reportEnable tag p) s = .next (s.answered 0x62 tag p .modeConflict []).deliver) ∧
    (s.mode ≠ .start → ∀ e : ReportEnables, p = e.bytes →
      exec (.reportEnable tag p) s =
        .next (({ s with lu := { s.lu with enables := e } }).answered 0x62 tag p .ok e.bytes).deliver) ∧
    (s.mode ≠ .start → p.length = 10 → (∃ b ∈ p, b ≠ 0 ∧ b ≠ 1) →
      exec (.reportEnable tag p) s = .next (s.answered 0x62 tag p .badValue []).deliver) ∧
    (∀ r : Report,
      (s.lu.enables.get r.kind = false → s.lu.append r = s.lu) ∧
      (s.lu.enables.get r.kind = true → s.lu.queue.length < 32 →
        s.lu.append r = { s.lu with queue := s.lu.queue ++ [r] }) ∧
      (s.lu.enables.get r.kind = true → 32 ≤ s.lu.queue.length → s.lu.append r = { s.lu with overflow := true })))

/-- An accepted RESTART is answered OK, and from then on every frame is discarded without reply; once every reply has been
sent the part restarts by itself, and before that it does not (R179). -/
def Obligations.RestartWaitsForItsReply : Prop :=
  (∀ (s : State) (tag : Byte), s.ready → s.saving = false →
    exec (.restart tag []) s =
      .next (({ s with lu := { s.lu with restarting := true } }).answered 0x63 tag [] .ok []).deliver) ∧
  (∀ (s : State) (c : Instr) (r : Request), c.request = some r → s.power = .on → s.lu.restarting = true →
    exec c s = .next ({ s with lu := { s.lu with framer := .hunt } }).deliver) ∧
  (∀ s : State, s.power = .on → s.lu.restarting = true → s.lu.replies = [] →
    exec .restartRequest s = .next (s.begin .restartRequest s.kept)) ∧
  (∀ s : State, s.lu.replies ≠ [] → exec .restartRequest s = .next s)

/-! ### Start and stored settings (chapter 10) -/

/-- A start gives every block its reset values, whatever the state before it: a power-up with every class QUARANTINE and
every totalizer 0, a release of RESETN with the classes and totalizers kept (R191, R193). Only the pins, the stored image and
the host's queue are carried over. A power-up with RESETN low holds the part with those values until RESETN returns high
(DEDUCED, log entry 25). While RESETN is low or the supply is off, every output is off and no valve is driven; a save in
flight has been cut off; nothing else has changed (R189, R191). -/
def Obligations.ThePartStartsAndStops : Prop :=
  ∀ s : State,
    (∀ x : State, x = { State.reset with
        pins := s.pins, txd := s.txd, choices := s.choices, pending := s.pending,
        au := ActuatorUnit.start s.pins,
        te := TransferEngine.start (ChannelRecord.start (if s.pins.tp1 then .stopping else .stopped) 0)
          (ChannelRecord.start (if s.pins.tp2 then .stopping else .stopped) 0),
        sts := { stored := s.sts.stored, checksumAgrees := s.sts.checksumAgrees, workingFlag := false,
                 storeValid := false, save := none, cause := .powerUp } } →
      (s.pins.resetn = true → exec .powerUp s = .next x) ∧
      (s.pins.resetn = false → exec .powerUp s = .next { x with power := .held })) ∧
    (s.power ≠ .off → exec .resetLine s = .next { State.reset with
      pins := { s.pins with resetn := true }, txd := s.txd, choices := s.choices, pending := s.pending,
      tt := TankTable.start fun t => (s.tank t).cls,
      au := ActuatorUnit.start s.pins,
      ir := IntakeRouter.start (SourceRecord.start .stopped s.ir.wm1.produced s.ir.wm1.dumped)
        (SourceRecord.start .stopped s.ir.wm2.produced s.ir.wm2.dumped)
        (SourceRecord.start .closed s.ir.shore.produced s.ir.shore.dumped),
      te := TransferEngine.start
        (ChannelRecord.start (if s.pins.tp1 then .stopping else .stopped) s.te.tc1.totalizer)
        (ChannelRecord.start (if s.pins.tp2 then .stopping else .stopped) s.te.tc2.totalizer),
      sts := { stored := s.sts.stored, checksumAgrees := s.sts.checksumAgrees, workingFlag := false,
               storeValid := false, save := none, cause := .resetLine } }) ∧
    exec .powerLoss s = .next { s with power := .off, sts := { s.sts with save := none } } ∧
    (s.power ≠ .off → exec .resetnHeld s = .next { s with
      power := .held, pins := { s.pins with resetn := false }, sts := { s.sts with save := none } }) ∧
    (s.power = .off →
      exec .resetnHeld s = .next { s with pins := { s.pins with resetn := false } } ∧
      exec .resetLine s = .next { s with pins := { s.pins with resetn := true } }) ∧
    (s.power ≠ .on → s.repq = false ∧ s.supplyOk = false ∧ (∀ w, s.wmRun w = false) ∧ (∀ c, s.pumpRun c = false) ∧
      ∀ v, s.valveDrive v = none)

/-- When the load ends, every block has the settings of the image that R192 chooses, and the tanks and gauges are as R2 and
R28 give for a start: no published values, marks clear, thresholds UNKNOWN, the first notice enables for a defined tank and
none for another, no claim and no entry (where no order, no source and no notice is left over from before the start: R101,
R72). The marks of the store stand as R192 says, and the plant is in the first mode (R159). -/
def Obligations.LoadTakesTheImage : Prop :=
  ∀ (s : State), s.power = .on → s.mode = .start → s.pmc.wake = none → (∀ m ∈ s.msgs, m.wakes = false) →
    ∃ u, exec .loadEnd s = .next u ∧
      (∀ im, im = (if s.sts.checksumAgrees then s.sts.stored else { Image.factory with commissioning := false }) →
        (∀ t : TankIx, (u.tank t).defn = im.tanks[t].defn ∧ (u.tank t).volume = none ∧ (u.tank t).level = none ∧
          (u.tank t).states = ThStates.unknown ∧ (u.tank t).empty = false ∧ (u.tank t).suspect = false ∧
          (u.tank t).held = false ∧ (u.tank t).notices = im.tanks[t].defn.map (fun _ => NoticeEnables.initial) ∧
          (s.msgs = [] → s.quietAtStart → (u.tank t).claim = none ∧ (u.tank t).entries = []) ∧
          (im.tanks[t].defn.isSome → (u.tank t).strap = im.tanks[t].strap ∧ (u.tank t).service = im.tanks[t].service ∧
            (u.tank t).limits = im.tanks[t].limits ∧ (u.tank t).cls = (s.tank t).cls) ∧
          (im.tanks[t].defn = none → (u.tank t).service = .undefined ∧ (u.tank t).cls = .quarantine) ∧
          (u.gauge t).map GaugeChannel.standing =
            im.tanks[t].defn.map fun d => (GaugeChannel.fresh d im.tanks[t].strap 0 none).standing) ∧
        u.tt.mLim = im.mLim ∧ u.tt.mHys = im.mHys ∧ u.tt.moment = 0 ∧ u.ir.rules = im.rules ∧
        u.ir.wm1.settings = im.wm1 ∧ u.ir.wm2.settings = im.wm2 ∧ u.ir.shore.settings = im.shore ∧
        u.te.tc1.meterFactor = im.tc1.meterFactor ∧ u.te.tc1.noFlowTime = im.tc1.noFlowTime ∧
        u.te.tc2.meterFactor = im.tc2.meterFactor ∧ u.te.tc2.noFlowTime = im.tc2.noFlowTime ∧
        u.au.travelTimeout = im.travelTimeout ∧ u.ss.duty = im.duty ∧ u.pmc.period = im.period ∧
        u.pmc.kind = im.kind ∧ u.sts = { s.sts with workingFlag := im.commissioning, storeValid := s.sts.checksumAgrees }) ∧
      u.mode = (if s.sts.checksumAgrees then (if s.sts.stored.commissioning then .commission else s.sts.stored.startMode)
        else .configure)

/-- SETTINGS_SAVE copies the working settings into a save record and marks the stored checksum as not agreeing; the end of
the write stores the record, makes the checksum agree, sets the store-valid mark and queues the SAVED report (R189).
COMMISSION_END clears the working commissioning flag, begins a save that holds the flag clear, and enters CONFIGURE with
supervision WATCHING; with an order ACTIVE it is refused with ORDERS_ACTIVE (R190). -/
def Obligations.SavesAreRecordedAndEndCommissioning : Prop :=
  ((∀ (s : State) (tag b : Byte) (m : Mode), s.ready → s.saving = false → startModeAt [b] 0 = some m →
    exec (.settingsSave tag [b]) s = .next
      (({ s with sts := { s.sts with save := some (s.workingImage m), checksumAgrees := false } }).answered 0x68 tag [b]
        .ok []).deliver) ∧
  (∀ (s : State) (im : Image), s.power = .on → s.sts.save = some im →
    exec .saveEnd s = .next
      ({ s with
        sts := { s.sts with stored := im, checksumAgrees := true, storeValid := true, save := none },
        lu := s.lu.append ⟨.plant, 0, 7, s.clock, 0⟩ }).deliver) ∧
  (∀ s : State, s.power = .on → s.sts.save = none → exec .saveEnd s = .next s.deliver)) ∧
  (∀ (s : State) (tag b : Byte) (m : Mode), s.ready → s.mode = .commission → s.saving = false →
    startModeAt [b] 0 = some m →
    (s.anyActive = true →
      exec (.commissionEnd tag [b]) s = .next (s.answered 0x69 tag [b] .ordersActive []).deliver) ∧
    (s.anyActive = false → (∀ x ∈ s.msgs, x.wakes = false) →
      ∃ u, exec (.commissionEnd tag [b]) s = .next u ∧
        (({ s with sts := { s.sts with
            workingFlag := false, checksumAgrees := false,
            save := some { s.workingImage m with commissioning := false } } }.report .plant 0 1
              (Mode.commission.code * 256 + Mode.configure.code)).answered 0x69 tag [b] .ok
                (u8 Mode.configure.code)).standsIn u ∧
        u.pmc = { s.pmc with
          mode := .configure, wake := none, sup := .watching,
          timer := some ⟨s.clock, s.pmc.period, after s.clock (s.pmc.period * 10)⟩ }))

/-- Values after a power-up or a restart, block by block (R2, R28, R72, R83, R101, R117, R144, R157, R70), as State.reset has
them, and the laws of the blocks there. The values that the model chose (pins unconnected, store of a new part, assumption 7)
are not part of this statement. -/
def Obligations.ResetStateHasResetValues : Prop :=
  (∀ t, (State.reset.tank t).service = .undefined ∧ (State.reset.tank t).cls = .quarantine ∧
    (State.reset.tank t).volume = none ∧ (State.reset.tank t).claim = none ∧ (State.reset.tank t).entries = [] ∧
    State.reset.gauge t = none) ∧
  State.reset.tt.moment = 0 ∧ State.reset.gu.attitude.live = false ∧
  (∀ v, (State.reset.valve v).commanded = .a ∧ (State.reset.valve v).demand = .a ∧
    (State.reset.valve v).driver = .start ∧ (State.reset.valve v).hostMark = false) ∧
  State.reset.au.travelTimeout = 40 ∧
  State.reset.ir.wm1.state = .stopped ∧ State.reset.ir.wm2.state = .stopped ∧ State.reset.ir.shore.state = .closed ∧
  (∀ x, (State.reset.source x).grade = .bad ∧ (State.reset.source x).probeOk = true ∧
    (State.reset.source x).give = true ∧ (State.reset.source x).produced = 0) ∧
  State.reset.ir.main = ProductMain.unused ∧ State.reset.te.orders = [] ∧ State.reset.te.sequence = 1 ∧
  (∀ c, (State.reset.chan c).state = .idle ∧ (State.reset.chan c).claims = [] ∧ (State.reset.chan c).totalizer = 0) ∧
  State.reset.te.guardList = [] ∧ State.reset.ss.state = .searching ∧ State.reset.ss.established = false ∧
  State.reset.pmc = ⟨.start, none, none, .off, none, 10, .timeout⟩ ∧ State.reset.clock = 0 ∧
  State.reset.queueLaw ∧ State.reset.scoreLaw ∧ State.reset.momentLaw ∧ State.reset.entryLaw ∧ State.reset.storeLaw ∧
  State.reset.runLaw ∧ State.reset.claimLaw ∧ State.reset.ss.lawful ∧ State.reset.modeLaw ∧ State.reset.actuatorLaw ∧
  State.reset.dumpTimerLaw ∧ State.reset.intakeValveLaw ∧ State.reset.supplyValveLaw ∧ State.reset.pumpLaw ∧
  State.reset.permitLaw ∧ State.reset.publishedLaw

/-- After a power-up and after a restart the Link Unit holds the values of R183's table, and REPQ is deasserted. -/
def Obligations.LinkUnitResetValues : Prop :=
  ∀ s u : State,
    (exec .powerUp s = .next u ∨ (s.power ≠ .off ∧ exec .resetLine s = .next u) ∨
      (s.power = .on ∧ s.lu.restarting = true ∧ s.lu.replies = [] ∧ exec .restartRequest s = .next u)) →
    u.lu.framer = .hunt ∧ u.lu.intake = [] ∧ u.lu.replies = [] ∧ u.lu.queue = [] ∧ u.lu.overflow = false ∧
      (∀ k, u.lu.enables.get k = true) ∧ u.repq = false

/-! ### The Tank Table and the Gauging Unit (chapters 1 and 2) -/

/-- TANK_DEFINE on an UNDEFINED tank gives it the state of R6 and a gauge channel in a fresh start; on a defined tank it is a
redefinition (R7): a strapping table whose last level is the new height is kept, another is discarded with the published
values and an IN_SERVICE state. The channel restarts with its GAUGE report (R26), M is worked out anew (R22), and the blocks
are told (R4, R26; the tank's notice before M's and the gauge's; so on a removal: DESIGN CHOICE, log entry 48). TANK_REMOVE
makes a defined tank UNDEFINED, leaving its claim field, deletes its gauge channel and works M out without it; an UNDEFINED
tank is refused with NO_SUCH_TANK (R8, R27). That the suspect and held marks are clear where the published values are
discarded is DEDUCED (log entry 20). -/
def Obligations.TanksAreDefinedAndRemoved : Prop :=
  (∀ (s : State) (tag : Byte) (p : List Byte) (t : TankIx) (d : TankDef),
    s.configurable → p.length = 21 → tankAt p 0 = some t → readDefinition p = some d →
    ∃ (u : State) (r : TankRecord) (g : GaugeChannel), exec (.tankDefine tag p) s = .next u ∧
      g = GaugeChannel.fresh d r.strap s.clock ((s.gauge t).bind (·.lastSample)) ∧
      u = (((((((s.updTank t fun _ => r).tellTank t true .hostRequest (s.tank t)).reMoment).setGauge t (some g)).report
        .gauge (tankCode t) GaugeState.settling.code 0).tellGauge t .settling).answered 0x10 tag p .ok []).deliver ∧
      ((((s.putTank t r).setGauge t (some g)).report .gauge (tankCode t) GaugeState.settling.code 0).answered 0x10 tag p
        .ok []).standsIn u ∧
      ((s.tank t).service = .undefined → r =
        { defn := some d, strap := none, service := .isolated, cls := .quarantine, level := none, volume := none,
          suspect := false, held := false, empty := false, limits := none, states := ThStates.unknown,
          notices := some NoticeEnables.initial, claim := (s.tank t).claim, entries := [] }) ∧
      ((s.tank t).service ≠ .undefined → (∀ tb ∈ (s.tank t).strap, lastLevel tb = d.height) → r =
        { s.tank t with
          defn := some d, held := (s.tank t).volume.isSome,
          empty := (s.tank t).volume.any fun v => decide (v ≤ d.residual) }) ∧
      ((s.tank t).service ≠ .undefined → (∃ tb ∈ (s.tank t).strap, lastLevel tb ≠ d.height) → r =
        { s.tank t with
          defn := some d, strap := none, service := .isolated, level := none, volume := none, suspect := false,
          held := false, empty := false, states := ThStates.unknown })) ∧
  (∀ (s : State) (tag : Byte) (t : TankIx), s.configurable →
    ((s.tank t).service = .undefined →
      exec (.tankRemove tag (tankByte t)) s =
        .next (s.answered 0x11 tag (tankByte t) .noSuchTank []).deliver) ∧
    ((s.tank t).service ≠ .undefined → ∀ r : TankRecord, r = { TankRecord.blank .quarantine with claim := (s.tank t).claim } →
      ∃ u, exec (.tankRemove tag (tankByte t)) s = .next u ∧
      u = ((((((s.updTank t fun _ => r).setGauge t none).tellTank t true .hostRequest (s.tank t)).reMoment).answered 0x11
        tag (tankByte t) .ok [])).deliver ∧
      (((s.putTank t r).setGauge t none).answered 0x11 tag (tankByte t) .ok []).standsIn u))

/-- What the Tank Table tells of a change. One notice to the Intake Router, the Transfer Engine and the Supply Selector names
all that changed on the tank: a definition, the service state, the class with its cause, the four states with every crossing,
and the empty flag; no change, no notice (R4). The Plant Mode Controller is told of a definition and of a service state
(R164). Notices to several blocks have no order: every arrangement of them is one that `choices` can give (log entry 5). On a
first publication a threshold is ABOVE where the volume is at least its value, and BELOW otherwise; at any other evaluation a
BELOW one rises at its value, an ABOVE one falls below its value less the hysteresis, and every other state is kept (R15).
The falling crossings come first, in the order HH, H, L, LL, and then the rising ones, LL, L, H, HH (R16). Each crossing in
turn queues its LEVEL report where the tank's notice enable is set, and in LAYUP is passed on as a wake cause where its wake
enable is set (R17). A new M is told to the Transfer Engine (R22), and a gauge state to the blocks that act on it (R44). -/
def Obligations.TankChangesAreTold : Prop :=
  (∀ (s : State) (t : TankIx) (defined : Bool) (cause : ClassCause) (old : TankRecord) (n : TankChange),
    n = { definition := defined, service := decide ((s.tank t).service ≠ old.service),
          cls := if (s.tank t).cls = old.cls then none else some cause,
          states := if (s.tank t).states = old.states then none else some (s.tank t).states,
          crossings := crossings old.states (s.tank t).states, empty := (s.tank t).empty != old.empty } →
    (defined = false → (s.tank t).service = old.service → (s.tank t).cls = old.cls → (s.tank t).states = old.states →
      (s.tank t).empty = old.empty → s.tellTank t defined cause old = s) ∧
    (defined = true ∨ (s.tank t).service ≠ old.service →
      s.tellTank t defined cause old = s.tell [.tank .ir t n, .tank .te t n, .tank .ss t n, .tank .pmc t n]) ∧
    (defined = false → (s.tank t).service = old.service →
      ((s.tank t).cls ≠ old.cls ∨ (s.tank t).states ≠ old.states ∨ (s.tank t).empty ≠ old.empty) →
      s.tellTank t defined cause old = s.tell [.tank .ir t n, .tank .te t n, .tank .ss t n])) ∧
  (∀ ms l : List Msg, (∃ k, permute k ms = l) ↔ l.Perm ms) ∧
  (∀ (s : State) (ms : List Msg), ∃ l, l.Perm ms ∧ s.tell ms = { s with msgs := s.msgs ++ l, choices := s.choices.tail }) ∧
  (∀ old new : ThStates,
    (crossings old new).Sublist [(.hh, .falling), (.h, .falling), (.l, .falling), (.ll, .falling), (.ll, .rising),
      (.l, .rising), (.h, .rising), (.hh, .rising)] ∧
    ∀ th, ((th, .falling) ∈ crossings old new ↔ old.get th = .above ∧ new.get th = .below) ∧
      ((th, .rising) ∈ crossings old new ↔ old.get th = .below ∧ new.get th = .above)) ∧
  (∀ (s : State) (t : TankIx) (vol : Nat) (new : ThStates),
    ((s.tank t).notices = none → s.takeStates t vol new = s.updTank t fun r => { r with states := new }) ∧
    ∀ n, (s.tank t).notices = some n → ∀ cs, cs = crossings (s.tank t).states new →
      s.takeStates t vol new = { s.updTank t fun r => { r with states := new } with
        lu := (cs.filter fun x => match x.2 with
            | .rising => (n.get x.1).rising
            | .falling => (n.get x.1).falling).foldl
          (fun l x => l.append ⟨.level, tankCode t, x.1.code * 16 + x.2.code, s.clock, vol⟩) s.lu,
        msgs := s.msgs ++ if s.mode = .layup then
          (cs.filter fun x => (n.get x.1).wake).map fun x => .wake t x.1 x.2 else [] }) ∧
  (∀ s : State,
    (s.momentLaw → s.reMoment = s) ∧
    (s.tt.moment ≠ momentOf s.tt.tanks → s.reMoment =
      { s with
        tt := { s.tt with moment := momentOf s.tt.tanks },
        msgs := s.msgs ++ [.moment (momentOf s.tt.tanks)] }) ∧
    ∀ (t : TankIx) (g : GaugeState), ∃ l : List Msg, l.Perm [.gauge .ir t g, .gauge .te t g, .gauge .ss t g, .gauge .pmc t g] ∧
      s.tellGauge t g = { s with msgs := s.msgs ++ l, choices := s.choices.tail }) ∧
  (∀ (m : Limits) (vol : Nat) (old new : ThStates), new = evalStates m vol old → ∀ v a b,
    (v, a, b) ∈ [(m.ll, old.ll, new.ll), (m.l, old.l, new.l), (m.h, old.h, new.h), (m.hh, old.hh, new.hh)] →
    (a = .below → b = if v ≤ vol then .above else .below) ∧
    (a = .above → b = if vol + m.hysteresis < v then .below else .above) ∧ (a = .unknown → b = .unknown)) ∧
  (∀ (r : TankRecord) (vol : Nat) (new : ThStates), new = publishedStates r vol →
    (r.limits = none → new = r.states) ∧
    ∀ m, r.limits = some m → (r.volume ≠ none → new = evalStates m vol r.states) ∧
      (r.volume = none → ∀ v b, (v, b) ∈ [(m.ll, new.ll), (m.l, new.l), (m.h, new.h), (m.hh, new.hh)] →
        b = if v ≤ vol then .above else .below))

/-- STRAP_LOAD replaces the table, settles the threshold values by R9, holds a published volume and clamps it to the new full
volume, and restarts the channel; the reply says whether defaults were taken. A table that R9 forbids is refused with
BAD_TABLE. GAUGE_READMIT puts a FAILED channel back to SETTLING, keeping its schedule and a request in flight, makes the
tank's published values absent and queues its GAUGE report; another gauge state is refused with BAD_VALUE, an UNDEFINED tank
with NO_SUCH_TANK (R47). That the suspect and held marks are cleared with the values is DEDUCED (log entry 20). Both tell the
blocks of the tank, of M and of the gauge (R4, R22, R26, R47; in this order, DESIGN CHOICE, log entry 48). -/
def Obligations.StrapLoadsAndReadmissionsRestartGauges : Prop :=
  (∀ (s : State) (tag : Byte) (p : List Byte) (t : TankIx) (d : TankDef),
    s.configurable → payloadSizeOk 0x12 p = true → tankAt p 0 = some t → (s.tank t).defn = some d →
    (readStrap d.height p = none →
      exec (.strapLoad tag p) s = .next (s.answered 0x12 tag p .badTable []).deliver) ∧
    (∀ tb, readStrap d.height p = some tb →
      ∃ (u : State) (m : Limits) (defaults : Bool) (r : TankRecord) (g : GaugeChannel), exec (.strapLoad tag p) s = .next u ∧
        r = { s.tank t with
          strap := some tb, limits := some m, held := (s.tank t).volume.isSome,
          volume := (s.tank t).volume.map (min (fullVolume tb)),
          empty := (s.tank t).volume.any fun v => decide (min (fullVolume tb) v ≤ d.residual) } ∧
        g = GaugeChannel.fresh d (some tb) s.clock ((s.gauge t).bind (·.lastSample)) ∧
        u = (((((((s.updTank t fun _ => r).tellTank t false .hostRequest (s.tank t)).reMoment).setGauge t (some g)).report
          .gauge (tankCode t) GaugeState.settling.code 0).tellGauge t .settling).answered 0x12 tag p .ok
            (mark defaults)).deliver ∧
        ((((s.putTank t r).setGauge t (some g)).report .gauge (tankCode t) GaugeState.settling.code 0).answered 0x12 tag p
          .ok (mark defaults)).standsIn u ∧
        ((∀ old ∈ (s.tank t).limits, limitsOk (clampLimits (fullVolume tb) old) = false) →
          defaults = true ∧ m = defaultLimits (fullVolume tb)) ∧
        (∀ old ∈ (s.tank t).limits, limitsOk (clampLimits (fullVolume tb) old) = true →
          defaults = false ∧ m = clampLimits (fullVolume tb) old))) ∧
  (∀ (s : State) (tag : Byte) (t : TankIx), s.ready →
    (s.gauge t = none →
      exec (.gaugeReadmit tag (tankByte t)) s =
        .next (s.answered 0x20 tag (tankByte t) .noSuchTank []).deliver) ∧
    (∀ c, s.gauge t = some c → c.state ≠ .failed →
      exec (.gaugeReadmit tag (tankByte t)) s =
        .next (s.answered 0x20 tag (tankByte t) .badValue []).deliver) ∧
    (∀ c, s.gauge t = some c → c.state = .failed → ∀ (r : TankRecord) (g : GaugeChannel),
      r = { s.tank t with
        level := none, volume := none, suspect := false, held := false, empty := false, states := ThStates.unknown } →
      g = { c with
        state := .settling, score := 0, window := [], filtered := none, volume := none, reference := none,
        published := none } → ∃ u, exec (.gaugeReadmit tag (tankByte t)) s = .next u ∧
      u = (((((((s.setGauge t (some g)).updTank t fun _ => r).tellTank t false .hostRequest (s.tank t)).reMoment).report
        .gauge (tankCode t) GaugeState.settling.code 0).tellGauge t .settling).answered 0x20 tag (tankByte t) .ok
          []).deliver ∧
      ((((s.putTank t r).setGauge t (some g)).report .gauge (tankCode t) GaugeState.settling.code 0).answered 0x20 tag
        (tankByte t) .ok []).standsIn u))

/-- TANK_SERVICE puts a tank that has a table IN_SERVICE, or ISOLATES it, and refuses IN without a table with NO_TABLE (R10);
a change is told (R4). TANK_CLASS sets the class whatever the tank holds, marks the entries it conflicts with as ending and
tells their entrants, then tells the blocks of the change (DEDUCED, log entry 22); the class that the tank holds already
changes nothing (R11). -/
def Obligations.ServiceAndClassAreSet : Prop :=
  ∀ (s : State) (tag : Byte) (t : TankIx), s.ready → (s.tank t).service ≠ .undefined →
    (s.saving = false → (s.tank t).strap = none →
      exec (.tankService tag (tankByte t ++ u8 1)) s =
        .next (s.answered 0x13 tag (tankByte t ++ u8 1) .noTable []).deliver) ∧
    (∀ (b : Nat) (v : Service), b = 1 ∧ v = .inService ∧ (s.tank t).strap.isSome ∨ b = 2 ∧ v = .isolated →
      s.saving = false → ∃ u, exec (.tankService tag (tankByte t ++ u8 b)) s = .next u ∧
      u = (((s.updTank t fun r => { r with service := v }).tellTank t false .hostRequest (s.tank t)).answered 0x13 tag
        (tankByte t ++ u8 b) .ok []).deliver ∧
      ((s.updTank t fun r => { r with service := v }).answered 0x13 tag (tankByte t ++ u8 b) .ok []).standsIn u) ∧
    exec (.tankClass tag (tankByte t ++ u8 (s.tank t).cls.code)) s =
      .next (s.answered 0x14 tag (tankByte t ++ u8 (s.tank t).cls.code) .ok []).deliver ∧
    (∀ c : QClass, c ≠ (s.tank t).cls →
      exec (.tankClass tag (tankByte t ++ u8 c.code)) s = .next
        (((((s.tank t).entries.filter fun e => e.waterClass.worse c).foldl
            (fun s e => s.emit (Msg.conflict t e.entrant))
            (s.updTank t fun r => { r with
              cls := c,
              entries := r.entries.map fun e =>
                if e.waterClass.worse c then { e with ending := true } else e })).tellTank t false .hostRequest
          (s.tank t)).answered
          0x14 tag (tankByte t ++ u8 c.code) .ok []).deliver)

/-- TANK_LIMITS clamps the values to the full volume, checks them, stores them, and evaluates the four states at once
against a volume that is present and not held, with the reports and wake causes of the crossings and then the blocks'
notice (TankChangesAreTold says what those are; the wake causes first: DESIGN CHOICE, log entry 58); values that fail
the check are refused with BAD_VALUE (R18). The settings that only their owner reads: the notice enables of a tank
(R19), M_lim and M_hys, of which the Transfer Engine is told (R23), the travel timeout (R64), a channel's meter factor
and no-flow time (R118), the supervision period and kind (R171). A pair that R23 does not allow is refused with
BAD_VALUE. -/
def Obligations.LimitsAndPlainSettingsAreStored : Prop :=
  (∀ (s : State) (tag : Byte) (t : TankIx) (m0 : Limits) (tb : List StrapPoint),
    s.ready → s.saving = false → (s.tank t).service ≠ .undefined → (s.tank t).strap = some tb →
    m0.ll ≤ 99999 → m0.l ≤ 99999 → m0.h ≤ 99999 → m0.hh ≤ 99999 → m0.hysteresis ≤ 99999 →
    (limitsOk (clampLimits (fullVolume tb) m0) = false →
      exec (.tankLimits tag (tankByte t ++ m0.bytes)) s =
        .next (s.answered 0x15 tag (tankByte t ++ m0.bytes) .badValue []).deliver) ∧
    (limitsOk (clampLimits (fullVolume tb) m0) = true →
      ∃ u, exec (.tankLimits tag (tankByte t ++ m0.bytes)) s = .next u ∧
        (∀ x : State, x = (s.updTank t fun r => { r with limits := some (clampLimits (fullVolume tb) m0) }) →
          ((s.tank t).volume = none ∨ (s.tank t).held = true → u =
            (x.answered 0x15 tag (tankByte t ++ m0.bytes) .ok (clampLimits (fullVolume tb) m0).bytes).deliver) ∧
          ∀ v, (s.tank t).volume = some v → (s.tank t).held = false → u =
            (((x.takeStates t v (evalStates (clampLimits (fullVolume tb) m0) v (s.tank t).states)).tellTank t false
              .hostRequest (s.tank t)).answered 0x15 tag (tankByte t ++ m0.bytes) .ok
                (clampLimits (fullVolume tb) m0).bytes).deliver) ∧
        ((s.updTank t fun r => { r with
            limits := some (clampLimits (fullVolume tb) m0),
            states := match r.volume with
              | some v => if r.held then r.states else evalStates (clampLimits (fullVolume tb) m0) v r.states
              | none => r.states }).answered 0x15 tag (tankByte t ++ m0.bytes) .ok
                (clampLimits (fullVolume tb) m0).bytes).standsIn u)) ∧
  (∀ (s : State) (tag : Byte), s.ready →
    (∀ (t : TankIx) (n : NoticeEnables), (s.tank t).service ≠ .undefined →
      exec (.tankNotice tag (tankByte t ++ n.bytes)) s =
        .next ((s.updTank t fun r => { r with notices := some n }).answered 0x16 tag (tankByte t ++ n.bytes) .ok
          []).deliver) ∧
    (s.saving = false → ∀ lim hys : Nat, lim < 4294967296 → hys < 4294967296 →
      exec (.balanceSet tag (u32 lim ++ u32 hys)) s = .next
        (if (lim = 0 ∧ hys = 0) ∨ (lim ≤ 1800000000 ∧ hys < lim) then
          (({ s with tt := { s.tt with mLim := lim, mHys := hys } }).emit .balance).answered 0x17 tag
            (u32 lim ++ u32 hys) .ok []
         else s.answered 0x17 tag (u32 lim ++ u32 hys) .badValue []).deliver) ∧
    (s.configurable → ∀ n : Nat, 10 ≤ n → n ≤ 120 →
      exec (.actuatorSet tag (u16 n)) s =
        .next (({ s with au := { s.au with travelTimeout := n } }).answered 0x2B tag (u16 n) .ok (u16 n)).deliver) ∧
    (s.configurable → ∀ (c : Channel) (factor noFlow : Nat), 1 ≤ factor → factor ≤ 10000 → 5 ≤ noFlow → noFlow ≤ 60 →
      exec (.channelSet tag (u8 c.code ++ u16 factor ++ u16 noFlow)) s =
        .next ((s.updChan c fun r => { r with meterFactor := factor, noFlowTime := noFlow }).answered 0x48 tag
          (u8 c.code ++ u16 factor ++ u16 noFlow) .ok []).deliver) ∧
    (s.configurable → ∀ (period : Nat) (kind : SupKind), 2 ≤ period → period ≤ 60 →
      exec (.supervisionSet tag (u16 period ++ u8 kind.code)) s =
        .next (({ s with pmc := { s.pmc with period := period, kind := kind } }).answered 0x59 tag
          (u16 period ++ u8 kind.code) .ok (u16 period ++ u8 kind.code)).deliver))

/-- A channel's sample request goes out and its next scan time is set one scan period later than the request itself (R29;
DEDUCED, log entry 33): 60 s in LAYUP, 0.5 s in every other mode but START. An answer in time, or the lack of one (a
converter fault), is taken as the sample (R30): a FAILED channel discards it (R31); any other handles it, and the Tank Table
takes the publication that R41 asks for, in the steps of R12: values, empty flag, threshold states with their crossings, the
blocks' notice, and M (the wake causes before the tank's notice, DESIGN CHOICE, log entry 58; that before M's, DESIGN CHOICE,
log entry 48). A change of gauge state queues its GAUGE
report and is told, after the publication if there is one (R43, R44, R45); on entering FAILED the tank's values are held. A
late answer, to a request that has expired (R30) or that a channel restart or a removal discarded (R26), is ignored, also
while a later request is in flight (the mark that tells it is a DESIGN CHOICE, log entry 47). -/
def Obligations.SamplesAreTaken : Prop :=
  ∀ (s : State) (t : TankIx) (c : GaugeChannel), s.power = .on → s.gauge t = some c →
    (s.mode ≠ .start → exec (.sampleRequest t) s = .next (s.setGauge t (some { c with
      inFlight := some s.clock, nextScan := after s.clock (if s.mode = .layup then 600 else 5) })).deliver) ∧
    (∀ w : BitVec 16, exec (.sampleAnswer t ⟨w, true⟩) s = .next s.deliver) ∧
    (∀ (t0 : Clock) (i : Instr) (raw : Option Nat), c.inFlight = some t0 →
      (i = .sampleTimeout t ∧ raw = none ∨
        ∃ w : BitVec 16, i = .sampleAnswer t ⟨w, false⟩ ∧ elapsed s.clock t0 ≤ 1 ∧
          raw = (if w.toNat ≤ 65520 then some w.toNat else none)) →
      (c.state = .failed →
        exec i s = .next (s.setGauge t (some { c with inFlight := none, lastSample := some s.clock })).deliver) ∧
      (c.state ≠ .failed → ∀ g : GaugeChannel,
        g = GaugeChannel.handled { c with inFlight := none, lastSample := some s.clock } s.gu.attitude raw →
        (g.toPublish = none → g.state = c.state → exec i s = .next (s.setGauge t (some g)).deliver) ∧
        (g.toPublish = none → g.state ≠ c.state → exec i s = .next
          ((((if g.state = .failed then s.updTank t fun r => { r with held := r.volume.isSome } else s).setGauge t
            (some g)).report .gauge (tankCode t) g.state.code g.score).tellGauge t g.state).deliver) ∧
        (∀ q, g.toPublish = some q → (s.tank t).service ≠ .undefined → ∀ r : TankRecord,
          r = { s.tank t with
            level := some q.level, volume := some q.volume, suspect := decide (q.state = .suspect), held := false,
            empty := (s.tank t).defn.any fun d => decide (q.volume ≤ d.residual) } → ∀ x : State,
          x = (((((s.setGauge t (some { g with published := some q })).updTank t fun _ => r).takeStates t q.volume
            (publishedStates (s.tank t) q.volume)).tellTank t false .hostRequest (s.tank t)).reMoment) →
          ∃ u, exec i s = .next u ∧
            u = (if g.state = c.state then x
              else (x.report .gauge (tankCode t) g.state.code g.score).tellGauge t g.state).deliver ∧
            ((s.putTank t { r with states := publishedStates (s.tank t) q.volume }).setGauge t
              (some { g with published := some q })).standsIn u)))

/-- The volume at a level (R40): at each point of a table that R9 allows it is that point's volume, it never falls as the
level rises, and up to the last level it stays within the full volume. -/
def Obligations.VolumesFollowTheStrappingTable : Prop :=
  ∀ (height : Nat) (tb : List StrapPoint), strapLawful height tb →
    (∀ p ∈ tb, interpolate tb p.level = p.volume) ∧
    (∀ a b : Nat, a ≤ b → interpolate tb a ≤ interpolate tb b) ∧
    (∀ level : Nat, level ≤ height → interpolate tb level ≤ fullVolume tb)

/-- An inclinometer sample is clamped to −3000..3000 and stored with its time, in every mode; the status becomes LIVE, with a
report if it was STALE (R32). It becomes STALE, with a report, when LIVE, and keeps the values of the last sample (R33). A
channel that handles a sample takes its head (R34; a converter fault has none), judges it against the reference head and
makes it the reference head (R35), and counts it in the score (R36). The level of a plausible sample, corrected by terms
rounded to the nearest, halves away from zero, and clamped (R37), enters the window (R38), and over a full window the
filtered level and its volume follow (R39, R40). An implausible sample leaves window, level and volume. The state check ends
the sample (R42), and in FAILED level and volume are absent (R44). A channel has its level and volume to publish in VALID or
SUSPECT where they or the state differ from its last-published record (R41). -/
def Obligations.GaugesAndAttitudeFollowTheirSamples : Prop :=
  (∀ s : State, s.power = .on →
      (∀ list trim : BitVec 16, ∃ a : Attitude,
        exec (.attitudeSample list trim) s = .next
          (if s.gu.attitude.live then { s with gu := { s.gu with attitude := a } }
           else { s with gu := { s.gu with attitude := a }, lu := s.lu.append ⟨.gauge, 0, 5, s.clock, 0⟩ }).deliver ∧
        a.live = true ∧ a.lastTime = s.clock ∧
        -3000 ≤ a.list ∧ a.list ≤ 3000 ∧ -3000 ≤ a.trim ∧ a.trim ≤ 3000 ∧
        (-3000 ≤ list.toInt → list.toInt ≤ 3000 → a.list = list.toInt) ∧
        (list.toInt < -3000 → a.list = -3000) ∧ (3000 < list.toInt → a.list = 3000) ∧
        (-3000 ≤ trim.toInt → trim.toInt ≤ 3000 → a.trim = trim.toInt) ∧
        (trim.toInt < -3000 → a.trim = -3000) ∧ (3000 < trim.toInt → a.trim = 3000) ∧
        (a.outOfRange = true ↔ a.list ≠ list.toInt ∨ a.trim ≠ trim.toInt)) ∧
      (s.gu.attitude.live = true → exec .attitudeStale s = .next
        ({ s with
          gu := { s.gu with attitude := { s.gu.attitude with live := false } },
          lu := s.lu.append ⟨.gauge, 0, 6, s.clock, 0⟩ }).deliver) ∧
      (s.gu.attitude.live = false → exec .attitudeStale s = .next s.deliver)) ∧
  (∀ (c : GaugeChannel) (a : Attitude) (raw : Option Nat) (g : GaugeChannel), g = c.handled a raw → c.state ≠ .failed →
    ∀ head : Option Int, head = raw.map (fun n => ((n * c.span / 65520 : Nat) : Int) + c.zeroOffset) →
    ∀ plausible : Bool,
      (plausible = true ↔ ∃ h, head = some h ∧ ∀ r, c.reference = some r → (h - r).natAbs ≤ c.stepLimit) →
    ∀ nearest : Int → Int → Prop, (∀ n p, nearest n p ↔ 2 * (p - 10000 * n).natAbs ≤ 10000 ∧
      (2 * (p - 10000 * n).natAbs = 10000 → p.natAbs < (10000 * n).natAbs)) →
      g = { c with
        state := g.state, score := g.score, window := g.window, reference := g.reference, filtered := g.filtered,
        volume := g.volume } ∧
      g.reference = head.or c.reference ∧
      g.score = (if plausible then c.score - 1 else min (c.score + 8) 255) ∧
      (plausible = false → g.window = c.window ∧ (g.state ≠ .failed → g.filtered = c.filtered ∧ g.volume = c.volume)) ∧
      (plausible = true → ∀ h, head = some h → ∀ trimTerm listTerm : Int, nearest trimTerm (c.dx * a.trim) →
        nearest listTerm (c.dy * a.list) → ∀ level : Nat,
        (level : Int) = min (max (h - trimTerm - listTerm) 0) c.height →
          g.window = c.window.drop (c.window.length + 1 - c.windowLength) ++ [level] ∧
          (g.state ≠ .failed → g.window.length = c.windowLength → ∀ f,
            f = (g.window.sum + c.windowLength / 2) / c.windowLength →
            g.filtered = some f ∧ g.volume = c.strap.map fun tb => interpolate tb f) ∧
          (g.state ≠ .failed → g.window.length ≠ c.windowLength → g.filtered = c.filtered ∧ g.volume = c.volume)) ∧
      (g.state = .failed → g.filtered = none ∧ g.volume = none) ∧
      g.state = if 128 ≤ g.score then .failed
        else if c.state = .settling ∧ g.window.length = c.windowLength then (if 64 ≤ g.score then .suspect else .valid)
        else if c.state = .valid ∧ 64 ≤ g.score then .suspect
        else if c.state = .suspect ∧ g.score ≤ 31 then .valid
        else c.state) ∧
  (∀ (g : GaugeChannel) (q : Published), g.toPublish = some q ↔ (g.state = .valid ∨ g.state = .suspect) ∧
    g.filtered = some q.level ∧ g.volume = some q.volume ∧ q.state = g.state ∧ g.published ≠ some q)

/-! ### The Actuator Unit (chapter 3) -/

/-- A valve's feedback is stored in every state. A moving valve that reports the end it moves to arrives there, and whoever
drove it is told; a valve at rest that reports another position than its end enters FAULT with reason UNCOMMANDED, its owner
and the report queue are told; in FAULT and on the way only the position changes (R54, R56, R58, R59, R60). The report of a
restored valve and its owner's notice have no order between them (log entry 5). The expiry of the travel timer of a moving
valve puts it in FAULT with reason TRAVEL_TIMEOUT: drive removed, commanded position, owner demand and host mark kept, owner
and report queue told; the owner and the report have no order between them. On a valve that does not move nothing expires
(R57, R59). -/
def Obligations.ValveEventsAreTaken : Prop :=
  (∀ (s x : State) (v : Valve) (p : LimitInputs), s.power = .on →
    x = { s with pins := { s.pins with limits := s.pins.limits.set v.ix p } } →
    (p.position = (s.valve v).reported → exec (.valveFeedback v p.a p.b) s = .next x.deliver) ∧
    (p.position ≠ (s.valve v).reported → (s.valve v).state = .fault →
      exec (.valveFeedback v p.a p.b) s = .next (x.updValve v fun r => { r with reported := p.position }).deliver) ∧
    (∀ e : ValveEnd, p.position ≠ (s.valve v).reported → (s.valve v).state = e.moving →
      (p.position ≠ e.position →
        exec (.valveFeedback v p.a p.b) s = .next (x.updValve v fun r => { r with reported := p.position }).deliver) ∧
      (p.position = e.position → ∀ y : State, y = (x.updValve v fun r =>
          { r with reported := p.position, timer := none, state := e.atEnd, resetting := false }) →
        exec (.valveFeedback v p.a p.b) s = .next (match (s.valve v).driver with
          | .owner => y.emit (.valve v e.answer)
          | .reset => y.tell [.report ⟨.actuator, v.number, 6, s.clock, 0⟩, .valve v .restored]
          | _ => y).deliver)) ∧
    (∀ e : ValveEnd, p.position ≠ (s.valve v).reported → p.position ≠ e.position → (s.valve v).state = e.atEnd →
      exec (.valveFeedback v p.a p.b) s = .next ((x.updValve v fun r =>
          { r with reported := p.position, timer := none, state := .fault, reason := some .uncommanded,
                   resetting := false }).tell
        [Msg.report ⟨.actuator, v.number, 2, s.clock, p.position.code⟩, .valve v (.failed .uncommanded)]).deliver)) ∧
  (∀ (s : State) (v : Valve), s.power = .on →
    ((s.valve v).state.target.isSome → (s.valve v).timer.isSome →
      ∃ y : State, exec (.travelTimeout v) s = .next (y.tell
          [Msg.report ⟨.actuator, v.number, 1, s.clock, (s.valve v).reported.code⟩,
           .valve v (.failed .travelTimeout)]).deliver ∧
        y = (s.updValve v fun r =>
          { r with timer := none, state := .fault, reason := some .travelTimeout, resetting := false }) ∧
        y.valveDrive v = none) ∧
    ((s.valve v).state.target = none → exec (.travelTimeout v) s = .next s.deliver))

/-- A pump's feedback completes a start or a stop, trips a running pump, and is stored alone otherwise; the 5 s of a start
and the 10 s of a stop fault the pump when they expire (R65 to R68). A start command runs up a pump that is STOPPED or
STOPPING, at once where its feedback is present, and a stop command stops one that is STARTING or RUNNING, at once where its
feedback is absent; a pump that already does so is told to its channel once it has done so, and a pump in FAULT answers a
start with REFUSED and a stop with FAULT, with its reason (R66 to R68). -/
def Obligations.PumpsAnswerTheirFeedback : Prop :=
  (∀ (s : State) (c : Channel) (p : PumpRecord), p = s.pump c →
    (p.state = .stopped ∨ p.state = .stopping →
      (p.feedback = true → s.pumpStart c =
        (s.setPump c { p with run := true, state := .running, timer := none }).emit (.pump c .running)) ∧
      (p.feedback = false → s.pumpStart c =
        s.setPump c { p with run := true, state := .starting, timer := some (after s.clock 50) })) ∧
    (p.state = .starting → s.pumpStart c = s) ∧
    (p.state = .running → s.pumpStart c = s.emit (.pump c .running)) ∧
    (p.state = .starting ∨ p.state = .running →
      (p.feedback = true → s.pumpStop c =
        s.setPump c { p with run := false, state := .stopping, timer := some (after s.clock 100) }) ∧
      (p.feedback = false → s.pumpStop c =
        (s.setPump c { p with run := false, state := .stopped, timer := none }).emit (.pump c .stopped))) ∧
    (p.state = .stopping → s.pumpStop c = s) ∧
    (p.state = .stopped → s.pumpStop c = s.emit (.pump c .stopped)) ∧
    (∀ f, p.state = .fault → p.reason = some f →
      s.pumpStart c = s.emit (.pump c (.refused f)) ∧ s.pumpStop c = s.emit (.pump c (.fault f)))) ∧
  (∀ (s : State) (c : Channel), s.power = .on →
    (∀ (b : Bool) (x : State), b ≠ (s.pump c).feedback → x = { s with pins := s.pins.setPump c b } →
      ((s.pump c).state = .starting → b = true → exec (.pumpFeedback c b) s = .next
        ((x.setPump c { s.pump c with feedback := b, state := .running, timer := none }).emit
          (.pump c .running)).deliver) ∧
      ((s.pump c).state = .stopping → b = false → exec (.pumpFeedback c b) s = .next
        ((x.setPump c { s.pump c with feedback := b, run := false, state := .stopped, timer := none }).emit
          (.pump c .stopped)).deliver) ∧
      ((s.pump c).state = .running → b = false → exec (.pumpFeedback c b) s = .next
        ((x.setPump c { s.pump c with
            feedback := b, run := false, state := .fault, timer := none, reason := some .tripped }).tell
          [Msg.report ⟨.actuator, c.pumpNumber, 5, s.clock, 0⟩, .pump c (.fault .tripped)]).deliver) ∧
      ((s.pump c).state = .stopped ∨ (s.pump c).state = .fault →
        exec (.pumpFeedback c b) s = .next (x.setPump c { s.pump c with feedback := b }).deliver)) ∧
    ((s.pump c).state = .starting → (s.pump c).timer.isSome → exec (.startTimeout c) s = .next
      ((s.setPump c { s.pump c with run := false, state := .fault, timer := none, reason := some .startTimeout }).tell
        [Msg.report ⟨.actuator, c.pumpNumber, 3, s.clock, if (s.pump c).feedback then 1 else 0⟩,
         .pump c (.fault .startTimeout)]).deliver) ∧
    ((s.pump c).state = .stopping → (s.pump c).timer.isSome → exec (.stopTimeout c) s = .next
      ((s.setPump c { s.pump c with run := false, state := .fault, timer := none, reason := some .stopTimeout }).tell
        [Msg.report ⟨.actuator, c.pumpNumber, 4, s.clock, if (s.pump c).feedback then 1 else 0⟩,
         .pump c (.fault .stopTimeout)]).deliver))

/-- VALVE_SET in COMMISSION: refused for a valve in FAULT, for an active owner, and for opening a second intake or supply
valve; otherwise the host mark and driver are set and the valve moves by the rules of R55, the owner demand left as it was
(R61). In every other mode it is refused. VALVE_RESET clears the fault of a valve and drives it to its safe end, at once
where the reported position shows it, with the RESTORED report and the owner's notice in no order between them (log entry 5);
with no fault it is refused with BAD_VALUE (R60). An owner is active while a valve of its has its owner demand at B or moves
with driver OWNER, and a channel while its pump is not STOPPED; another intake or supply valve counts as open while its
commanded position is B and it is not in FAULT (R61, R52).

The owner takes its valves back (R62). A valve that is returned loses its host mark and is driven to its safe end with driver
RETURN, told to nobody, unless it is there or on its way there; in FAULT it loses the mark alone; a valve that the host does
not hold stays as it is, and leaving COMMISSION returns every valve so. An owner's command for a valve first returns each other
valve of that owner, and then clears the host mark of its own valve and sets the owner demand (R55). A valve at that end is
answered at once, and a valve on its way there goes on, both for the owner from then on, with no reset in progress (R60); a
valve elsewhere begins or reverses its movement with the full travel timeout; one whose reported position already shows the
end is there at once, and the owner is told. A valve in FAULT receives no command, and the owner is told the fault again (R59;
that the mark, the demand and the other valves follow R62 and R55 all the same is DEDUCED, log entry 36). -/
def Obligations.HostMovesAndResetsValves : Prop :=
  (∀ (s : State) (tag : Byte) (v : Valve) (e : ValveEnd) (p : List Byte), s.ready → p = u8 v.number ++ u8 e.code →
    (s.mode ≠ .commission → exec (.valveSet tag p) s = .next (s.answered 0x28 tag p .modeConflict []).deliver) ∧
    (s.mode = .commission → (s.valve v).state = .fault →
      exec (.valveSet tag p) s = .next (s.answered 0x28 tag p .faultPresent []).deliver) ∧
    (s.mode = .commission → (s.valve v).state ≠ .fault →
      (s.ownerActive v.owner = true ∨ (e = .b ∧ s.anotherOpen v = true)) →
      exec (.valveSet tag p) s = .next (s.answered 0x28 tag p .busy []).deliver) ∧
    (s.mode = .commission → (s.valve v).state ≠ .fault → s.ownerActive v.owner = false →
      ¬(e = .b ∧ s.anotherOpen v = true) →
      exec (.valveSet tag p) s = .next ((s.updValve v fun r =>
        if r.state = e.atEnd ∨ r.state = e.moving then
          { r with hostMark := true, driver := .host, resetting := false }
        else if r.reported = e.position then
          { r with hostMark := true, driver := .host, resetting := false, commanded := e, state := e.atEnd,
                   timer := none }
        else
          { r with hostMark := true, driver := .host, resetting := false, commanded := e, state := e.moving,
                   timer := some (after s.clock (s.au.travelTimeout * 10)) }).answered 0x28 tag p .ok []).deliver)) ∧
  (∀ (s : State) (tag : Byte), s.ready →
    (∀ v : Valve, (s.valve v).state ≠ .fault →
      exec (.valveReset tag (u8 v.number)) s = .next (s.answered 0x29 tag (u8 v.number) .badValue []).deliver) ∧
    (∀ v : Valve, (s.valve v).state = .fault → (s.valve v).reported ≠ .a →
      exec (.valveReset tag (u8 v.number)) s = .next ((s.updValve v fun r =>
        { r with reason := none, hostMark := false, demand := .a, commanded := .a, driver := .reset, resetting := true,
                 state := .movingToA, timer := some (after s.clock (s.au.travelTimeout * 10)) }).answered 0x29 tag
          (u8 v.number) .ok []).deliver) ∧
    (∀ v : Valve, (s.valve v).state = .fault → (s.valve v).reported = .a →
      exec (.valveReset tag (u8 v.number)) s = .next (((s.updValve v fun r =>
        { r with reason := none, hostMark := false, demand := .a, commanded := .a, driver := .reset, resetting := false,
                 state := .atA, timer := none }).tell
          [.report ⟨.actuator, v.number, 6, s.clock, 0⟩, .valve v .restored]).answered 0x29 tag (u8 v.number) .ok
            []).deliver)) ∧
  (∀ (s : State) (back : ValveRecord → ValveRecord),
    (∀ r, back r =
      if r.hostMark = false then r
      else if r.state = .fault then { r with hostMark := false }
      else if r.state = .atA ∨ r.state = .movingToA then { r with hostMark := false, driver := .return }
      else if r.reported = .a then
        { r with hostMark := false, driver := .return, commanded := .a, state := .atA, timer := none, resetting := false }
      else { r with hostMark := false, driver := .return, commanded := .a, state := .movingToA,
                    timer := some (after s.clock (s.au.travelTimeout * 10)) }) →
    (∀ v : Valve, s.returnValve v = s.updValve v back) ∧
    Valve.all.foldl State.returnValve s = { s with au := { s.au with valves := s.au.valves.map back } } ∧
    ∀ (v : Valve) (e : ValveEnd), ∃ y : State, y = { s with au := { s.au with valves := y.au.valves } } ∧
      (∀ u : Valve, y.valve u = if u ≠ v ∧ u.owner = v.owner then back (s.valve u) else s.valve u) ∧
      (∀ f, (s.valve v).state = .fault → (s.valve v).reason = some f → s.command v e =
        (y.updValve v fun r => { r with hostMark := false, demand := e }).emit (.valve v (.failed f))) ∧
      ((s.valve v).state = e.atEnd → s.command v e = (y.updValve v fun r =>
        { r with hostMark := false, demand := e, driver := .owner, resetting := false }).emit (.valve v e.answer)) ∧
      ((s.valve v).state = e.moving → s.command v e = y.updValve v fun r =>
        { r with hostMark := false, demand := e, driver := .owner, resetting := false }) ∧
      ((s.valve v).state ∉ [.fault, e.atEnd, e.moving] →
        ((s.valve v).reported ≠ e.position → s.command v e = y.updValve v fun r =>
          { r with hostMark := false, demand := e, driver := .owner, resetting := false, commanded := e,
                   state := e.moving, timer := some (after s.clock (s.au.travelTimeout * 10)) }) ∧
        ((s.valve v).reported = e.position → s.command v e = (y.updValve v fun r =>
          { r with hostMark := false, demand := e, driver := .owner, resetting := false, commanded := e,
                   state := e.atEnd, timer := none }).emit (.valve v e.answer)))) ∧
  (∀ s : State,
    (∀ o : Owner, s.ownerActive o = true ↔
      (∃ v : Valve, v.owner = o ∧ ((s.valve v).demand = .b ∨
        (((s.valve v).state = .movingToA ∨ (s.valve v).state = .movingToB) ∧ (s.valve v).driver = .owner))) ∨
      ∃ c : Channel, c.owner = o ∧ (s.pump c).state ≠ .stopped) ∧
    (∀ f ∈ [ValveFn.intake, .supply], ∀ t : TankIx, s.anotherOpen (.tank t f) = true ↔
      ∃ u, u ≠ t ∧ (s.valve (.tank u f)).commanded = .b ∧ (s.valve (.tank u f)).state ≠ .fault) ∧
    (∀ v : Valve, (∀ t, v ≠ .tank t .intake ∧ v ≠ .tank t .supply) → s.anotherOpen v = false))

/-- PUMP_RESET clears a pump's fault (R69): the checks in their order, and on acceptance the fault reason absent, the run
command STOP and the state STOPPED, whatever the run feedback; the owner is told STOPPED, no report is queued, and nothing
else changes. START refuses it (there the Link Unit's own check comes before the size check: DEDUCED, log entry 13), and a
save in flight does not. A pump whose feedback is still present stays STOPPED with it, and a later start command completes at
once. -/
def Obligations.PumpResetsClearFaults : Prop :=

  (∀ (s : State) (tag : Byte), s.listening →
    (s.mode = .start → ∀ n : Byte,
      exec (.pumpReset tag [n]) s = .next (s.answered 0x2C tag [n] .modeConflict []).deliver) ∧
    (s.mode ≠ .start →
      (∀ p : List Byte, p.length ≠ 1 → exec (.pumpReset tag p) s = .next (s.answered 0x2C tag p .badLength []).deliver) ∧
      (∀ n : Byte, n ≠ 81 → n ≠ 82 →
        exec (.pumpReset tag [n]) s = .next (s.answered 0x2C tag [n] .badValue []).deliver) ∧
      ∀ (c : Channel) (p : List Byte), p = u8 c.pumpNumber →
        ((s.pump c).state ≠ .fault →
          exec (.pumpReset tag p) s = .next (s.answered 0x2C tag p .badValue []).deliver) ∧
        ((s.pump c).state = .fault → exec (.pumpReset tag p) s = .next (((s.setPump c { s.pump c with
          run := false, state := .stopped, timer := none, reason := none }).emit (.pump c .stopped)).answered 0x2C tag p .ok
            []).deliver))) ∧
  (Channel.tc1.pumpNumber = 81 ∧ Channel.tc2.pumpNumber = 82) ∧
  (∀ (s : State) (c : Channel), (s.pump c).state = .stopped → (s.pump c).feedback = true →
    s.pumpStart c = (s.setPump c { s.pump c with run := true, state := .running, timer := none }).emit (.pump c .running) ∧
      (s.pumpReply c)[3]? = some 1)

/-- The law for faulted valves (R59): until a VALVE_RESET or a start, no command gives a valve in FAULT a movement; it stays
in FAULT with its reason, its commanded position and its driver, and it is not driven. -/
def Obligations.FaultedValvesAreNotDriven : Prop :=
  ∀ (s u : State) (c : Instr) (v : Valve), c.mayRepair = false → (s.valve v).state = .fault → exec c s = .next u →
    { u.valve v with reported := .mid, demand := .a, hostMark := false } =
        { s.valve v with reported := .mid, demand := .a, hostMark := false } ∧
      u.valveDrive v = none

/-! ### The Intake Router (chapter 4) -/

/-- SOURCE_SET stores the eight settings, which stand, and resets the improvement counter; RULE_SET stores the rule, which
stands; decisions for every source follow (R79, R95). SOURCE_PERMIT sets the host permit switch, GIVE clears the inhibited
mark and restarts the dump timer from zero where its conditions hold, and the permit status follows with its report (R75 to
R77). A dump timer that reaches its limit sets the mark with cause DUMP_LIMIT and withdraws the permit; a dump limit of 0
never does (R76). The timer runs while the watermaker is ROUTING or DUMPING, its diverter is not AT_B and its mark is clear: it
starts from zero as these begin to hold, runs on while they hold, and stops as one ceases (R76). The permit status is
INHIBITED with the mark set, and otherwise PERMITTED with the switch at GIVE in RUN, COMMISSION and FALLBACK entered from RUN;
a change is reported, but for one to INHIBITED (R75). A mark set for a cause stops the timer, withdraws the permit and queues
the INHIBITED report (R76, R90); one already set with that cause stays as it is (DEDUCED, log entry 23). -/
def Obligations.SourceSettingsAndPermitsAreStored : Prop :=
  (∀ (s : State) (tag : Byte), s.configurable →
    (∀ (x : Source) (v : SourceSettings) (p : List Byte), v.lawful → p = u8 x.code ++ v.bytes →
      (∃ u, exec (.sourceSet tag p) s = .next u ∧
        ((s.updSource x fun r => { r with settings := v }).answered 0x30 tag p .ok []).standsIn u) ∧
      (v.dumpLimit = 0 ∨ ((s.source x).dump.all fun t => decide (elapsed s.clock t < v.dumpLimit * 10)) = true →
        exec (.sourceSet tag p) s = .next
          ((s.updSource x fun r => { r with settings := v, counter := 0, worst := none }).decideAll.answered 0x30 tag p
            .ok []).deliver)) ∧
    (∀ (k : Fin 8) (r : Rule) (p : List Byte), r.lawful = true → p = u8 (k.val + 1) ++ r.bytes →
      (∃ u, exec (.ruleSet tag p) s = .next u ∧ u.ir.rules = s.ir.rules.set k r) ∧
      exec (.ruleSet tag p) s = .next
        (({ s with ir := { s.ir with rules := s.ir.rules.set k r } }).decideAll.answered 0x33 tag p .ok []).deliver)) ∧
  (∀ (s : State) (w : Watermaker),
    (∀ (tag : Byte) (give : Bool) (p : List Byte) (mark : Option InhibitCause) (st : PermitStatus), s.ready →
      p = u8 w.source.code ++ u8 (if give then 1 else 2) →
      mark = (if give then none else (s.source w.source).inhibited) →
      st = (if mark.isSome then .inhibited else if give && s.production then .permitted else .withheld) →
      ∀ x : State, x = (s.updSource w.source fun r => { r with
        give := give, inhibited := mark, permit := st, dump := if give then none else r.dump }) →
      exec (.sourcePermit tag p) s = .next
        ((if st = (s.source w.source).permit ∨ st = .inhibited then x
          else x.report .intake w.source.code 0x12 st.code).answered 0x31 tag p .ok (u8 st.code)).deliver) ∧
    (s.power = .on → (s.source w.source).dump.isSome → (s.source w.source).inhibited = none →
      ((s.source w.source).settings.dumpLimit = 0 → exec (.dumpLimit w) s = .next s.deliver) ∧
      ((s.source w.source).settings.dumpLimit ≠ 0 → exec (.dumpLimit w) s = .next
        ((s.updSource w.source fun r =>
          { r with inhibited := some .dumpLimit, dump := none, permit := .inhibited }).report .intake w.source.code 0x11
            1).deliver))) ∧
  (∀ s : State,
    (∀ w : Watermaker, s.dumpTimerRuns w = true ↔
      ((s.source w.source).state = .routing ∨ (s.source w.source).state = .dumping) ∧
        (s.valve (.diverter w)).state ≠ .atB ∧ (s.source w.source).inhibited = none) ∧
    (∀ kept : Watermaker → SourceRecord → SourceRecord,
      (∀ w r, kept w r = { r with dump := if s.dumpTimerRuns w = true then some (r.dump.getD s.clock) else none }) →
      s.keepDumpTimers = (s.updSource .wm1 (kept .wm1)).updSource .wm2 (kept .wm2)) ∧
    (s.production = true ↔ s.mode = .run ∨ s.mode = .commission ∨ (s.mode = .fallback ∧ s.pmc.left = some .run)) ∧
    ∀ w : Watermaker,
      (∀ st : PermitStatus, st = (if (s.source w.source).inhibited.isSome then .inhibited
          else if (s.source w.source).give && s.production then .permitted else .withheld) → ∀ x : State,
        x = (s.updSource w.source fun r => { r with permit := st }) →
        s.updatePermit w = if st = (s.source w.source).permit then s
          else if st = .inhibited then x else x.report .intake w.source.code 0x12 st.code) ∧
      ∀ k : InhibitCause,
        ((s.source w.source).inhibited = some k → s.inhibit w k = s) ∧
        ((s.source w.source).inhibited ≠ some k → s.inhibit w k =
          (s.updSource w.source fun r => { r with inhibited := some k, dump := none, permit := .inhibited }).report .intake
            w.source.code 0x11 k.code))

/-- SHORE_OPEN in HARBOUR with the shore CLOSED takes the shore's decision at once: where the decision gives a dump, the
shore ends with that reason; where it routes and the main is UNUSED with a tank that can accept, the shore takes the main,
and otherwise it asks for it. With the shore not CLOSED or its probe in a check, SHORE_OPEN is BUSY, and with SH in FAULT it
is answered FAULT_PRESENT. The reply gives state and end reason (R91). SHORE_CLOSE ends the shore with reason HOST, and it
stays CLOSED, with no rule in force (DEDUCED, log entry 21); a CLOSED shore it leaves as it is (R92). The end of a flush
takes the first decision (R74, R80): where it gives a dump, the source is DUMPING with that reason and its diverter is
commanded to DUMP; where it routes and the main is UNUSED with a tank that can accept, the source is ROUTING and takes the
main (R83); where the main is in use, it asks for it (SourcesJoinAndLeaveTheMain says what the shore or the watermaker is
given). Without a running flush timer nothing happens. -/
def Obligations.ShoreAndFlushTakeTheirDecision : Prop :=
  (∀ (s : State) (tag : Byte), s.ready →
    (s.mode ≠ .harbour → exec (.shoreOpen tag []) s = .next (s.answered 0x35 tag [] .modeConflict []).deliver) ∧
    (s.mode = .harbour → s.ir.shore.state ≠ .closed ∨ s.ir.shore.check.isSome →
      exec (.shoreOpen tag []) s = .next (s.answered 0x35 tag [] .busy []).deliver) ∧
    (s.mode = .harbour → s.ir.shore.state = .closed → s.ir.shore.check = none → (s.valve .shore).state = .fault →
      exec (.shoreOpen tag []) s = .next (s.answered 0x35 tag [] .faultPresent []).deliver) ∧
    (s.mode = .harbour → s.ir.shore.state = .closed → s.ir.shore.check = none → (s.valve .shore).state ≠ .fault →
      s.ir.main.on .shore = false →
      (∀ k d, s.outcome .shore = (k, .off d) → exec (.shoreOpen tag []) s = .next
        (((((s.updSource .shore fun r =>
            { r with state := .closed, endReason := some d.shoreEnd, rule := k }).report .intake 3 6 0).command .shore
              .a).report .intake 3 5 d.shoreEnd.code).answered 0x35 tag [] .ok (u8 5 ++ u8 d.shoreEnd.code)).deliver) ∧
      (∀ k rt t, s.outcome .shore = (k, .main rt) → s.ir.main.state = .unused →
        s.choose rt.group rt.cls none = some t → exec (.shoreOpen tag []) s = .next
        (((((s.updSource .shore fun r =>
            { r with state := .opening, endReason := none, rule := k, route := some rt }).report .intake 3 6 0).setMainRaw
              { s.ir.main with holder := some .shore, joined := [], cls := some rt.cls, refused := [] }).headFor t
                .opening).answered 0x35 tag [] .ok (u8 6 ++ u8 0)).deliver) ∧
      (∀ k rt, s.outcome .shore = (k, .main rt) → ∀ y : State,
        y = State.ask .shore rt ((s.updSource .shore fun r =>
          { r with state := .opening, endReason := none, rule := k }).report .intake 3 6 0) →
        exec (.shoreOpen tag []) s = .next (y.answered 0x35 tag [] .ok
          (u8 y.ir.shore.state.code ++ u8 ((y.ir.shore.endReason.map EndReason.code).getD 0))).deliver)) ∧
    (s.ir.shore.state = .closed →
      exec (.shoreClose tag []) s = .next (s.answered 0x36 tag [] .ok []).deliver) ∧
    (s.ir.shore.state ≠ .closed → s.ir.main.sources.Nodup →
      (∃ u, exec (.shoreClose tag []) s = .next u ∧ u.ir.shore.state = .closed ∧
      u.ir.shore.endReason = some .host ∧ u.ir.shore.rule = none ∧
      (s.answered 0x36 tag [] .ok []).standsIn u) ∧
      exec (.shoreClose tag []) s = .next (((((if s.ir.main.on .shore then s.leaveMain 4 .shore
        else s.command .shore .a).updSource .shore fun r =>
          { r with state := .closed, endReason := some .host, rule := none }).report .intake 3 5 1).answered 0x36 tag [] .ok
            []).deliver))) ∧
  (∀ (s : State) (w : Watermaker), s.power = .on →
    ((s.source w.source).state = .flushing → (s.source w.source).flush.isSome → s.ir.main.on w.source = false →
      (∀ k d, s.outcome w.source = (k, .off d) → exec (.flushEnd w) s = .next
        (((s.updSource w.source fun r =>
          { r with flush := none, rule := k, state := .dumping, dumpReason := some d }).report .intake w.source.code 4
            d.code).command (.diverter w) .a).deliver) ∧
      (∀ k rt t, s.outcome w.source = (k, .main rt) → s.ir.main.state = .unused →
        s.choose rt.group rt.cls none = some t → exec (.flushEnd w) s = .next
        (((((s.updSource w.source fun r => { r with flush := none, rule := k, route := some rt }).setMainRaw
          { s.ir.main with
            holder := some w.source, joined := [], cls := some rt.cls, refused := [] }).headFor t .opening).updSource w.source
              fun r => { r with state := .routing, dumpReason := none }).report .intake w.source.code 3 0).deliver) ∧
      (∀ k rt, s.outcome w.source = (k, .main rt) → exec (.flushEnd w) s = .next
        ((s.updSource w.source fun r => { r with flush := none, rule := k }).ask w.source rt).deliver)) ∧
    ((s.source w.source).flush = none → exec (.flushEnd w) s = .next s.deliver))

/-- The decision for a source (R80). The first enabled rule whose source set holds the source and whose grade set holds its
grade is the matching rule (R78). The outcome is that of the first step that applies: the mode (R75), a probe check in
flight, a faulty probe, a faulted outlet, the matching rule or its want; no rule is in force where steps 1 to 4 decide
(DEDUCED, log entry 21). A tank can accept by the conditions of R82 (gauges as told to the router: DEDUCED, log entry 44),
and a search takes the first of a group. The rule in force is recorded. A source on the main leaves it before it takes its
dump reason or wants the main with another class (R85), and takes the group of its route where the class is the same; off the
main it is turned away with its outlet closed, nothing changing, and its diverter not commanded, where a watermaker is there
already (R81; DEDUCED, log entry 57), or asks for the main. A probe check holds the shore in PAUSED (R93), and any other
outcome off the main ends it with the end reason of R92. Effects that no rule numbers stand in the order in which the rules
name them (DEDUCED, log entry 40). -/
def Obligations.DecisionsFollowTheirSteps : Prop :=
  (∀ (s : State) (x : Source) (fits : Rule → Prop), (∀ r, fits r ↔
      r.enabled = true ∧ r.sources.has x = true ∧ r.grades.has (s.source x).grade = true) →
    ∀ rule : Option (Nat × Rule), ((∀ k : Fin 8, ¬fits s.ir.rules[k]) → rule = none) →
      (∀ k : Fin 8, fits s.ir.rules[k] → (∀ j : Fin 8, j < k → ¬fits s.ir.rules[j]) →
        rule = some (k.val + 1, s.ir.rules[k])) →
    ∀ allowed : Bool, (allowed = true ↔ (x = .shore ∧ s.mode = .harbour) ∨ (x ≠ .shore ∧
      (s.mode = .run ∨ s.mode = .commission ∨ (s.mode = .fallback ∧ s.pmc.left = some .run)))) →
    s.outcome x = if allowed = false then (none, .off .mode)
      else if (s.source x).check.isSome then (none, .off .probeCheck)
      else if (s.source x).probeOk = false then (none, .off .probeFault)
      else if (s.valve x.outlet).state = .fault then (none, if x = .shore then .valveFault else .off .mainConflict)
      else match rule with
        | none => (none, .off .noRule)
        | some (k, r) => match r.action with
          | .dump => (some k, .off .grade)
          | .route rt => (some k, .main rt)) ∧
  (∀ (s : State) (c : QClass) (t : TankIx),
    (s.intakeReady t = true ↔ (s.tank t).service = .inService ∧ (s.tank t).defn.any (·.perms.intake) = true ∧
      (s.toldGauge .ir t = some .valid ∨ s.toldGauge .ir t = some .suspect) ∧ (s.tank t).states.h ≠ .above ∧
      t ∉ s.ir.main.refused) ∧
    (classAdmits (s.tank t) c = true ↔ (s.tank t).empty = true ∨ c.code ≤ (s.tank t).cls.code) ∧
    (s.canAccept c t = true ↔ s.intakeReady t = true ∧ classAdmits (s.tank t) c = true ∧
      (s.valve (.tank t .intake)).state ≠ .fault) ∧
    ∀ (group : List TankIx) (except : Option TankIx),
      s.choose group c except = group.find? fun u => decide (some u ≠ except) && s.canAccept c u) ∧
  (∀ (s : State) (x : Source) (k : Option Nat) (y : State), y = (s.updSource x fun r => { r with rule := k }) →
    (∀ d, s.outcome x = (k, .off d) →
      (s.ir.main.on x = true → s.decideFor x = (y.leaveMain 4 x).turnAway x d) ∧
      (s.ir.main.on x = false →
        (x ≠ .shore → (s.source x).state = .dumping ∧ (s.source x).dumpReason = some d → s.decideFor x = y) ∧
        (x ≠ .shore → ¬((s.source x).state = .dumping ∧ (s.source x).dumpReason = some d) →
          s.decideFor x = (y.turnAway x d).command x.outlet .a) ∧
        (x = .shore → d ≠ .probeCheck → s.decideFor x = (y.command .shore .a).turnAway x d) ∧
        (x = .shore → d = .probeCheck → s.decideFor x = y.turnAway x d))) ∧
    (s.outcome x = (k, .valveFault) → s.decideFor x = y.endShore .valveFault) ∧
    (∀ rt, s.outcome x = (k, .main rt) →
      (s.ir.main.on x = true → s.ir.main.cls = some rt.cls →
        s.decideFor x = y.updSource x fun r => { r with route := some rt }) ∧
      (s.ir.main.on x = true → s.ir.main.cls ≠ some rt.cls → s.decideFor x = (y.leaveMain 4 x).ask x rt) ∧
      (s.ir.main.on x = false → ¬(x = .shore ∧ s.ir.shore.state = .paused) → s.decideFor x = y.ask x rt) ∧
      (s.ir.main.on x = false → x = .shore → s.ir.shore.state = .paused → s.decideFor x =
        ((y.updSource .shore fun r => { r with state := .opening, endReason := none }).report .intake 3 6 0).ask x rt))) ∧
  (∀ (s : State) (d : DumpReason),
    (∀ w : Watermaker, s.turnAway w.source d =
      if (s.source w.source).state = .dumping ∧ (s.source w.source).dumpReason = some d then s
      else (s.updSource w.source fun r => { r with state := .dumping, dumpReason := some d }).report .intake w.source.code 4
        d.code) ∧
    (d = .probeCheck → s.turnAway .shore d = (if s.ir.shore.state = .paused then id else State.report .intake 3 8 0)
      (s.updSource .shore fun r => { r with state := .paused, endReason := none })) ∧
    (d ≠ .probeCheck → ∀ e : EndReason, (d, e) ∈ [(DumpReason.mode, EndReason.mode), (.probeFault, .probeFault),
        (.grade, .grade), (.noRule, .noRule), (.overflow, .overflow), (.mainConflict, .mainConflict)] →
      s.turnAway .shore d = (if s.ir.shore.state = .closed then id else State.report .intake 3 5 e.code)
        (s.updSource .shore fun r => { r with state := .closed, endReason := some e })) ∧
    ∀ e : EndReason, (s.ir.shore.state = .closed → s.endShore e = s) ∧
      (s.ir.shore.state ≠ .closed → s.ir.main.sources.Nodup → s.endShore e =
        (((if s.ir.main.on .shore then s.leaveMain 4 .shore else s.command .shore .a).updSource .shore fun r =>
          { r with state := .closed, endReason := some e, rule := none }).report .intake 3 5 e.code)))

/-- A source that asks for a main in use joins it where its class is the main's and its group holds the heading tank: it is
ROUTING, the shore OPENING, and its outlet opens at once unless the main is OPENING (R84). Otherwise it is turned away with
MAIN_CONFLICT, and with OVERFLOW where the main is UNUSED and no tank of its group can accept (R83); a watermaker that is
DUMPING for that reason already gets no command (R81; DEDUCED, log entry 57). A source that leaves has its outlet closed, a
faulted diverter excepted (R90), and its route absent; the oldest joined source follows a holder, with the heading tank where
it may keep it, and otherwise with a changeover in DELIVERING or the loss of the next tank; with none joined the main is
released (R85). A joined source whose group does not hold a new heading tank leaves with MAIN_CONFLICT (R84). The decisions
that follow a release go out behind the notices in flight (DESIGN CHOICE, log entry 49). The order of the reports is that in
which the rules name the effects (DEDUCED, log entry 40). -/
def Obligations.SourcesJoinAndLeaveTheMain : Prop :=
  ∀ s : State,
    (∀ rt : Route, s.ir.main.state ≠ .unused → s.ir.main.cls = some rt.cls →
      s.ir.main.heading.any (rt.group.contains ·) = true →
      (∀ (w : Watermaker) (y : State),
        y = (if (s.source w.source).state = .routing ∧ (s.source w.source).dumpReason = none then id
            else State.report .intake w.source.code 3 0)
          ((s.updSource w.source fun r =>
            { r with route := some rt, state := .routing, dumpReason := none }).setMainRaw
              { s.ir.main with joined := s.ir.main.joined ++ [w.source] }) →
        s.ask w.source rt = if s.ir.main.state = .opening then y else y.command (.diverter w) .b) ∧
      (∀ y : State,
        y = (if s.ir.shore.state = .opening then id else State.report .intake 3 6 0)
          ((s.updSource .shore fun r => { r with route := some rt, state := .opening, endReason := none }).setMainRaw
            { s.ir.main with joined := s.ir.main.joined ++ [.shore] }) →
        s.ask .shore rt = if s.ir.main.state = .opening then y else y.command .shore .b)) ∧
    (∀ (rt : Route) (d : DumpReason),
      (s.ir.main.state = .unused ∧ s.choose rt.group rt.cls none = none ∧ d = .overflow) ∨
        (s.ir.main.state ≠ .unused ∧ d = .mainConflict ∧
          (s.ir.main.cls ≠ some rt.cls ∨ s.ir.main.heading.any (rt.group.contains ·) = false)) →
      (∀ w : Watermaker, s.ask w.source rt =
        if (s.source w.source).state = .dumping ∧ (s.source w.source).dumpReason = some d then s
        else ((s.updSource w.source fun r => { r with state := .dumping, dumpReason := some d }).report .intake
          w.source.code 4 d.code).command (.diverter w) .a) ∧
      s.ask .shore rt = (if s.ir.shore.state = .closed then id else State.report .intake 3 5 d.shoreEnd.code)
        ((s.command .shore .a).updSource .shore fun r => { r with state := .closed, endReason := some d.shoreEnd })) ∧
    (∀ (x : Source) (y : State),
      y = ((if x ≠ .shore ∧ (s.valve x.outlet).state = .fault then s else s.command x.outlet .a).updSource x fun r =>
        { r with route := none }) →
      (x ∈ s.ir.main.joined →
        s.leaveMain 4 x = y.setMainRaw { s.ir.main with joined := s.ir.main.joined.erase x }) ∧
      (x ∉ s.ir.main.joined → s.ir.main.holder = some x →
        (s.ir.main.joined = [] → ∀ a : State,
          a = (s.ir.main.next.elim id fun t => State.command (.tank t .intake) .a)
            ((s.ir.main.current.elim id fun t => State.command (.tank t .intake) .a) y) → ∀ b : State,
          b = (s.ir.main.current.elim a fun t => a.updTank t fun r =>
            { r with entries := r.entries.filter fun z => decide (z.entrant ≠ .intake) }) →
          s.leaveMain 4 x = ((if s.ir.main.state = .unused ∧ s.ir.main.current = none ∧ s.ir.main.next = none then id
            else State.report .intake 0 0x13 0) (b.setMainRaw ProductMain.unused)).emit .decide) ∧
        (∀ h ∈ s.ir.main.joined.head?, ∀ z : State,
          z = y.setMainRaw { s.ir.main with holder := some h, joined := s.ir.main.joined.tail } →
          ∀ c, s.ir.main.cls = some c → ∀ kept : Bool,
          kept = (s.ir.main.heading.any fun t => (z.groupOf h).contains t && z.canAccept c t) →
          (kept = true → s.leaveMain 4 x = z) ∧
          (kept = false → ∀ q : State × Bool,
            q = (if s.ir.main.state = .delivering then
                (((z.groupOf h).find? fun t => decide (some t ≠ s.ir.main.current) && z.canAccept c t).elim (z, false)
                  fun t => (z.headFor t .changing, true))
              else z.loseNext) →
            s.leaveMain 4 x = if q.2 then q.1 else (q.1.leaveMain 3 h).turnAway h .overflow)))) ∧
    (∀ (t : TankIx) (st : MainState) (y : State), st ≠ .unused →
      y = ((if s.ir.main.state = st ∧ s.ir.main.next = some t then id else State.report .intake 0 0x13 (tankCode t))
        (s.setMainRaw { s.ir.main with state := st, next := some t })).command (.tank t .intake) .b →
      ((∀ x ∈ s.ir.main.joined, t ∈ s.groupOf x) → s.headFor t st = y) ∧
      (∀ x, s.ir.main.joined = [x] → t ∉ s.groupOf x → s.headFor t st =
        ((((if x ≠ .shore ∧ (y.valve x.outlet).state = .fault then y else y.command x.outlet .a).updSource x fun r =>
          { r with route := none }).setMainRaw { y.ir.main with joined := [] }).turnAway x .mainConflict)))

/-- The main's handling of its tanks. In DELIVERING a current tank that ceases to be able to accept, its class and its
valve's fault apart, brings the changeover to the first tank of the holder's group that can accept; without one the holder
leaves with OVERFLOW (R86). A next tank that can no longer accept, whose valve fails or whose entry conflicts is lost: its
valve is closed, and in CHANGING a current tank that can accept is kept, and otherwise the first tank of the group is taken,
or the holder leaves with OVERFLOW (R87). The next tank's answer at OPEN brings its entry notice, and then the delivery or
the end of the changeover (R83, R86). A conflict for the main's entry, a class that the current tank no longer admits and a
fault of its valve interrupt the flow: the outlets close, the entry ends, and the main is OPENING again (R88; of the shore's
states FILLING alone, DEDUCED, log entry 30). Decisions follow each notice (R81). A tank lost and replaced in one event gives
one MAIN report (DESIGN CHOICE, log entry 43). That the notices about a tank bring this handling and then the decisions is in
NoticesReachTheBlocks. -/
def Obligations.TheMainChangesItsTanks : Prop :=
  ∀ s : State, ∀ c, s.ir.main.cls = some c → ∀ h, s.ir.main.holder = some h →
    (∀ t, s.ir.main.current = some t → classAdmits (s.tank t) c = true → s.ir.main.state = .delivering →
      s.ir.main.next = none → s.intakeReady t = false → s.mainOnTank t =
        (((s.groupOf h).find? fun u => decide (u ≠ t) && s.canAccept c u).elim ((s.leaveMain 4 h).turnAway h .overflow)
          fun u => s.headFor u .changing)) ∧
    (∀ t, s.ir.main.next = some t → ∀ y : State,
      y = (if (s.valve (.tank t .intake)).state = .fault then s else s.command (.tank t .intake) .a) →
      ∀ lost : State, lost = State.orOverflow s.loseNext →
      (s.ir.main.state = .changing → ∀ u, s.ir.main.current = some u → y.canAccept c u = true → lost =
        ((y.setMainRaw { s.ir.main with state := .delivering, next := none }).report .intake 0 0x13 (tankCode u)).shedJoined) ∧
      (s.ir.main.state ≠ .changing ∨ s.ir.main.current.any (y.canAccept c) = false → lost =
        (((s.groupOf h).find? fun u => decide (some u ≠ s.ir.main.current) && y.canAccept c u).elim
          (((y.setMainRaw { s.ir.main with next := none }).leaveMain 4 h).turnAway h .overflow)
          fun u => y.headFor u s.ir.main.state)) ∧
      (s.canAccept c t = false → s.ir.main.current ≠ some t → s.mainOnTank t = lost) ∧
      (∀ f, s.take (.valve (.tank t .intake) (.failed f)) = lost.decideAll) ∧
      (∀ e, e = s.entryNotice t .intake c →
        (e.1 = .conflict → s.take (.valve (.tank t .intake) .atB) =
          (State.orOverflow (s.setMainRaw { s.ir.main with refused := s.ir.main.refused ++ [t] }).loseNext).decideAll) ∧
        (e.1 ≠ .conflict → s.ir.main.state = .changing → ∀ u, s.ir.main.current = some u → u ≠ t →
          s.take (.valve (.tank t .intake) .atB) =
            ((((e.2.command (.tank u .intake) .a).entryEnd u .intake).setMainRaw
              { s.ir.main with state := .delivering, current := some t, next := none }).report .intake 0 0x13
                (tankCode t)).decideAll) ∧
        (e.1 ≠ .conflict → s.ir.main.state = .opening → s.take (.valve (.tank t .intake) .atB) =
          (s.ir.main.sources.foldl (fun (s : State) x => s.command x.outlet .b)
            ((e.2.setMainRaw { s.ir.main with state := .delivering, current := some t, next := none }).report .intake 0
              0x13 (tankCode t))).decideAll))) ∧
    (∀ t, s.ir.main.current = some t → ∀ y : State,
      y = (s.ir.main.sources.foldl (fun (s : State) x =>
        if x = .shore then
          (if s.ir.shore.state = .filling then
            ((s.command .shore .a).updSource .shore fun r => { r with state := .opening, endReason := none }).report .intake 3
              6 0
          else s)
        else if (s.valve x.outlet).state = .fault then s else s.command x.outlet .a) s) → ∀ z : State,
      z = (((if (y.valve (.tank t .intake)).state = .fault then y else y.command (.tank t .intake) .a).entryEnd t
        .intake).setMainRaw { s.ir.main with state := .opening, current := none }) →
      ∀ u : State, u = (match s.ir.main.next with
        | some n => z.report .intake 0 0x13 (tankCode n)
        | none => ((s.groupOf h).find? (z.canAccept c)).elim ((z.leaveMain 4 h).turnAway h .overflow)
            fun n => z.headFor n .opening) →
      s.take (.conflict t .intake) = u.decideAll ∧
      (classAdmits (s.tank t) c = false → s.mainOnTank t = u) ∧
      (s.ir.main.next ≠ some t → ∀ f, s.take (.valve (.tank t .intake) (.failed f)) = u.decideAll)) ∧
    (∀ t : TankIx, s.ir.main.current ≠ some t → s.ir.main.next ≠ some t → s.mainOnTank t = s) ∧
    (∀ t : TankIx, s.ir.main.current ≠ some t → s.take (.conflict t .intake) = s.decideAll) ∧
    (∀ t : TankIx, s.ir.main.next ≠ some t → s.take (.valve (.tank t .intake) .atB) = s.decideAll)

/-- PROBE_CHECK records the end of the check 20 s ahead, and one in flight on the same source is refused with BUSY (R93). At
its end the result is PASS when the last sample of the check lies within the tolerance of the reference, and FAIL otherwise
or when there was none; it sets the probe status, is reported, and decisions follow (R94). A conductivity sample is limited
to 9999 and stored. A worse sample than the grade takes the grade at once; an equal one ends the run; a better one counts,
and the K-th in a row raises the grade to the worst of the run. A change is reported and brings decisions. During a probe
check samples are not graded (R73). -/
def Obligations.ProbeChecksAndSamplesAreTaken : Prop :=
  (∀ (s : State) (x : Source),
    (∀ tag : Byte, s.ready →
      ((s.source x).check.isSome → exec (.probeCheck tag (u8 x.code)) s =
        .next (s.answered 0x37 tag (u8 x.code) .busy []).deliver) ∧
      ((s.source x).check = none → exec (.probeCheck tag (u8 x.code)) s =
        .next ((s.updSource x fun r =>
          { r with check := some (after s.clock 200), checkSample := none }).decideAll.answered 0x37 tag (u8 x.code) .ok
            []).deliver)) ∧
    (s.power = .on → (s.source x).check.isSome →
      (∀ v, (s.source x).checkSample = some v → ∀ pass : Bool,
        (pass = true ↔ (s.source x).settings.probeReference ≤ v + (s.source x).settings.probeTolerance ∧
          v ≤ (s.source x).settings.probeReference + (s.source x).settings.probeTolerance) →
        exec (.probeCheckEnd x) s = .next (((s.updSource x fun r =>
          { r with check := none, checkSample := none, probeOk := pass }).report .probe x.code (if pass then 1 else 2)
            v).decideAll).deliver) ∧
      ((s.source x).checkSample = none →
        exec (.probeCheckEnd x) s = .next (((s.updSource x fun r =>
          { r with check := none, checkSample := none, probeOk := false }).report .probe x.code 2 10000).decideAll).deliver))) ∧
  (∀ (s : State) (x : Source) (value v : Nat) (g : Grade) (w : Grade), s.power = .on → s.mode ≠ .start →
    v = min value 9999 →
    g = (if v ≤ (s.source x).settings.goodLimit then .good
      else if v ≤ (s.source x).settings.fairLimit then .fair else .bad) →
    w = ((s.source x).worst.elim g fun b => if b.worse g then b else g) →
    ((s.source x).check.isSome → exec (.conductivitySample x value) s = .next
      (s.updSource x fun r => { r with last := some v, checkSample := some v }).deliver) ∧
    ((s.source x).check = none →
      (g = (s.source x).grade → exec (.conductivitySample x value) s = .next
        (s.updSource x fun r => { r with last := some v, counter := 0, worst := none }).deliver) ∧
      (g.worse (s.source x).grade = true → exec (.conductivitySample x value) s = .next
        (((s.updSource x fun r => { r with last := some v, grade := g, counter := 0, worst := none }).report .intake x.code
          0x10 g.code).decideAll).deliver) ∧
      ((s.source x).grade.worse g = true → (s.source x).counter + 1 < (s.source x).settings.improvement →
        exec (.conductivitySample x value) s = .next
          (s.updSource x fun r => { r with last := some v, counter := r.counter + 1, worst := some w }).deliver) ∧
      ((s.source x).grade.worse g = true → (s.source x).settings.improvement ≤ (s.source x).counter + 1 →
        w ≠ (s.source x).grade → exec (.conductivitySample x value) s = .next
          (((s.updSource x fun r => { r with last := some v, grade := w, counter := 0, worst := none }).report .intake
            x.code 0x10 w.code).decideAll).deliver)))

/-- A rise of the run signal in STOPPED begins the flush with grade BAD and the diverter commanded to DUMP, and where that
changes the grade, decisions follow for every source (R81); a fall stops the source, which leaves the main or has its
diverter commanded to DUMP. In any other state the signal is only stored (R74). That no rule is in force after the fall is
DEDUCED (log entry 21), and so is the order of the state and grade reports of the rise (log entry 40). A source pulse counts
into one totalizer (R96): for a watermaker the produced one while its diverter is AT_B and the dumped one otherwise; for the
shore the produced one while FILLING and none otherwise. A pulse adds 100 to the residue and a litre for each whole factor it
holds, so n pulses at one factor count the floor of n times 100 over it; the totalizer returns to 0 after 4,294,967,295. In
START the router takes no samples, and a pulse changes nothing (R72). -/
def Obligations.RunSignalsAndPulsesAreTaken : Prop :=
  (∀ (s x : State) (w : Watermaker) (on : Bool), s.power = .on → s.mode ≠ .start → s.pins.maker w ≠ on →
    x = { s with pins := s.pins.setMaker w on } →
    (on = true → (s.source w.source).state = .stopped → ∀ y : State, y =
      (((if (s.source w.source).grade = .bad then id else State.report .intake w.source.code 0x10 3)
        ((x.updSource w.source fun r =>
          { r with state := .flushing, dumpReason := none, grade := .bad, counter := 0, worst := none,
                   flush := some (after s.clock (r.settings.flushTime * 10)) }).report .intake w.source.code 2 0)).command
            (.diverter w) .a) →
      x.makerRise w = (if (s.source w.source).grade = .bad then y else y.decideAll) ∧
      exec (.runSignal w on) s = .next (if (s.source w.source).grade = .bad then y else y.decideAll).deliver) ∧
    (on = true → (s.source w.source).state ≠ .stopped →
      x.makerRise w = x ∧ exec (.runSignal w on) s = .next x.deliver) ∧
    (on = false → (s.source w.source).state ∈ [.flushing, .routing, .dumping] → ∀ y : State,
      y = ((x.updSource w.source fun r =>
        { r with state := .stopped, dumpReason := none, flush := none, dump := none, rule := none }).report .intake
          w.source.code 1 0) →
      exec (.runSignal w on) s = .next
        (if s.ir.main.on w.source then y.leaveMain 4 w.source else y.command (.diverter w) .a).deliver) ∧
    (on = false → (s.source w.source).state ∉ [.flushing, .routing, .dumping] → exec (.runSignal w on) s = .next x.deliver)) ∧
  (∀ (s : State) (x : Source) (p q : Nat × Nat), s.power = .on →
    p = countPulse (s.source x).settings.meterFactor ((s.source x).produced, (s.source x).producedResidue) →
    q = countPulse (s.source x).settings.meterFactor ((s.source x).dumped, (s.source x).dumpedResidue) →
    (s.mode = .start → exec (.sourcePulse x) s = .next s.deliver) ∧
    ((if x = .shore then s.ir.shore.state = .filling else (s.valve x.outlet).state = .atB) → s.mode ≠ .start →
      exec (.sourcePulse x) s = .next
        (s.updSource x fun r => { r with produced := p.1, producedResidue := p.2 }).deliver) ∧
    (x ≠ .shore → (s.valve x.outlet).state ≠ .atB → s.mode ≠ .start →
      exec (.sourcePulse x) s = .next (s.updSource x fun r => { r with dumped := q.1, dumpedResidue := q.2 }).deliver) ∧
    (x = .shore → s.ir.shore.state ≠ .filling → exec (.sourcePulse x) s = .next s.deliver)) ∧
  (∀ factor total residue : Nat, 0 < factor →
    (countPulse factor (total, residue)).2 < factor ∧
    ∃ litres, litres * factor + (countPulse factor (total, residue)).2 = residue + 100 ∧
      (countPulse factor (total, residue)).1 = (total + litres) % 4294967296) ∧
  (∀ (factor total residue : Nat) (count : Nat → Nat × Nat), residue < factor → total ≤ 4294967295 →
    count 0 = (total, residue) → (∀ n, count (n + 1) = countPulse factor (count n)) →
    ∀ n, count n = ((total + (residue + n * 100) / factor) % 4294967296, (residue + n * 100) % factor))

/-! ### Orders and transfer channels (chapters 5 and 6) -/

/-- ORDER_SUBMIT: the seven checks of R102 in their order, the structural check of every leg among them, and an accepted
order placed last in age order with the state of R103, its report, and the reply. The sequence counter rises by 1; at its
greatest value the orders held are first renumbered (R98). The arbiter then runs over the store with the new order in it
(R103, R119; TheArbiterGivesTheFirstEligibleOrder says what it does); where no channel is free the order waits. The reply
gives the number of orders held. -/
def Obligations.OrdersAreSubmitted : Prop :=
  (∀ (s : State) (tag : Byte) (p : List Byte), s.ready →
    (payloadSizeOk 0x40 p = false → exec (.orderSubmit tag p) s = .next (s.answered 0x40 tag p .badLength []).deliver) ∧
    (payloadSizeOk 0x40 p = true →
      (s.mode.working = false → exec (.orderSubmit tag p) s = .next (s.answered 0x40 tag p .modeConflict []).deliver) ∧
      (s.mode.working = true → 16 ≤ s.te.orders.length →
        exec (.orderSubmit tag p) s = .next (s.answered 0x40 tag p .storeFull []).deliver) ∧
      (s.mode.working = true → s.te.orders.length < 16 → u16At p 0 = 0 →
        exec (.orderSubmit tag p) s = .next (s.answered 0x40 tag p .badValue []).deliver) ∧
      (s.mode.working = true → s.te.orders.length < 16 → u16At p 0 ≠ 0 → (s.order (u16At p 0)).isSome →
        exec (.orderSubmit tag p) s = .next (s.answered 0x40 tag p .idInUse []).deliver) ∧
      (s.mode.working = true → s.te.orders.length < 16 → u16At p 0 ≠ 0 → s.order (u16At p 0) = none →
        (3 < byteAt p 2 ∨ byteAt p 3 ∉ [Policy.abandon.code, Policy.skip.code] ∨
          ∃ k, k < byteAt p 4 ∧ ∃ source dest condition volume, source = byteAt p (5 + 7 * k) ∧
            dest = byteAt p (6 + 7 * k) ∧ condition = byteAt p (7 + 7 * k) ∧ volume = u32At p (8 + 7 * k) ∧
            ((source = 0 ∨ 12 < source) ∨ ((dest = 0 ∨ 12 < dest) ∧ dest ≠ 255) ∨ source = dest ∨
              (condition = 0 ∨ 3 < condition) ∨ (volume = 0 ∨ 99999 < volume) ∨
              (condition = EndCondition.fill.code ∧ dest = 255))) →
        exec (.orderSubmit tag p) s = .next (s.answered 0x40 tag p .badValue []).deliver))) ∧
  (∀ (s : State) (tag : Byte) (id priority : Nat) (policy : Policy) (legs : List Leg) (p : List Byte), s.ready →
      p = submitPayload id priority policy legs → id < 65536 → priority ≤ 3 → 1 ≤ legs.length → legs.length ≤ 8 →
      (∀ l ∈ legs, l.submitted) →
      (s.mode.working = true → s.te.orders.length < 16 → id ≠ 0 → s.order id = none →
        (∃ l ∈ legs, ∃ t ∈ l.tanks, (s.tank t).service = .undefined) →
        exec (.orderSubmit tag p) s = .next (s.answered 0x40 tag p .noSuchTank []).deliver) ∧
      (s.mode.working = true → s.te.orders.length < 16 → id ≠ 0 → s.order id = none →
        (∀ l ∈ legs, ∀ t ∈ l.tanks, (s.tank t).service ≠ .undefined) →
        ∀ (held : List Order) (n : Nat) (x : State),
          (s.te.sequence < 4294967295 → held = s.te.orders ∧ n = s.te.sequence) →
          (4294967295 ≤ s.te.sequence →
            held = s.te.orders.zipIdx.map (fun y => { y.1 with sequence := y.2 + 1 }) ∧ n = s.te.orders.length + 1) →
          x = ({ s with te := { s.te with
            orders := held ++ [Order.mk id priority policy legs .pending 1 n false false none],
            sequence := n + 1 } }).report .order id 1 16777216 →
          (∃ u, exec (.orderSubmit tag p) s = .next u ∧
            (x.answered 0x40 tag p .ok (u16 id ++ u8 (s.te.orders.length + 1))).standsIn u) ∧
          exec (.orderSubmit tag p) s = .next
            (x.arbitrate.answered 0x40 tag p .ok (u16 id ++ u8 (s.te.orders.length + 1))).deliver ∧
          (s.te.tc1.state ≠ .idle → s.te.tc2.state ≠ .idle → exec (.orderSubmit tag p) s = .next
            (({ x with te := { x.te with guardPassed := false } }).answered 0x40 tag p .ok
              (u16 id ++ u8 (s.te.orders.length + 1))).deliver)))

/-- A free channel takes the first order whose current leg is eligible, by priority and then by age, and none where there is
none (R120, R121; the guard is tested before the claims, DESIGN CHOICE, log entry 45). The order is ACTIVE on the
channel with its reports and the tanks are claimed (R105, R122). The start checks are those of R123, in its order; a leg
that fails one ends with that result: no valve moves, and the end is handed on (R123, R106, R136). Otherwise the run
begins: the settings, the moved figure and the sign of M are taken, and both valves are commanded OPEN (R124; in which
order, and that the evaluation follows, are DESIGN CHOICES, log entries 39 and 46). An arbitration passes over TC1 and
then TC2, and over them again until a pass gives neither an order (R120; each pass before makes a channel BUSY or ends a
leg, so that the model's bound, a pass for each leg and three more, is enough); outside RUN, HARBOUR and COMMISSION it
gives none (R119). It ends after one order where no other channel is free or no other order waits. The guard holds back
a raising leg that is no BALANCE leg, by the limit, or by the limit less the hysteresis for an order on the guard list.
The guard, the sign at the start, the check for WRONG_WAY and the evaluation on entry read M, and the start checks the
gauge states, as last told to the Transfer Engine (DEDUCED, log entry 44). -/
def Obligations.TheArbiterGivesTheFirstEligibleOrder : Prop :=
  (∀ (s : State) (c : Channel), s.storeLaw → (∀ o ∈ s.te.orders, o.priority ≤ 3) → (s.chan c).state = .idle →
    ((∀ o ∈ s.te.orders, o.state = .pending → s.eligibleLeg c o = false) →
      s.tryGive c = (s.afterWeighing fun o => decide (o.state = .pending), false)) ∧
    ∀ o ∈ s.te.orders, o.state = .pending → s.eligibleLeg c o = true →
      (∀ x ∈ s.te.orders, s.weighedBefore o x → s.eligibleLeg c x = false) → ∀ l, o.leg = some l → ∀ y : State,
      y = s.afterWeighing (fun x => decide (s.weighedBefore o x ∨ x.id = o.id)) → ∀ g : State,
      g = ((((l.tanks.foldl (fun (s : State) t => s.updTank t fun r => { r with claim := some c }) y).updOrder o.id fun z =>
        { z with state := .active, channel := some c }).report .order o.id 2 (o.current * 16777216 + c.code)).updChan c fun r =>
          { r with state := .busy, order := some (o.id, o.current), claims := l.tanks }).report .channel c.code 2 o.id →
      (∀ r, s.startCheck c l = some r → s.tryGive c = (g.legHandedOn c o r, true)) ∧
      (s.startCheck c l = none → ∀ b : State,
        b = (((g.updOrder o.id fun z => { z with legs := z.legs.modify (o.current - 1) fun l =>
          { l with runs := min (l.runs + 1) 255, lastChannel := some c } }).updChan c fun r =>
            { r with phase := some .liningUp, runFactor := some r.meterFactor, runNoFlow := some r.noFlowTime,
                     movedAtStart := l.moved, runPulses := 0, signAtStart := some (MomentSign.of s.told.moment),
                     lined := some ⟨c.suction l.source, .none, l.delivery c, .none⟩ }).command (c.suction l.source)
              .b).command (l.delivery c) .b →
        ∀ x : State, x = (if l.condition = .balance ∧ s.told.moment.natAbs ≤ s.tt.mHys then b.stopRun c (.result .complete) else b) →
        s.tryGive c = (x, true) ∧
        (s.mode.working = true → s.te.guardPassed = false →
          (s.chan c.other).state ≠ .idle ∨ (c = .tc1 ∧ ∀ z ∈ s.te.orders, z.state = .pending → z.id = o.id) →
          ∀ passed : Bool, ({ s with te := { s.te with guardPassed := passed } }).arbitrate = x))) ∧
  (∀ (s : State) (id : Nat) (l : Leg),
    (s.guardHolds id l = true ↔ l.condition ≠ .balance ∧ 0 < s.effect l * s.told.moment ∧ 0 < s.tt.mLim ∧
      (if s.te.guardList.contains id then s.tt.mLim - s.tt.mHys < s.told.moment.natAbs
        else s.tt.mLim < s.told.moment.natAbs)) ∧
    ∀ d, (s.tank l.source).defn = some d → (l.dest = .overboard → s.effect l = 0 - d.arm) ∧
      ∀ t, l.destTank = some t → ∀ e, (s.tank t).defn = some e → s.effect l = e.arm - d.arm) ∧
  (∀ (s : State) (c : Channel) (l : Leg), s.startCheck c l =
    if ¬((s.tank l.source).service = .inService ∧ (s.tank l.source).defn.any (·.perms.transferFrom) = true) ∨
        l.destTank.any (fun t => !(decide ((s.tank t).service = .inService) &&
          (s.tank t).defn.any (·.perms.transferTo))) = true then some .tankUnavailable
    else if s.toldGauge .te l.source ≠ some .valid ∨
        l.destTank.any (fun t => decide (s.toldGauge .te t ≠ some .valid)) = true then some .gaugeNotValid
    else if l.dest = .overboard ∧ s.mode = .harbour then some .modeForbids
    else if l.destTank.any (fun t => !(s.tank t).empty &&
        decide ((s.tank t).cls.code < (s.tank l.source).cls.code)) = true then some .classConflict
    else if (s.tank l.source).states.ll = .below then some .sourceEmpty
    else if l.destTank.any (fun t => decide ((s.tank t).states.hh = .above)) = true then some .destFull
    else if l.condition = .fill ∧ l.destTank.any (fun t => decide ((s.tank t).states.h = .above)) = true then
      some .complete
    else if l.volume ≤ l.moved then some (if l.condition = .volume then .complete else .maxVolume)
    else if l.condition = .balance ∧ (s.told.moment = 0 ∨ s.effect l = 0 ∨ 0 < s.effect l * s.told.moment) then
      some .wrongWay
    else if (s.valve (c.suction l.source)).state = .fault ∨ (s.valve (l.delivery c)).state = .fault then some .valveFault
    else none) ∧
  (∀ s x : State, x = { s with te := { s.te with guardPassed := false } } →
    (s.mode ∉ [.run, .harbour, .commission] → s.arbitrate = x) ∧
    (s.mode ∈ [.run, .harbour, .commission] →
      s.arbitrate = x.passes ((s.te.orders.map fun (o : Order) => o.legs.length).sum + 3)) ∧
    ∀ one two : State × Bool, one = s.tryGive .tc1 → two = one.1.tryGive .tc2 → ∀ n : Nat,
      s.passes (n + 1) = if one.2 = true ∨ two.2 = true then two.1.passes n else two.1)

/-- An answer at OPEN of a lined valve is recorded; when both valves have given it, the channel enters STARTING and sends its
pump the start command (R125). RUNNING makes the run enter PUMPING (R126): the no-flow timer starts and the Tank Table gets
the entry notice for a destination tank, which R20 answers ADOPTED, KEPT or CONFLICT; on a conflict the run stops with
CLASS_CONFLICT, unless the same event meets TANK_UNAVAILABLE or GAUGE_LOST, which come first (R132; DEDUCED, log entry 38).
Each entry ends with the evaluation of the phase (after the commands: DESIGN CHOICE, log entry 46). -/
def Obligations.RunsAreLinedUpAndStarted : Prop :=
  (∀ (s : State) (c : Channel), s.runOver c.other = none → ∀ l, s.runLeg c = some l → ∀ n, (s.chan c).lined = some n →
    n.suction ≠ n.delivery → n.suction.owner = c.owner → n.delivery.owner = c.owner →
    ((s.chan c).phase = some .liningUp → ∀ first : Bool, ∀ v, v = (if first then n.suction else n.delivery) →
      ∀ other, other = (if first then n.deliveryAnswer else n.suctionAnswer) →
      ∀ x : State, x = (s.updChan c fun r => { r with
        lined := some (if first then { n with suctionAnswer := .opened } else { n with deliveryAnswer := .opened }) }) →
      (other ≠ .opened → s.take (.valve v .atB) = x) ∧
      (other = .opened → ∀ y : State,
        y = ((x.updChan c fun r => { r with phase := some .starting, pumpTold := .starting }).pumpStart c) →
        s.take (.valve v .atB) = y.evaluate c { trips := true } ∧
        ((s.pump c).state = .stopped → (s.pump c).feedback = false →
          y = (x.updChan c fun r => { r with phase := some .starting, pumpTold := .starting }).setPump c
            { s.pump c with run := true, state := .starting, timer := some (after s.clock 50) }))) ∧
    ((s.chan c).phase = some .starting → ∀ t, (s.chan c).runNoFlow = some t → ∀ x : State,
      x = (s.updChan c fun r =>
        { r with pumpTold := .running, phase := some .pumping, noFlow := some (after s.clock (t * 10)) }) →
      (l.dest = .overboard →
        s.take (.pump c .running) = x.evaluate c { trips := true, classes := true, guard := true }) ∧
      ∀ d, l.destTank = some d → ∀ e, e = x.entryNotice d c.entrant (s.tank l.source).cls →
        (e.1 ≠ .conflict → s.take (.pump c .running) =
          (e.2.updChan c fun r => { r with entryMade := true }).evaluate c { trips := true, classes := true, guard := true }) ∧
        (e.1 = .conflict → s.unavailable l.source (·.transferFrom) = false → s.unavailable d (·.transferTo) = false →
          s.gaugeLost .te l.source = false → s.gaugeLost .te d = false →
          s.take (.pump c .running) = x.stopRun c (.result .classConflict)))) ∧
  (∀ (s : State) (t : TankIx) (e : Entrant) (q : QClass),
    ((s.tank t).service ≠ .undefined → (s.tank t).empty = true → (s.tank t).entries = [] → ∀ y : State,
      y = (s.updTank t fun r => { r with cls := q, entries := [⟨e, q, false⟩] }) →
      s.entryNotice t e q = (.adopted, (if q = (s.tank t).cls then y
        else y.report .tank (tankCode t) 1 q.code).tellTank t false .adoption (s.tank t))) ∧
    ((s.tank t).service ≠ .undefined → (s.tank t).empty = false ∨ (s.tank t).entries ≠ [] →
      q.worse (s.tank t).cls = false → s.entryNotice t e q =
        (.kept, s.updTank t fun r => { r with entries := r.entries ++ [⟨e, q, false⟩] })) ∧
    ((s.tank t).service = .undefined ∨ (((s.tank t).empty = false ∨ (s.tank t).entries ≠ []) ∧
      q.worse (s.tank t).cls = true) → s.entryNotice t e q = (.conflict, s)))

/-- In a running phase an evaluation stops the run with the first cause of R132 that holds (R129 to R132, R137; M as the Tank
Table last gave it, log entry 44); a fault of a lined valve stops it with VALVE_FAULT and a fault of the pump with
PUMP_FAULT, which takes the channel out of service (R133). A stop ends the no-flow timer and the entry, stops a pump that is
starting or running and waits for it; where the pump needs no stop, each lined valve that is not in FAULT is commanded CLOSED
at once (R134; the suction valve first, which R134 does not order: DESIGN CHOICE, log entry 39). Which notice brings which
evaluation is in NoticesReachTheBlocks. -/
def Obligations.RunsStopForTheFirstCause : Prop :=
  ∀ (s : State) (c : Channel), ∀ l, s.runLeg c = some l → (s.chan c).running = true →
    (∀ (k : StopCause) (x : State),
      x = ((if (s.chan c).entryMade then (l.destTank.elim s fun t => s.updTank t fun r =>
          { r with entries := r.entries.filter fun y => decide (y.entrant ≠ c.entrant) }) else s).updChan c fun r =>
            { r with stop := some k, phase := some .stopping, noFlow := none, entryMade := false }) →
      ((s.chan c).pumpTold = .starting ∨ (s.chan c).pumpTold = .running →
        s.stopRun c k = (x.updChan c fun r => { r with pumpTold := .stopping }).pumpStop c) ∧
      ((s.chan c).pumpTold = .stopping → s.stopRun c k = x) ∧
      ((s.chan c).pumpTold = .stopped ∨ (s.chan c).pumpTold = .fault → s.stopRun c k =
        ((s.chan c).linedList.filter fun y => decide (y.2 ≠ .fault)).foldl (fun (s : State) y => s.command y.1 .a) x)) ∧
    (∀ e : Evaluation, s.evaluate c e =
      if e.trips = true ∧ (s.unavailable l.source (·.transferFrom) = true ∨
          l.destTank.any (s.unavailable · (·.transferTo)) = true) then s.stopRun c (.result .tankUnavailable)
      else if e.trips = true ∧ (s.gaugeLost .te l.source = true ∨ l.destTank.any (s.gaugeLost .te) = true) then
        s.stopRun c (.result .gaugeLost)
      else if e.conflict = true ∨ (e.classes = true ∧ (l.destTank.any fun t => !(s.tank t).empty &&
          (s.tank l.source).cls.worse (s.tank t).cls) = true) then s.stopRun c (.result .classConflict)
      else if e.trips = true ∧ (l.destTank.any fun t => decide ((s.tank t).states.hh = .above)) = true then
        s.stopRun c (.result .destFull)
      else if e.trips = true ∧ (s.tank l.source).states.ll = .below then s.stopRun c (.result .sourceEmpty)
      else if (l.condition = .volume ∧ l.volume ≤ l.moved) ∨
          (l.condition = .fill ∧ (l.destTank.any fun t => decide ((s.tank t).states.h = .above)) = true) ∨
          (l.condition = .balance ∧ (s.told.moment.natAbs ≤ s.tt.mHys ∨
            (s.chan c).signAtStart ≠ some (MomentSign.of s.told.moment))) then s.stopRun c (.result .complete)
      else if l.condition ≠ .volume ∧ l.volume ≤ l.moved then s.stopRun c (.result .maxVolume)
      else if e.guard = true ∧ (s.chan c).phase = some .pumping ∧ 0 < s.tt.mLim ∧ s.tt.mLim < s.told.moment.natAbs ∧
          0 < s.effect l * s.told.moment then s.stopRun c (.back .guard)
      else s) ∧
    (∀ n, (s.chan c).lined = some n → ∀ o ∈ s.te.orders, (s.chan c).order = some (o.id, o.current) → s.storeLaw →
      s.runOver c.other = none → n.suction.owner = c.owner → n.delivery.owner = c.owner →
      (∀ (v : Valve) (f : ValveFault), v = n.suction ∨ v = n.delivery → s.take (.valve v (.failed f)) =
        ((s.updChan c fun r => { r with lined := some (if v = n.suction then { n with suctionAnswer := .fault }
          else { n with deliveryAnswer := .fault }) }).stopRun c (.result .valveFault)).handedOnIfOver c o
            (.result .valveFault)) ∧
      (∀ (f : PumpFault) (x : State),
        x = (if (s.chan c).state = .busy then
            (s.updChan c fun r => { r with
              pumpTold := .fault, outReason := some .pumpFault, state := .stoppingForOut }).report .channel c.code 3 2
          else s.updChan c fun r => { r with pumpTold := .fault, outReason := some .pumpFault }) →
        (s.chan c).state ≠ .idle → ∀ a ∈ [PumpAnswer.fault f, .refused f], s.take (.pump c a) =
          (x.stopRun c (.result .pumpFault)).handedOnIfOver c o (.result .pumpFault)))

/-- In STOPPING the channel takes the answers of its pump and of its lined valves (R134, R135): the pump's end sends the
lined valves to CLOSED (the suction valve first, which R134 does not order: DESIGN CHOICE, log entry 39), a valve's answer is
recorded, and a fault overtakes a return cause but no result. Once the pump has stopped or failed and every lined valve has
answered at CLOSED or FAULT, the outcome is handed on (R136): the store takes a leg end by R106 and a return by R107, the
claims are released, the channel is IDLE or OUT with its report, and the arbiter runs. FALLBACK overtakes another return
cause. A fault of the pump of an IDLE channel takes it OUT (R133). Where neither run is over, nothing is handed on and the
arbiter does not run. -/
def Obligations.StoppedRunsAreHandedOn : Prop :=
  ∀ (s : State) (c : Channel),
    (s.runOver .tc1 = none → s.runOver .tc2 = none → s.settle = s) ∧
    ((s.chan c).phase = some .stopping → s.runOver c.other = none → s.storeLaw → ∀ n, (s.chan c).lined = some n →
      n.suction.owner = c.owner → n.delivery.owner = c.owner → ∀ k, (s.chan c).stop = some k →
      ∀ o ∈ s.te.orders, (s.chan c).order = some (o.id, o.current) →
      (∀ v : Valve, v = n.suction ∨ v = n.delivery → ∀ k' : StopCause,
        k' = (match k with
          | .result r => .result r
          | .back _ => .result .valveFault) →
        s.take (.valve v .atA) = (s.updChan c fun r => { r with
          lined := some (if v = n.suction then { n with suctionAnswer := .closed }
            else { n with deliveryAnswer := .closed }) }).handedOnIfOver c o k ∧
        ∀ f, s.take (.valve v (.failed f)) = (s.updChan c fun r => { r with
          stop := some k',
          lined := some (if v = n.suction then { n with suctionAnswer := .fault }
            else { n with deliveryAnswer := .fault }) }).handedOnIfOver c o k') ∧
      ((s.chan c).pumpTold ≠ .stopped → (s.chan c).pumpTold ≠ .fault →
        s.take (.pump c .stopped) =
          ((((s.chan c).linedList.filter fun y => decide (y.2 ≠ .fault)).foldl (fun (s : State) y => s.command y.1 .a)
            (s.updChan c fun r => { r with pumpTold := .stopped }))).handedOnIfOver c o k ∧
        ∀ (f : PumpFault) (k' : StopCause),
          k' = (match k with
            | .result r => .result r
            | .back _ => .result .pumpFault) → ∀ x : State,
          x = (if (s.chan c).state = .busy then
              (s.updChan c fun r => { r with
                pumpTold := .fault, outReason := some .pumpFault, stop := some k', state := .stoppingForOut }).report .channel
                  c.code 3 2
            else s.updChan c fun r => { r with pumpTold := .fault, outReason := some .pumpFault, stop := some k' }) →
          (s.chan c).state ≠ .idle → s.take (.pump c (.fault f)) =
            ((((s.chan c).linedList.filter fun y => decide (y.2 ≠ .fault)).foldl (fun (s : State) y => s.command y.1 .a)
              x)).handedOnIfOver c o k')) ∧
    ((s.chan c).phase = some .stopping → ∀ k, (s.chan c).stop = some k → s.channelMode .fallback c =
      s.updChan c fun r => { r with stop := some (match k with
        | .result r => .result r
        | .back _ => .back .fallback) }) ∧
    ((s.chan c).state = .idle → (s.chan c).phase = none → s.settled → ∀ f, s.take (.pump c (.fault f)) =
      (s.updChan c fun r => { r with pumpTold := .fault, outReason := some .pumpFault, state := .out }).report .channel c.code
        4 2)

/-- An order that waits: ORDER_CANCEL ends it at once, with its leg ended CANCELLED if it has run; ORDER_RESUME returns a
HELD one to PENDING; ORDER_REMOVE frees the slot of a finished one. An unknown id and a state that does not fit are refused
(R108, R110, R111). -/
def Obligations.WaitingOrdersFollowTheirRequests : Prop :=
  ∀ (s : State) (tag : Byte) (id : Nat) (p : List Byte), s.ready → id < 65536 → p = u16 id →
    (s.order id = none →
      exec (.orderCancel tag p) s = .next (s.answered 0x41 tag p .noSuchOrder []).deliver ∧
      exec (.orderRemove tag p) s = .next (s.answered 0x44 tag p .noSuchOrder []).deliver ∧
      (s.mode.working = true →
        exec (.orderResume tag p) s = .next (s.answered 0x43 tag p .noSuchOrder []).deliver)) ∧
    (s.mode.working = false →
      exec (.orderResume tag p) s = .next (s.answered 0x43 tag p .modeConflict []).deliver) ∧
    (∀ o, s.order id = some o →
      (o.state.live = false → exec (.orderCancel tag p) s = .next (s.answered 0x41 tag p .wrongState []).deliver) ∧
      (o.state.live = true → exec (.orderRemove tag p) s = .next (s.answered 0x44 tag p .wrongState []).deliver) ∧
      (o.state ≠ .held → s.mode.working = true →
        exec (.orderResume tag p) s = .next (s.answered 0x43 tag p .wrongState []).deliver) ∧
      (o.state.live = false → exec (.orderRemove tag p) s = .next
        (({ s with te := { s.te with orders := s.te.orders.filter fun (y : Order) => decide (y.id ≠ id) } }).answered 0x44 tag p .ok
          (u8 (s.te.orders.filter fun (y : Order) => decide (y.id ≠ id)).length)).deliver) ∧
      (o.state = .held → s.mode.working = true → exec (.orderResume tag p) s = .next
        ((({ s.updOrder id fun y => { y with state := .pending, heldByFallback := false } with
          lu := s.lu.append ⟨.order, id, 1, s.clock, o.current * 16777216⟩ }).arbitrate).answered 0x43 tag p .ok
            []).deliver) ∧
      (o.state = .pending ∨ o.state = .held → s.settled → ∀ x : State,
        x = (if o.leg.any (fun l => decide (0 < l.runs)) = true then
            (s.updOrder id fun y => { y with legs := y.legs.modify (o.current - 1) fun l =>
              { l with result := some .cancelled } }).report .order id LegResult.cancelled.code
                (o.current * 16777216 + min ((o.leg.map (·.moved)).getD 0) 16777215)
          else s) →
        exec (.orderCancel tag p) s = .next
          ((({ x.updOrder id fun y => { y with state := .cancelled, heldByFallback := false } with
            lu := x.lu.append ⟨.order, id, 6, s.clock, o.current * 16777216⟩,
            te := { (x.updOrder id fun y => { y with state := .cancelled, heldByFallback := false }).te with
              guardList := s.te.guardList.filter (· ≠ id) } })).answered 0x41 tag p .ok
                (u8 6 ++ mark o.cancelRequested)).deliver))

/-- STOP_ALL takes every live order: those that wait are CANCELLED at once, those that run have the cancel-requested mark,
and the reply counts both. No order waits afterwards (R109). That the reply counts an order whose run ends in this same step
as ACTIVE rests on R176 and is DEDUCED (log entry 27). -/
def Obligations.StopAllCancelsEveryOrder : Prop :=
  ∀ (s : State) (tag : Byte), s.ready → s.storeLaw → s.runLaw →
    ∃ u, exec (.stopAll tag []) s = .next u ∧
      (({ s with te := { s.te with orders := s.te.orders.map fun (o : Order) =>
          if o.state = OrderState.active then { o with cancelRequested := true } else o } }).answered 0x42 tag [] .ok
        (u8 (s.te.orders.filter fun (o : Order) => decide (o.state = OrderState.pending ∨ o.state = OrderState.held)).length ++
          u8 (s.te.orders.filter fun (o : Order) => decide (o.state = OrderState.active)).length)).standsIn u ∧
      ∀ o ∈ u.te.orders, o.state.live = true → o.state = .active ∧ o.cancelRequested = true

/-- CHANNEL_OUT takes an IDLE channel OUT at once and a BUSY one that is stopping to STOPPING_FOR_OUT, and leaves one that is
going out or OUT (R138). CHANNEL_IN returns an OUT channel to IDLE and the arbiter runs; it is refused with BUSY in
STOPPING_FOR_OUT and with FAULT_PRESENT while the pump is in FAULT (R139). -/
def Obligations.ChannelsGoOutAndComeBack : Prop :=
  ∀ (s : State) (tag : Byte) (c : Channel) (p : List Byte), s.ready → p = u8 c.code →
    ((s.chan c).state = .idle → exec (.channelOut tag p) s = .next
      (((s.updChan c fun r => { r with state := .out, outReason := some .host }).report .channel c.code
        ChannelState.out.code 1).answered 0x49 tag p .ok (u8 ChannelState.out.code)).deliver) ∧
    ((s.chan c).state = .busy → (s.chan c).running = false → exec (.channelOut tag p) s = .next
      (((s.updChan c fun r => { r with state := .stoppingForOut, outReason := some .host }).report .channel c.code
        ChannelState.stoppingForOut.code 1).answered 0x49 tag p .ok (u8 ChannelState.stoppingForOut.code)).deliver) ∧
    ((s.chan c).state = .stoppingForOut ∨ (s.chan c).state = .out → exec (.channelOut tag p) s = .next
      (s.answered 0x49 tag p .ok (u8 (s.chan c).state.code)).deliver) ∧
    ((s.chan c).state = .stoppingForOut →
      exec (.channelIn tag p) s = .next (s.answered 0x4A tag p .busy []).deliver) ∧
    ((s.chan c).state ≠ .stoppingForOut → (s.pump c).state = .fault →
      exec (.channelIn tag p) s = .next (s.answered 0x4A tag p .faultPresent []).deliver) ∧
    ((s.chan c).state = .idle ∨ (s.chan c).state = .busy → (s.pump c).state ≠ .fault →
      exec (.channelIn tag p) s = .next (s.answered 0x4A tag p .ok (u8 (s.chan c).state.code)).deliver) ∧
    ((s.chan c).state = .out → (s.pump c).state ≠ .fault → ∀ x : State,
      x = ((s.updChan c fun r => { r with state := .idle, outReason := none }).report .channel c.code
        ChannelState.idle.code 0).arbitrate →
      exec (.channelIn tag p) s = .next (x.answered 0x4A tag p .ok (u8 (x.chan c).state.code)).deliver)

/-- A channel's pulse counts into its totalizer at the meter factor, or at the run's own while a run is on (100 to the
residue, a litre for each whole factor it holds, 0 after 4,294,967,295), and into the leg: the moved figure is that at the
start of the run plus 100 L for each factor of run pulses. A pumping VOLUME leg goes on with the no-flow timer restarted
while its volume is not reached, and stops with COMPLETE when it is (R127 to R129). A pumping run stops at once: for NO_FLOW
when its no-flow timer expires (R128), for CHANNEL_OUT when its channel is taken out of service, which is then
STOPPING_FOR_OUT (R138), and with CANCELLED when its order is cancelled, which stays ACTIVE with the mark set until the stop
is over (R108, R134). The same holds of a run in any running phase, and a run that is over at once is handed on before the
arbiter runs (R134, R136). In LINING_UP, where the pump needs no stop, the lined valves are commanded CLOSED at once (the
suction valve first: DESIGN CHOICE, log entry 39); in STARTING the pump is commanded to stop, with its 10 s timer, and stops
at once where it gives no feedback (R67, R68); the valves wait for its answer. -/
def Obligations.ChannelPulsesAndStopsAreTaken : Prop :=
  (∀ (s : State) (c : Channel), s.power = .on →
    ((s.chan c).phase = none → ∀ q : Nat × Nat,
      q = countPulse (s.chan c).meterFactor ((s.chan c).totalizer, (s.chan c).residue) →
      exec (.channelPulse c) s = .next (s.updChan c fun r => { r with totalizer := q.1, residue := q.2 }).deliver) ∧
    (∀ (id k f moved : Nat) (l : Leg) (q : Nat × Nat),
      (s.chan c).phase.isSome → (s.chan c).order = some (id, k) → s.runLeg c = some l →
      (s.chan c).runFactor = some f → (s.chan c).runPulses < 4294967295 →
      moved = (s.chan c).movedAtStart + ((s.chan c).runPulses + 1) * 100 / f → moved ≤ 4294967295 →
      q = countPulse f ((s.chan c).totalizer, (s.chan c).residue) →
      (∃ u, exec (.channelPulse c) s = .next u ∧
        ((s.updChan c fun r => { r with totalizer := q.1, residue := q.2 }).updLeg id k fun x =>
          { x with moved := moved }).standsIn u) ∧
      (∀ (t : Nat) (x : State), s.pumping c l → l.condition = .volume → (s.chan c).runNoFlow = some t →
        x = ((s.updChan c fun r => { r with
          totalizer := q.1, residue := q.2, runPulses := r.runPulses + 1,
          noFlow := some (after s.clock (t * 10)) }).updLeg id k fun x => { x with moved := moved }) →
        (moved < l.volume → exec (.channelPulse c) s = .next x.deliver) ∧
        (l.volume ≤ moved → exec (.channelPulse c) s = .next
          (x.runStopping c (.result .complete) l.destTank).deliver)))) ∧
  (∀ (s : State) (c : Channel) (l : Leg), s.pumping c l →
    (s.power = .on →
      exec (.noFlow c) s = .next (s.runStopping c (.result .noFlow) l.destTank).deliver) ∧
    (∀ (tag : Byte) (p : List Byte), s.ready → p = u8 c.code → (s.chan c).state = .busy →
      exec (.channelOut tag p) s = .next
        ((((s.updChan c fun r => { r with state := .stoppingForOut, outReason := some .host }).report .channel c.code
          ChannelState.stoppingForOut.code 1).runStopping c (.back .channelOut) l.destTank).answered 0x49 tag p .ok
            (u8 ChannelState.stoppingForOut.code)).deliver) ∧
    (∀ (tag : Byte) (id k : Nat) (o : Order), s.ready → id < 65536 → (s.chan c).order = some (id, k) →
      s.order id = some o → o.state = .active → o.channel = some c → o.cancelRequested = false →
      exec (.orderCancel tag (u16 id)) s = .next
        (((s.updOrder id fun o => { o with cancelRequested := true }).runStopping c (.result .cancelled)
          l.destTank).answered 0x41 tag (u16 id) .ok (u8 2 ++ mark true)).deliver)) ∧
  (∀ (s : State) (c : Channel) (o : Order), s.ready → (s.chan c).running = true → s.runOver c.other = none → s.storeLaw →
    o ∈ s.te.orders → (s.chan c).order = some (o.id, o.current) →
    (∀ (tag : Byte) (p : List Byte) (x : State), p = u8 c.code → (s.chan c).state = .busy →
      x = (((s.updChan c fun r => { r with state := .stoppingForOut, outReason := some .host }).report .channel c.code
        ChannelState.stoppingForOut.code 1).stopRun c (.back .channelOut)).handedOnIfOver c o (.back .channelOut) →
      exec (.channelOut tag p) s = .next (x.answered 0x49 tag p .ok (u8 (x.chan c).state.code)).deliver) ∧
    (∀ tag : Byte, o.id < 65536 → o.state = .active → o.channel = some c → o.cancelRequested = false →
      exec (.orderCancel tag (u16 o.id)) s = .next
        ((((s.updOrder o.id fun y => { y with cancelRequested := true }).stopRun c (.result .cancelled)).handedOnIfOver c
          { o with cancelRequested := true } (.result .cancelled)).answered 0x41 tag (u16 o.id) .ok
            (u8 2 ++ mark true)).deliver)) ∧
  (∀ (s : State) (c : Channel) (k : StopCause), (s.chan c).entryMade = false → ∀ x : State,
    x = (s.updChan c fun r => { r with stop := some k, phase := some .stopping, noFlow := none }) →
    (∀ n, (s.chan c).phase = some .liningUp → (s.chan c).pumpTold = .stopped → (s.chan c).lined = some n →
      n.suctionAnswer ≠ .fault → n.deliveryAnswer ≠ .fault →
      s.stopRun c k = (x.command n.suction .a).command n.delivery .a) ∧
    ((s.chan c).phase = some .starting → (s.chan c).pumpTold = .starting → (s.pump c).state = .starting → ∀ y : State,
      y = (x.updChan c fun r => { r with pumpTold := .stopping }) →
      ((s.pump c).feedback = true → s.stopRun c k =
        y.setPump c { s.pump c with run := false, state := .stopping, timer := some (after s.clock 100) }) ∧
      ((s.pump c).feedback = false → s.stopRun c k =
        (y.setPump c { s.pump c with run := false, state := .stopped, timer := none }).emit (.pump c .stopped)))) ∧
  (∀ factor total residue : Nat, 0 < factor →
    (countPulse factor (total, residue)).2 < factor ∧
    ∃ litres, litres * factor + (countPulse factor (total, residue)).2 = residue + 100 ∧
      (countPulse factor (total, residue)).1 = (total + litres) % 4294967296)

/-! ### The Supply Selector (chapter 7) -/

/-- DUTY_SET replaces the duty list, which stands, and the selector acts by its state: a current tank that is in the list and
eligible is kept, and in SEARCHING and LOST the first eligible tank of the list becomes the next tank. A current tank that is
not in the list or not eligible brings a changeover with cause DUTY to the first eligible tank other than it, and is kept
where there is none. A next tank that is in the list goes on; another is given up as R152 or R149 gives, over the new list,
with one report (DESIGN CHOICE, log entry 43) and the last reason as it is (DESIGN CHOICE, log entry 54) (R155).
SUPPLY_ADVANCE begins a changeover to the next eligible tank; it is refused with BUSY on the way to a tank, and with
BAD_VALUE where there is no tank to leave or none to go to; its reply gives each tank behind a presence byte (R154, R187;
DEDUCED, log entry 16). -/
def Obligations.SupplyRequestsMoveTheSupply : Prop :=
  ∀ (s : State) (tag : Byte), s.ready →
    (∀ (l : List TankIx) (p : List Byte), s.saving = false → 1 ≤ l.length → l.Nodup → p = listField tankByte l →
      (∃ (u : State) (x : SupplyState), exec (.dutySet tag p) s = .next u ∧
        (({ s with ss := { s.ss with duty := l } }).answered 0x50 tag p .ok (u8 x.code)).standsIn u) ∧
      (∀ t, s.ss.state = .supplying → s.ss.current = some t → t ∈ l → s.eligible t = true →
        exec (.dutySet tag p) s = .next
          (({ s with ss := { s.ss with duty := l } }).answered 0x50 tag p .ok (u8 SupplyState.supplying.code)).deliver) ∧
      (s.ss.state = .searching ∨ s.ss.state = .lost →
        (l.find? s.eligible = none → exec (.dutySet tag p) s = .next
          (({ s with ss := { s.ss with duty := l } }).answered 0x50 tag p .ok (u8 s.ss.state.code)).deliver) ∧
        (∀ t, s.ss.current = none → l.find? s.eligible = some t → exec (.dutySet tag p) s = .next
          (((({ s with ss := { s.ss with duty := l, state := .switching, next := some t } }).command (.tank t .supply)
            .b).report .supply (tankCode t) SupplyState.switching.code
              ((s.ss.last.map SupplyReason.code).getD 0)).answered 0x50 tag p .ok
                (u8 SupplyState.switching.code)).deliver)) ∧
      ∀ y : State, y = { s with ss := { s.ss with duty := l } } →
        ∀ first, first = (fun (out : TankIx) => l.find? fun u => s.eligible u && decide (u ≠ out)) →
        ∀ close, close = (fun (t : TankIx) =>
          if (s.valve (.tank t .supply)).state = .fault then y else y.command (.tank t .supply) .a) →
        ∀ reported, reported = (fun (z : State) => z.report .supply
          (((z.ss.current.or z.ss.next).map tankCode).getD 0) z.ss.state.code ((z.ss.last.map SupplyReason.code).getD 0)) →
        ∀ done : State → Prop, (∀ z, done z ↔
          exec (.dutySet tag p) s = .next (z.answered 0x50 tag p .ok (u8 z.ss.state.code)).deliver) →
        (∀ t, s.ss.state = .supplying ∨ s.ss.state = .lastReserve → s.ss.current = some t →
          ¬(t ∈ l ∧ s.eligible t = true) → done ((first t).elim y fun u =>
            reported (({ y with ss := { y.ss with
              state := .changeover, next := some u, cause := some .duty, last := some .duty } }).command (.tank u .supply)
                .b))) ∧
        (∀ t, s.ss.state = .changeover → s.ss.current = some t → ∀ u, s.ss.next = some u →
          (u ∈ l → done y) ∧
          (u ∉ l → ∀ z : State, z = close u → done ((z.nextEligible u [t]).elim
            (reported { z with ss := { y.ss with
              state := if (s.tank t).states.l = .below then .lastReserve else .supplying, next := none, cause := none } })
            fun n => reported (({ z with ss := { y.ss with next := some n } }).command (.tank n .supply) .b)))) ∧
        (s.ss.state = .switching → ∀ u, s.ss.next = some u →
          (u ∈ l → done y) ∧
          (u ∉ l → ∀ z : State, z = close u → done ((first u).elim
            (reported { z with ss := { y.ss with
              state := if s.ss.established then .lost else .searching, next := none } })
            fun n => reported (({ z with ss := { y.ss with next := some n } }).command (.tank n .supply) .b))))) ∧
    (s.ss.state = .changeover ∨ s.ss.state = .switching →
      exec (.supplyAdvance tag []) s = .next (s.answered 0x51 tag [] .busy []).deliver) ∧
    (s.ss.state = .searching ∨ s.ss.state = .lost →
      exec (.supplyAdvance tag []) s = .next (s.answered 0x51 tag [] .badValue []).deliver) ∧
    (∀ t, s.ss.state = .supplying ∨ s.ss.state = .lastReserve → s.ss.current = some t →
      (s.nextEligible t [] = none →
        exec (.supplyAdvance tag []) s = .next (s.answered 0x51 tag [] .badValue []).deliver) ∧
      (∀ n, s.nextEligible t [] = some n → exec (.supplyAdvance tag []) s = .next
        (((({ s with ss := { s.ss with
            state := .changeover, next := some n, cause := some .advance, last := some .advance } }).command
              (.tank n .supply) .b).report .supply (tankCode t) SupplyState.changeover.code
                SupplyReason.advance.code).answered 0x51 tag [] .ok
                (u8 1 ++ tankByte t ++ u8 1 ++ tankByte n)).deliver))

/-- Each examination of the supply acts by the state, with one report of R147 where the state or a tank changes (R146; one
for all that one event changes, DESIGN CHOICE, log entry 43). SEARCHING and LOST switch to the first eligible tank (R148).
SWITCHING supplies from its tank once its valve has answered at OPEN, and gives up a tank that is no longer eligible (R149).
SUPPLYING and LAST_RESERVE break on a hard reason, the first of the table (R151); a low tank brings a changeover or the last
reserve (R150), and the last reserve ends with eligibility, its own or another's (R153). CHANGEOVER ends with the next
valve's answer, falls back on a hard reason, or gives up its next tank (R152). A tank is eligible by the six conditions of
R145, and the next after a tank is searched from the entry after it round to it. In START nothing is examined (R144). A next
tank that is given up leaves the last reason as it is, also where the changeover ends with it (DESIGN CHOICE, log entry 54).
Of a hard reason and a next tank that is no longer eligible, the hard reason is taken first (DESIGN CHOICE, log entry 51).
Which notices bring an examination is in NoticesReachTheBlocks. -/
def Obligations.TheSupplyIsExamined : Prop :=
  ∀ (s : State) (opened : Option TankIx), s.ss.lawful → ∀ f, f = (fun (out : List TankIx) =>
      s.ss.duty.find? fun t => s.eligible t && !out.contains t) →
    ∀ close, close = (fun (t : TankIx) =>
      if (s.valve (.tank t .supply)).state = .fault then s else s.command (.tank t .supply) .a) →
    ∀ reported, reported = (fun (u : State) => u.report .supply
      (((u.ss.current.or u.ss.next).map tankCode).getD 0) u.ss.state.code ((u.ss.last.map SupplyReason.code).getD 0)) →
    (s.mode = .start → s.examine opened = s) ∧
    (s.mode ≠ .start →
      (s.ss.state = .searching ∨ s.ss.state = .lost →
        s.examine opened = (f []).elim s fun t =>
          reported (({ s with ss := { s.ss with state := .switching, next := some t } }).command (.tank t .supply) .b)) ∧
      (s.ss.state = .switching → ∀ t, s.ss.next = some t →
        (s.eligible t = true → s.examine opened = if opened = some t then
            reported { s with ss := { s.ss with state := .supplying, current := some t, next := none, established := true } }
          else s) ∧
        (s.eligible t = false → ∀ z : State, z = close t → s.examine opened = (f [t]).elim
          (reported { z with ss := { s.ss with state := if s.ss.established then .lost else .searching, next := none } })
          fun u => reported (({ z with ss := { s.ss with next := some u } }).command (.tank u .supply) .b))) ∧
      (s.ss.state = .supplying ∨ s.ss.state = .lastReserve → ∀ t, s.ss.current = some t →
        (∀ r, s.hardReason t = some r → ∀ z : State, z = close t → s.examine opened = (f [t]).elim
          (reported { z with ss := { s.ss with state := .lost, current := none, last := some r } })
          fun u => reported (({ z with ss := { s.ss with
            state := .switching, current := none, next := some u, last := some r } }).command (.tank u .supply) .b)) ∧
        (s.hardReason t = none → ∀ change : TankIx → State, change = (fun u => reported (({ s with ss := { s.ss with
            state := .changeover, next := some u, cause := some .low, last := some .low } }).command (.tank u .supply) .b)) →
          (s.ss.state = .supplying → (s.tank t).states.l ≠ .below → s.examine opened = s) ∧
          (s.ss.state = .supplying → (s.tank t).states.l = .below → s.examine opened = (s.nextEligible t []).elim
            (reported { s with ss := { s.ss with state := .lastReserve, last := some .low } }) change) ∧
          (s.ss.state = .lastReserve → s.eligible t = true →
            s.examine opened = reported { s with ss := { s.ss with state := .supplying } }) ∧
          (s.ss.state = .lastReserve → s.eligible t = false →
            s.examine opened = (s.nextEligible t []).elim s change))) ∧
      (s.ss.state = .changeover → ∀ t, s.ss.current = some t → ∀ u, s.ss.next = some u → u ≠ t →
        (opened = some u → s.eligible u = true → s.examine opened = reported { close t with ss := { s.ss with
          state := .supplying, current := some u, next := none, cause := none, last := s.ss.cause.map SoftReason.reason } }) ∧
        (¬(opened = some u ∧ s.eligible u = true) →
          (∀ r, s.hardReason t = some r → s.examine opened = reported { close t with ss := { s.ss with
            state := .switching, current := none, cause := none, last := some r } }) ∧
          (s.hardReason t = none → s.eligible u = true → s.examine opened = s) ∧
          (s.hardReason t = none → s.eligible u = false → ∀ z : State, z = close u →
            s.examine opened = (s.nextEligible u [t]).elim
              (reported { z with ss := { s.ss with
                state := if (s.tank t).states.l = .below then .lastReserve else .supplying, next := none, cause := none } })
              fun n => if n = u then z else
                reported (({ z with ss := { s.ss with next := some n } }).command (.tank n .supply) .b))))) ∧
    (∀ t : TankIx, s.hardReason t =
      if (s.tank t).cls ≠ .potable then some .cls
      else if s.toldGauge .ss t = some .settling ∨ s.toldGauge .ss t = some .failed then some .gauge
      else if (s.tank t).service = .isolated then some .service
      else if (s.tank t).service ≠ .undefined ∧ (s.tank t).permits (·.supply) = false then some .permission
      else if (s.tank t).service = .undefined then some .removed
      else if (s.tank t).states.ll = .below then some .drawTrip
      else if (s.valve (.tank t .supply)).state = .fault then some .valveFault
      else none) ∧
    (∀ t : TankIx, s.eligible t = true ↔ (s.tank t).service = .inService ∧
      (s.tank t).defn.any (·.perms.supply) = true ∧ (s.tank t).cls = .potable ∧
      (s.toldGauge .ss t = some .valid ∨ s.toldGauge .ss t = some .suspect) ∧ (s.tank t).states.l = .above ∧
      (s.valve (.tank t .supply)).state ≠ .fault) ∧
    (∀ (t : TankIx) (out : List TankIx) (fit : TankIx → Bool),
      (∀ u, fit u = true ↔ s.eligible u = true ∧ u ≠ t ∧ u ∉ out) →
      (t ∉ s.ss.duty → s.nextEligible t out = s.ss.duty.find? fit) ∧
      ∀ a b, s.ss.duty = a ++ t :: b → t ∉ a → s.nextEligible t out = (b ++ a).find? fit)

/-- What each block does with a notice. A tank notice or a gauge notice makes the Intake Router take the tank off the refused
set, handle the main and take its decisions (R81, R82), the Transfer Engine evaluate the channel whose leg names the tank,
hand on runs that are over and arbitrate (R119, R129 to R131, R137), and the Supply Selector examine (R146); each knows the
gauge as told (log entry 44). A tank notice evaluates the class conditions where class or empty flag changed (R131) and the
guard where the tank was redefined (R137). A new M, which the engine then knows, and a BALANCE_SET evaluate end conditions
and guard in both channels, TC1 first (DESIGN CHOICE, log entry 50), and arbitrate where the guard holds an order (R119,
R129, R137). A conflict notice evaluates its channel (R131). A change of mode stops runs (R135, R140), brings sample requests
(R29), returns host valves (R62), and ends the shore, moves the permits (in this order, DEDUCED, log entry 40) and then the
makers, WM1 before WM2 in both (DESIGN CHOICE, log entry 52), before the decisions (R72, R75, R81, R92). Answers of SH and of
a diverter are R89 and R90, those of a supply valve R146. Decisions are taken for WM1, WM2 and SHORE in that order (R81);
those that a release of the main brings go out as a notice of the router to itself (R85; DESIGN CHOICE, log entry 49). -/
def Obligations.NoticesReachTheBlocks : Prop :=
  ∀ (s : State) (d : State → State), (∀ one : Source → State → State,
      (∀ x y, (y.source x).state ∈ [.routing, .dumping, .opening, .filling, .paused] → one x y = y.decideFor x) →
      (∀ x y, (y.source x).state ∉ [.routing, .dumping, .opening, .filling, .paused] → one x y = y) →
      ∀ y, d y = one .shore (one .wm2 (one .wm1 y))) →
    ∀ arbitrateIf : Prop → State → State,
      (∀ p y, p → arbitrateIf p y = y.arbitrate) → (∀ p y, ¬p → arbitrateIf p y = y) →
    (∀ (t : TankIx) (n : TankChange) (u : Block → State),
      (∀ b, (s.tank t).service = .undefined → u b = s.setTold b t none) →
      (∀ b, (s.tank t).service ≠ .undefined → u b = s) →
      s.take (.tank .ir t n) = d ((((u .ir).setMainRaw
        { s.ir.main with refused := s.ir.main.refused.filter fun x => decide (x ≠ t) })).mainOnTank t) ∧
      s.take (.tank .ss t n) = (u .ss).examine none ∧
      ∀ (e : Evaluation) (y z : State), e.trips = true → e.conflict = false → e.guard = n.definition →
        (e.classes = true ↔ n.cls.isSome ∨ n.empty = true) →
        ((∃ l, s.runLeg .tc1 = some l ∧ t ∈ l.tanks) → y = (u .te).evaluate .tc1 e) →
        ((∀ l, s.runLeg .tc1 = some l → t ∉ l.tanks) → y = u .te) →
        ((∃ l, y.runLeg .tc2 = some l ∧ t ∈ l.tanks) → z = y.evaluate .tc2 e) →
        ((∀ l, y.runLeg .tc2 = some l → t ∉ l.tanks) → z = y) →
        s.take (.tank .te t n) = z.settle.arbitrate) ∧
    (∀ (t : TankIx) (g : GaugeState),
      s.take (.gauge .ir t g) = d ((({ s with told := { s.told with ir := s.told.ir.set t (some g) } }.setMainRaw
        { s.ir.main with refused := s.ir.main.refused.filter fun x => decide (x ≠ t) })).mainOnTank t) ∧
      s.take (.gauge .ss t g) = { s with told := { s.told with ss := s.told.ss.set t (some g) } }.examine none ∧
      ∀ y z : State,
        ((∃ l, s.runLeg .tc1 = some l ∧ t ∈ l.tanks) →
          y = { s with told := { s.told with te := s.told.te.set t (some g) } }.evaluate .tc1 { trips := true }) →
        ((∀ l, s.runLeg .tc1 = some l → t ∉ l.tanks) →
          y = { s with told := { s.told with te := s.told.te.set t (some g) } }) →
        ((∃ l, y.runLeg .tc2 = some l ∧ t ∈ l.tanks) → z = y.evaluate .tc2 { trips := true }) →
        ((∀ l, y.runLeg .tc2 = some l → t ∉ l.tanks) → z = y) →
        s.take (.gauge .te t g) = z.settle.arbitrate) ∧
    (∀ (m : Int) (x : State),
      x = (({ s with told := { s.told with moment := m } }.evaluate .tc1 { guard := true }).evaluate .tc2
        { guard := true }).settle →
      s.take (.moment m) = arbitrateIf (x.te.guardList ≠ [] ∨ x.te.guardPassed = true) x ∧
      (s.told.moment = m → s.take .balance = s.take (.moment m))) ∧
    (∀ (t : TankIx) (c : Channel), s.take (.conflict t c.entrant) =
      (s.evaluate c { trips := true, conflict := true }).settle) ∧
    (∀ (old new : Mode) (stop : Channel → State → State),
      (∀ c y, (y.chan c).running = true → new = .fallback → stop c y = y.stopRun c (.back .fallback)) →
      (∀ c y, (y.chan c).running = true → new = .harbour → ∀ l, y.runLeg c = some l →
        (l.dest = .overboard → stop c y = y.stopRun c (.result .modeForbids)) ∧ (l.dest ≠ .overboard → stop c y = y)) →
      (∀ c y, new = .harbour → y.runLeg c = none → stop c y = y) →
      (∀ c y, (y.chan c).running = false → new = .fallback → stop c y = y.updChan c fun r =>
        { r with stop := r.stop.map fun k => match k with
          | .result x => .result x
          | .back _ => .back .fallback }) →
      (∀ c y, (y.chan c).running = false → new ≠ .fallback → stop c y = y) →
      (∀ c y, new ≠ .fallback → new ≠ .harbour → stop c y = y) →
      s.take (.mode .te old new) =
        arbitrateIf (new = .run ∨ new = .harbour ∨ new = .commission) (stop .tc2 (stop .tc1 s)).settle) ∧
    (∀ new : Mode,
      (s.take (.mode .ss .start new) = s.examine none ∧ ∀ old, old ≠ .start → s.take (.mode .ss old new) = s) ∧
      s.take (.mode .au .commission new) = Valve.all.foldl State.returnValve s ∧
      (∀ old, old ≠ .commission → s.take (.mode .au old new) = s) ∧
      (∀ (old : Mode) (t : TankIx), (s.take (.mode .gu old new)).gauge t = (s.gauge t).map fun c =>
        if old = .start then { c with nextScan := s.clock }
        else if old = .layup then { c with nextScan := earlier s.clock c.nextScan (s.clock + 5) } else c) ∧
      ∀ (old : Mode) (x y : State) (rise : Watermaker → State → State),
        (old = .harbour → x =
          ((s.endShore (if new = .fallback then .fallback else .mode)).updatePermit .wm1).updatePermit .wm2) →
        (old ≠ .harbour → x = (s.updatePermit .wm1).updatePermit .wm2) →
        (∀ w z, z.pins.maker w = true → rise w z = z.makerRise w) → (∀ w z, z.pins.maker w = false → rise w z = z) →
        (old = .start → y = rise .wm2 (rise .wm1 x)) → (old ≠ .start → y = x) →
        s.take (.mode .ir old new) = d y) ∧
    (s.ir.shore.state = .opening → s.ir.main.state = .delivering ∨ s.ir.main.state = .changing →
      s.take (.valve .shore .atB) =
        d ((s.updSource .shore fun r => { r with state := .filling, endReason := none }).report .intake 3 7 0)) ∧
    (∀ f : ValveFault, s.take (.valve .shore (.failed f)) = d (s.endShore .valveFault) ∧
      ∀ w : Watermaker, s.take (.valve (.diverter w) (.failed f)) = d (s.inhibit w .diverterFault)) ∧
    (s.take .decide = d s) ∧
    (∀ (t : TankIx) (a : ValveAnswer), s.take (.valve (.tank t .supply) a) =
      s.examine (if a = .atB then some t else none))

/-! ### The Plant Mode Controller (chapter 8) -/

/-- MODE_SET in CONFIGURE, RUN, HARBOUR and FALLBACK: the checks of R160 in their order; the mode in force is answered OK and
kept; any other target is entered with its PLANT report, supervision kept among the supervised modes, started afresh from
FALLBACK and off in LAYUP (R160 to R162, R169). An order that is PENDING, ACTIVE or HELD, a watermaker that is FLUSHING or
ROUTING, and a shore that is not CLOSED block LAYUP (R162). -/
def Obligations.ModesAreSet : Prop :=
  ∀ (s : State) (tag b : Byte), s.ready →
    (s.mode = .commission → exec (.modeSet tag [b]) s = .next (s.answered 0x58 tag [b] .modeConflict []).deliver) ∧
    (s.layupBlocked = true ↔ (∃ o ∈ s.te.orders, o.state ∈ [OrderState.pending, .active, .held]) ∨
      (∃ w : Watermaker, (s.source w.source).state = .flushing ∨ (s.source w.source).state = .routing) ∨
      s.ir.shore.state ≠ .closed) ∧
    (s.mode ≠ .commission → targetAt [b] 0 = none →
      exec (.modeSet tag [b]) s = .next (s.answered 0x58 tag [b] .badValue []).deliver) ∧
    (∀ m : Mode, targetAt [b] 0 = some m → s.mode ≠ .commission →
      (s.mode = .fallback → m = .layup →
        exec (.modeSet tag [b]) s = .next (s.answered 0x58 tag [b] .modeConflict []).deliver) ∧
      (m = .configure → s.anyActive = true →
        exec (.modeSet tag [b]) s = .next (s.answered 0x58 tag [b] .ordersActive []).deliver) ∧
      (s.mode ∈ [.configure, .run, .harbour] → m = .layup → s.layupBlocked = true →
        exec (.modeSet tag [b]) s = .next (s.answered 0x58 tag [b] .layupBlocked []).deliver) ∧
      (s.mode = m → (m = .configure → s.anyActive = false) →
        exec (.modeSet tag [b]) s = .next (s.answered 0x58 tag [b] .ok s.pmc.bytes).deliver) ∧
      (s.mode ∈ [.configure, .run, .harbour, .fallback] → s.mode ≠ m → (m = .configure → s.anyActive = false) →
        (m = .layup → s.layupBlocked = false ∧ s.mode ≠ .fallback) → (∀ x ∈ s.msgs, x.wakes = false) →
        ∃ u, exec (.modeSet tag [b]) s = .next u ∧ u.pmc = s.entered m ∧
          ((s.report .plant 0 1 (s.mode.code * 256 + m.code)).answered 0x58 tag [b] .ok (s.entered m).bytes).standsIn u))

/-- Waking: MODE_SET in LAYUP enters WAKING, or passes through it where every gauge has settled, which is so while no tank
IN_SERVICE has its gauge in SETTLING (R163, R164); in WAKING it replaces the target while warming, and enters the target
from CONFIRMING and LAYUP from either phase (R166). A wake cause taken in LAYUP enters WAKING with cause LOCAL and no
target, and anywhere else changes nothing (R165). WARMING ends when a gauge or service notice finds every gauge settled,
or with the wake limit: the target is entered, or without one the plant waits 300 s for a confirmation (R164), after
which the wake is false and the plant is in LAYUP again (R166). -/
def Obligations.WakesBeginAndEnd : Prop :=
  ∀ (s : State), (∀ x ∈ s.msgs, x.wakes = false) →
    (s.gaugesSettled = true ↔ ∀ t g, (s.tank t).service = .inService → s.gauge t = some g → g.state ≠ .settling) ∧
    (∀ (tag b : Byte) (m : Mode), s.ready → targetAt [b] 0 = some m → (m = .configure → s.anyActive = false) →
      (s.mode = .layup → m ≠ .layup → s.gaugesSettled = false → ∀ q : ModeController,
        q = { s.pmc with
          mode := .waking, sup := .off, timer := none,
          wake := some ⟨.host, some m, .warming, some (after s.clock 600), none⟩ } →
        ∃ u, exec (.modeSet tag [b]) s = .next u ∧ u.pmc = q ∧
          ((s.report .plant 0 1 (Mode.layup.code * 256 + Mode.waking.code)).answered 0x58 tag [b] .ok q.bytes).standsIn u) ∧
      (s.mode = .layup → m ≠ .layup → s.gaugesSettled = true →
        ∃ u, exec (.modeSet tag [b]) s = .next u ∧ u.pmc = s.entered m ∧
          (((s.report .plant 0 1 (Mode.layup.code * 256 + Mode.waking.code)).report .plant 0 1
            (Mode.waking.code * 256 + m.code)).answered 0x58 tag [b] .ok (s.entered m).bytes).standsIn u) ∧
      (∀ w, s.mode = .waking → s.pmc.wake = some w → w.phase = .warming → m ≠ .layup → ∀ q : ModeController,
        q = { s.pmc with wake := some { w with target := some m } } →
        exec (.modeSet tag [b]) s = .next (({ s with pmc := q }).answered 0x58 tag [b] .ok q.bytes).deliver) ∧
      (∀ w, s.mode = .waking → s.pmc.wake = some w → w.phase = .confirming ∨ m = .layup →
        ∃ u, exec (.modeSet tag [b]) s = .next u ∧ u.pmc = s.entered m ∧
          ((s.report .plant 0 1 (Mode.waking.code * 256 + m.code)).answered 0x58 tag [b] .ok
            (s.entered m).bytes).standsIn u)) ∧
    (∀ (w : WakeRecord) (x : State), s.power = .on → s.mode = .waking → s.pmc.wake = some w → w.phase = .warming →
      w.limit.isSome →
      x = (match w.cause with
        | .crossing t th d => s.report .plant (tankCode t) 5 (th.code * 65536 + d.code * 256 + 2)
        | .host => s) →
      (∀ m, w.target = some m → m.wakeTarget = true → ∃ u, exec .wakeLimit s = .next u ∧ u.pmc = s.entered m ∧
        (x.report .plant 0 1 (Mode.waking.code * 256 + m.code)).standsIn u) ∧
      (w.target = none → exec .wakeLimit s = .next
        ({ x with pmc := { s.pmc with
          wake := some { w with phase := .confirming, limit := none,
                                confirm := some (after s.clock 3000) } } }).deliver)) ∧
    (∀ (t : TankIx) (th : Threshold) (d : Direction),
      (s.mode ≠ .layup → s.take (.wake t th d) = s) ∧
      (s.mode = .layup → ∀ q : WakeRecord,
        q = ⟨.crossing t th d, none, .warming, some (after s.clock 600), none⟩ → ∀ x : State,
        x = (({ s with pmc := { s.pmc with mode := .waking, sup := .off, timer := none, wake := some q } }).report .plant 0
          1 (Mode.layup.code * 256 + Mode.waking.code)).tell
            ([Block.gu, .au, .ir, .te, .ss].map fun b => Msg.mode b .layup .waking) →
        (s.gaugesSettled = false → s.take (.wake t th d) = x) ∧
        (s.gaugesSettled = true → s.take (.wake t th d) = ({ x with pmc := { x.pmc with
          wake := some { q with phase := .confirming, limit := none, confirm := some (after s.clock 3000) } } }).report .plant
            (tankCode t) 5 (th.code * 65536 + d.code * 256 + 1)))) ∧
    (s.mode = .waking → ∀ w, s.pmc.wake = some w → w.phase = .warming → ∀ (t : TankIx) (g : GaugeState) (n : TankChange),
      ∀ m ∈ [Msg.gauge .pmc t g, .tank .pmc t n],
      (s.gaugesSettled = false → s.take m = s) ∧
      (s.gaugesSettled = true → ∀ x : State,
        x = (match w.cause with
          | .crossing t th d => s.report .plant (tankCode t) 5 (th.code * 65536 + d.code * 256 + 1)
          | .host => s) →
        (w.target = none → s.take m = { x with pmc := { s.pmc with
          wake := some { w with phase := .confirming, limit := none, confirm := some (after s.clock 3000) } } }) ∧
        (∀ a, w.target = some a → a.wakeTarget = true → s.take m =
          (({ x with pmc := s.entered a }).report .plant 0 1 (Mode.waking.code * 256 + a.code)).tell
            ([Block.gu, .au, .ir, .te, .ss].map fun b => Msg.mode b .waking a)))) ∧
    (∀ w, s.power = .on → s.mode = .waking → s.pmc.wake = some w → w.phase = .confirming → w.confirm.isSome →
      ∃ u, exec .falseWake s = .next u ∧ u.pmc = s.entered .layup ∧
        ((s.report .plant (match w.cause with
          | .crossing t _ _ => tankCode t
          | .host => 0) 6 0).report .plant 0 1 (Mode.waking.code * 256 + Mode.layup.code)).standsIn u)

/-- HEARTBEAT in time restarts the timer and ends a warning; under WINDOW, before half the period has elapsed, it is a lapse;
with supervision off it is not judged (R172). The timer's expiry is a lapse too. A lapse in WATCHING warns and restarts the
timer, one in WARNING takes the plant into FALLBACK (R168 to R170). The reply gives the state after it and the judgement. -/
def Obligations.SupervisionIsKeptByHeartbeats : Prop :=
  ∀ (s : State) (restarted : SupTimer), restarted = ⟨s.clock, s.pmc.period, after s.clock (s.pmc.period * 10)⟩ →
    (∀ tag : Byte, s.ready → s.pmc.sup = .off → exec (.heartbeat tag []) s = .next
      (s.answered 0x5B tag [] .ok (u8 Supervision.off.code ++ u8 s.mode.code ++ u8 3)).deliver) ∧
    (∀ tag : Byte, s.ready → s.pmc.sup ≠ .off →
      (s.pmc.kind = .timeout ∨ ∃ t, s.pmc.timer = some t ∧ t.period * 5 ≤ elapsed s.clock t.start) →
      ∀ x : State, x = { s with pmc := { s.pmc with sup := .watching, timer := some restarted } } →
      exec (.heartbeat tag []) s = .next
        ((if s.pmc.sup = .warning then x.report .plant 0 2 SupCause.heartbeat.code else x).answered 0x5B tag [] .ok
          (u8 Supervision.watching.code ++ u8 s.mode.code ++ u8 1)).deliver) ∧
    (∀ (tag : Byte) (t : SupTimer), s.ready → s.pmc.kind = .window → s.pmc.timer = some t →
      elapsed s.clock t.start < t.period * 5 →
      (s.pmc.sup = .watching → exec (.heartbeat tag []) s = .next
        ((({ s with pmc := { s.pmc with sup := .warning, timer := some restarted } }).report .plant 0 3
          SupCause.early.code).answered 0x5B tag [] .ok
            (u8 Supervision.warning.code ++ u8 s.mode.code ++ u8 2)).deliver) ∧
      (s.pmc.sup = .warning → (∀ x ∈ s.msgs, x.wakes = false) → ∃ u, exec (.heartbeat tag []) s = .next u ∧
        u.pmc = { s.pmc with mode := .fallback, left := some s.mode, wake := none, sup := .off, timer := none } ∧
        (((s.report .plant 0 4 SupCause.early.code).report .plant 0 1 (s.mode.code * 256 + Mode.fallback.code)).answered
          0x5B tag [] .ok (u8 Supervision.off.code ++ u8 Mode.fallback.code ++ u8 2)).standsIn u)) ∧
    (s.power = .on → s.pmc.timer.isSome →
      (s.pmc.sup = .watching → exec .supervisionExpiry s = .next
        (({ s with pmc := { s.pmc with sup := .warning, timer := some restarted } }).report .plant 0 3
          SupCause.expiry.code).deliver) ∧
      (s.pmc.sup = .warning → (∀ x ∈ s.msgs, x.wakes = false) → ∃ u, exec .supervisionExpiry s = .next u ∧
        u.pmc = { s.pmc with mode := .fallback, left := some s.mode, wake := none, sup := .off, timer := none } ∧
        ((s.report .plant 0 4 SupCause.expiry.code).report .plant 0 1
          (s.mode.code * 256 + Mode.fallback.code)).standsIn u))

/-! ### Laws that every step keeps -/

/-- Every step keeps the laws of the Tank Table and the gauges: M is the sum of R22, no entry that counts is of a worse class
than its tank (R20), and no score is above 255 (R36). A step that begins and ends with no notice in flight leaves the
Transfer Engine told of the M that the Tank Table holds (R22). -/
def Obligations.StepsKeepTheTankLaws : Prop :=
  ∀ s u : State, s.momentLaw → s.entryLaw → s.scoreLaw → step s = .next u →
    (u.momentLaw ∧ u.entryLaw ∧ u.scoreLaw) ∧
      (s.msgs = [] → s.told.moment = s.tt.moment → u.msgs = [] → u.told.moment = u.tt.moment)

/-- Every step keeps the laws of the store and of the channels (R98, R105, R122): at most 16 orders with distinct ids, each
ACTIVE order run by the channel it names and each channel holding an ACTIVE order, and no tank claimed by both channels. -/
def Obligations.StepsKeepTheOrderLaws : Prop :=
  ∀ s u : State, s.storeLaw → s.runLaw → s.claimLaw → step s = .next u → u.storeLaw ∧ u.runLaw ∧ u.claimLaw

/-- Every step keeps the laws of the actuators, of the supply record, of the mode record, of the dump timers and of the
report queue (R52, R65, R76, R147, R157, R180). -/
def Obligations.StepsKeepTheUnitLaws : Prop :=
  ∀ s u : State, s.actuatorLaw → s.ss.lawful → s.modeLaw → s.dumpTimerLaw → s.queueLaw → step s = .next u →
    u.actuatorLaw ∧ u.ss.lawful ∧ u.modeLaw ∧ u.dumpTimerLaw ∧ u.queueLaw

/-- Every step keeps the law of the intake valves (R83), and with it at most one intake valve is commanded open, or two while
the main is CHANGING. A main that is UNUSED holds no source, class, tank or refused set. -/
def Obligations.StepsKeepTheIntakeValveLaw : Prop :=
  ∀ s u : State, s.intakeValveLaw → step s = .next u →
    u.intakeValveLaw ∧ u.intakeValvesOpen ≤ if u.ir.main.state = .changing then 2 else 1

/-- Every step keeps the law of the supply valves (R147), and with it at most one supply valve is commanded open, or two in
CHANGEOVER. -/
def Obligations.StepsKeepTheSupplyValveLaw : Prop :=
  ∀ s u : State, s.supplyValveLaw → step s = .next u →
    u.supplyValveLaw ∧ u.supplyValvesOpen ≤ if u.ss.state = .changeover then 2 else 1

/-- Every step that begins and ends with no notice in flight keeps the law of the pumps (R126): a pump is commanded to run
only while its channel's leg is STARTING or PUMPING, with every lined valve answered at OPEN and none told as faulted. A channel
knows its pump's state, but that it may be told RUNNING beside a pump that is STOPPING in the phase STOPPING. -/
def Obligations.StepsKeepThePumpLaw : Prop :=
  ∀ s u : State, s.msgs = [] → s.actuatorLaw → s.pumpLaw → step s = .next u → u.msgs = [] →
    u.pumpLaw ∧ ∀ c, u.pumpRun c = true → ((u.chan c).phase = some .starting ∨ (u.chan c).phase = some .pumping) ∧
      (u.chan c).lined.isSome ∧ ∀ x ∈ (u.chan c).linedList, x.2 = .opened

/-- Every step that begins and ends with no notice in flight keeps the permits (R75): a run permit is on only while the
source is PERMITTED and the mode is RUN, COMMISSION, or FALLBACK entered from RUN. -/
def Obligations.StepsKeepThePermitLaw : Prop :=
  ∀ s u : State, s.msgs = [] → s.permitLaw → step s = .next u → u.msgs = [] →
    u.permitLaw ∧ ∀ w, u.wmRun w = true → (u.source (Watermaker.source w)).permit = .permitted ∧
      (u.mode = .run ∨ u.mode = .commission ∨ (u.mode = .fallback ∧ u.pmc.left = some .run))

/-- Every step keeps the published values in range (R41, R1): a published level is at most the tank's height, and a published
volume at most its full volume. -/
def Obligations.StepsKeepThePublishedRanges : Prop :=
  ∀ s u : State, s.publishedLaw → step s = .next u → u.publishedLaw ∧
    ∀ t, (∀ l, (u.tank t).level = some l → ∃ d, (u.tank t).defn = some d ∧ l ≤ d.height) ∧
      ∀ v, (u.tank t).volume = some v → ∃ tb, (u.tank t).strap = some tb ∧ v ≤ fullVolume tb
end

