-- ==== Sys2Proof/Laws/State.lean ====
section
/-!
SUPPORT. The small lemmas of the state's updates: what each update leaves of every field, and what the accessors read
after it. They are true by unfolding one definition, and spare later proofs the unfolding.
-/
namespace Sys2Proof.Machine

variable (s : State)

/-! ### updTank -/

@[simp] theorem State.updTank_power (t : TankIx) (f : TankRecord → TankRecord) :
    (s.updTank t f).power = s.power := rfl
@[simp] theorem State.updTank_clock (t : TankIx) (f : TankRecord → TankRecord) :
    (s.updTank t f).clock = s.clock := rfl
@[simp] theorem State.updTank_pins (t : TankIx) (f : TankRecord → TankRecord) : (s.updTank t f).pins = s.pins := rfl
@[simp] theorem State.updTank_txd (t : TankIx) (f : TankRecord → TankRecord) : (s.updTank t f).txd = s.txd := rfl
@[simp] theorem State.updTank_gu (t : TankIx) (f : TankRecord → TankRecord) : (s.updTank t f).gu = s.gu := rfl
@[simp] theorem State.updTank_au (t : TankIx) (f : TankRecord → TankRecord) : (s.updTank t f).au = s.au := rfl
@[simp] theorem State.updTank_ir (t : TankIx) (f : TankRecord → TankRecord) : (s.updTank t f).ir = s.ir := rfl
@[simp] theorem State.updTank_te (t : TankIx) (f : TankRecord → TankRecord) : (s.updTank t f).te = s.te := rfl
@[simp] theorem State.updTank_ss (t : TankIx) (f : TankRecord → TankRecord) : (s.updTank t f).ss = s.ss := rfl
@[simp] theorem State.updTank_pmc (t : TankIx) (f : TankRecord → TankRecord) : (s.updTank t f).pmc = s.pmc := rfl
@[simp] theorem State.updTank_lu (t : TankIx) (f : TankRecord → TankRecord) : (s.updTank t f).lu = s.lu := rfl
@[simp] theorem State.updTank_sts (t : TankIx) (f : TankRecord → TankRecord) : (s.updTank t f).sts = s.sts := rfl
@[simp] theorem State.updTank_told (t : TankIx) (f : TankRecord → TankRecord) : (s.updTank t f).told = s.told := rfl
@[simp] theorem State.updTank_msgs (t : TankIx) (f : TankRecord → TankRecord) : (s.updTank t f).msgs = s.msgs := rfl
@[simp] theorem State.updTank_choices (t : TankIx) (f : TankRecord → TankRecord) :
    (s.updTank t f).choices = s.choices := rfl
@[simp] theorem State.updTank_pending (t : TankIx) (f : TankRecord → TankRecord) :
    (s.updTank t f).pending = s.pending := rfl

/-! ### putTank -/

@[simp] theorem State.putTank_power (t : TankIx) (r : TankRecord) : (s.putTank t r).power = s.power := rfl
@[simp] theorem State.putTank_clock (t : TankIx) (r : TankRecord) : (s.putTank t r).clock = s.clock := rfl
@[simp] theorem State.putTank_pins (t : TankIx) (r : TankRecord) : (s.putTank t r).pins = s.pins := rfl
@[simp] theorem State.putTank_txd (t : TankIx) (r : TankRecord) : (s.putTank t r).txd = s.txd := rfl
@[simp] theorem State.putTank_gu (t : TankIx) (r : TankRecord) : (s.putTank t r).gu = s.gu := rfl
@[simp] theorem State.putTank_au (t : TankIx) (r : TankRecord) : (s.putTank t r).au = s.au := rfl
@[simp] theorem State.putTank_ir (t : TankIx) (r : TankRecord) : (s.putTank t r).ir = s.ir := rfl
@[simp] theorem State.putTank_te (t : TankIx) (r : TankRecord) : (s.putTank t r).te = s.te := rfl
@[simp] theorem State.putTank_ss (t : TankIx) (r : TankRecord) : (s.putTank t r).ss = s.ss := rfl
@[simp] theorem State.putTank_pmc (t : TankIx) (r : TankRecord) : (s.putTank t r).pmc = s.pmc := rfl
@[simp] theorem State.putTank_lu (t : TankIx) (r : TankRecord) : (s.putTank t r).lu = s.lu := rfl
@[simp] theorem State.putTank_sts (t : TankIx) (r : TankRecord) : (s.putTank t r).sts = s.sts := rfl
@[simp] theorem State.putTank_told (t : TankIx) (r : TankRecord) : (s.putTank t r).told = s.told := rfl
@[simp] theorem State.putTank_msgs (t : TankIx) (r : TankRecord) : (s.putTank t r).msgs = s.msgs := rfl
@[simp] theorem State.putTank_choices (t : TankIx) (r : TankRecord) : (s.putTank t r).choices = s.choices := rfl
@[simp] theorem State.putTank_pending (t : TankIx) (r : TankRecord) : (s.putTank t r).pending = s.pending := rfl

/-! ### setGauge -/

@[simp] theorem State.setGauge_power (t : TankIx) (c : Option GaugeChannel) : (s.setGauge t c).power = s.power := rfl
@[simp] theorem State.setGauge_clock (t : TankIx) (c : Option GaugeChannel) : (s.setGauge t c).clock = s.clock := rfl
@[simp] theorem State.setGauge_pins (t : TankIx) (c : Option GaugeChannel) : (s.setGauge t c).pins = s.pins := rfl
@[simp] theorem State.setGauge_txd (t : TankIx) (c : Option GaugeChannel) : (s.setGauge t c).txd = s.txd := rfl
@[simp] theorem State.setGauge_tt (t : TankIx) (c : Option GaugeChannel) : (s.setGauge t c).tt = s.tt := rfl
@[simp] theorem State.setGauge_au (t : TankIx) (c : Option GaugeChannel) : (s.setGauge t c).au = s.au := rfl
@[simp] theorem State.setGauge_ir (t : TankIx) (c : Option GaugeChannel) : (s.setGauge t c).ir = s.ir := rfl
@[simp] theorem State.setGauge_te (t : TankIx) (c : Option GaugeChannel) : (s.setGauge t c).te = s.te := rfl
@[simp] theorem State.setGauge_ss (t : TankIx) (c : Option GaugeChannel) : (s.setGauge t c).ss = s.ss := rfl
@[simp] theorem State.setGauge_pmc (t : TankIx) (c : Option GaugeChannel) : (s.setGauge t c).pmc = s.pmc := rfl
@[simp] theorem State.setGauge_lu (t : TankIx) (c : Option GaugeChannel) : (s.setGauge t c).lu = s.lu := rfl
@[simp] theorem State.setGauge_sts (t : TankIx) (c : Option GaugeChannel) : (s.setGauge t c).sts = s.sts := rfl
@[simp] theorem State.setGauge_told (t : TankIx) (c : Option GaugeChannel) : (s.setGauge t c).told = s.told := rfl
@[simp] theorem State.setGauge_msgs (t : TankIx) (c : Option GaugeChannel) : (s.setGauge t c).msgs = s.msgs := rfl
@[simp] theorem State.setGauge_choices (t : TankIx) (c : Option GaugeChannel) :
    (s.setGauge t c).choices = s.choices := rfl
@[simp] theorem State.setGauge_pending (t : TankIx) (c : Option GaugeChannel) :
    (s.setGauge t c).pending = s.pending := rfl

/-! ### setTold -/

@[simp] theorem State.setTold_power (b : Block) (t : TankIx) (g : Option GaugeState) :
    (s.setTold b t g).power = s.power := by cases b <;> rfl
@[simp] theorem State.setTold_clock (b : Block) (t : TankIx) (g : Option GaugeState) :
    (s.setTold b t g).clock = s.clock := by cases b <;> rfl
@[simp] theorem State.setTold_pins (b : Block) (t : TankIx) (g : Option GaugeState) :
    (s.setTold b t g).pins = s.pins := by cases b <;> rfl
@[simp] theorem State.setTold_txd (b : Block) (t : TankIx) (g : Option GaugeState) :
    (s.setTold b t g).txd = s.txd := by cases b <;> rfl
@[simp] theorem State.setTold_tt (b : Block) (t : TankIx) (g : Option GaugeState) :
    (s.setTold b t g).tt = s.tt := by cases b <;> rfl
@[simp] theorem State.setTold_gu (b : Block) (t : TankIx) (g : Option GaugeState) :
    (s.setTold b t g).gu = s.gu := by cases b <;> rfl
@[simp] theorem State.setTold_au (b : Block) (t : TankIx) (g : Option GaugeState) :
    (s.setTold b t g).au = s.au := by cases b <;> rfl
@[simp] theorem State.setTold_ir (b : Block) (t : TankIx) (g : Option GaugeState) :
    (s.setTold b t g).ir = s.ir := by cases b <;> rfl
@[simp] theorem State.setTold_te (b : Block) (t : TankIx) (g : Option GaugeState) :
    (s.setTold b t g).te = s.te := by cases b <;> rfl
@[simp] theorem State.setTold_ss (b : Block) (t : TankIx) (g : Option GaugeState) :
    (s.setTold b t g).ss = s.ss := by cases b <;> rfl
@[simp] theorem State.setTold_pmc (b : Block) (t : TankIx) (g : Option GaugeState) :
    (s.setTold b t g).pmc = s.pmc := by cases b <;> rfl
@[simp] theorem State.setTold_lu (b : Block) (t : TankIx) (g : Option GaugeState) :
    (s.setTold b t g).lu = s.lu := by cases b <;> rfl
@[simp] theorem State.setTold_sts (b : Block) (t : TankIx) (g : Option GaugeState) :
    (s.setTold b t g).sts = s.sts := by cases b <;> rfl
@[simp] theorem State.setTold_msgs (b : Block) (t : TankIx) (g : Option GaugeState) :
    (s.setTold b t g).msgs = s.msgs := by cases b <;> rfl
@[simp] theorem State.setTold_choices (b : Block) (t : TankIx) (g : Option GaugeState) :
    (s.setTold b t g).choices = s.choices := by cases b <;> rfl
@[simp] theorem State.setTold_pending (b : Block) (t : TankIx) (g : Option GaugeState) :
    (s.setTold b t g).pending = s.pending := by cases b <;> rfl

/-! ### setToldMoment -/

@[simp] theorem State.setToldMoment_power (m : Int) :
    (s.setToldMoment m).power = s.power := rfl
@[simp] theorem State.setToldMoment_clock (m : Int) :
    (s.setToldMoment m).clock = s.clock := rfl
@[simp] theorem State.setToldMoment_pins (m : Int) :
    (s.setToldMoment m).pins = s.pins := rfl
@[simp] theorem State.setToldMoment_txd (m : Int) :
    (s.setToldMoment m).txd = s.txd := rfl
@[simp] theorem State.setToldMoment_tt (m : Int) :
    (s.setToldMoment m).tt = s.tt := rfl
@[simp] theorem State.setToldMoment_gu (m : Int) :
    (s.setToldMoment m).gu = s.gu := rfl
@[simp] theorem State.setToldMoment_au (m : Int) :
    (s.setToldMoment m).au = s.au := rfl
@[simp] theorem State.setToldMoment_ir (m : Int) :
    (s.setToldMoment m).ir = s.ir := rfl
@[simp] theorem State.setToldMoment_te (m : Int) :
    (s.setToldMoment m).te = s.te := rfl
@[simp] theorem State.setToldMoment_ss (m : Int) :
    (s.setToldMoment m).ss = s.ss := rfl
@[simp] theorem State.setToldMoment_pmc (m : Int) :
    (s.setToldMoment m).pmc = s.pmc := rfl
@[simp] theorem State.setToldMoment_lu (m : Int) :
    (s.setToldMoment m).lu = s.lu := rfl
@[simp] theorem State.setToldMoment_sts (m : Int) :
    (s.setToldMoment m).sts = s.sts := rfl
@[simp] theorem State.setToldMoment_msgs (m : Int) :
    (s.setToldMoment m).msgs = s.msgs := rfl
@[simp] theorem State.setToldMoment_choices (m : Int) :
    (s.setToldMoment m).choices = s.choices := rfl
@[simp] theorem State.setToldMoment_pending (m : Int) :
    (s.setToldMoment m).pending = s.pending := rfl

/-! ### setResetn -/

@[simp] theorem State.setResetn_power (b : Bool) : (s.setResetn b).power = s.power := rfl
@[simp] theorem State.setResetn_clock (b : Bool) : (s.setResetn b).clock = s.clock := rfl
@[simp] theorem State.setResetn_txd (b : Bool) : (s.setResetn b).txd = s.txd := rfl
@[simp] theorem State.setResetn_tt (b : Bool) : (s.setResetn b).tt = s.tt := rfl
@[simp] theorem State.setResetn_gu (b : Bool) : (s.setResetn b).gu = s.gu := rfl
@[simp] theorem State.setResetn_au (b : Bool) : (s.setResetn b).au = s.au := rfl
@[simp] theorem State.setResetn_ir (b : Bool) : (s.setResetn b).ir = s.ir := rfl
@[simp] theorem State.setResetn_te (b : Bool) : (s.setResetn b).te = s.te := rfl
@[simp] theorem State.setResetn_ss (b : Bool) : (s.setResetn b).ss = s.ss := rfl
@[simp] theorem State.setResetn_pmc (b : Bool) : (s.setResetn b).pmc = s.pmc := rfl
@[simp] theorem State.setResetn_lu (b : Bool) : (s.setResetn b).lu = s.lu := rfl
@[simp] theorem State.setResetn_sts (b : Bool) : (s.setResetn b).sts = s.sts := rfl
@[simp] theorem State.setResetn_told (b : Bool) : (s.setResetn b).told = s.told := rfl
@[simp] theorem State.setResetn_msgs (b : Bool) : (s.setResetn b).msgs = s.msgs := rfl
@[simp] theorem State.setResetn_choices (b : Bool) : (s.setResetn b).choices = s.choices := rfl
@[simp] theorem State.setResetn_pending (b : Bool) : (s.setResetn b).pending = s.pending := rfl

/-! ### updValve -/

@[simp] theorem State.updValve_power (v : Valve) (f : ValveRecord → ValveRecord) :
    (s.updValve v f).power = s.power := rfl
@[simp] theorem State.updValve_clock (v : Valve) (f : ValveRecord → ValveRecord) :
    (s.updValve v f).clock = s.clock := rfl
@[simp] theorem State.updValve_pins (v : Valve) (f : ValveRecord → ValveRecord) :
    (s.updValve v f).pins = s.pins := rfl
@[simp] theorem State.updValve_txd (v : Valve) (f : ValveRecord → ValveRecord) : (s.updValve v f).txd = s.txd := rfl
@[simp] theorem State.updValve_tt (v : Valve) (f : ValveRecord → ValveRecord) : (s.updValve v f).tt = s.tt := rfl
@[simp] theorem State.updValve_gu (v : Valve) (f : ValveRecord → ValveRecord) : (s.updValve v f).gu = s.gu := rfl
@[simp] theorem State.updValve_ir (v : Valve) (f : ValveRecord → ValveRecord) : (s.updValve v f).ir = s.ir := rfl
@[simp] theorem State.updValve_te (v : Valve) (f : ValveRecord → ValveRecord) : (s.updValve v f).te = s.te := rfl
@[simp] theorem State.updValve_ss (v : Valve) (f : ValveRecord → ValveRecord) : (s.updValve v f).ss = s.ss := rfl
@[simp] theorem State.updValve_pmc (v : Valve) (f : ValveRecord → ValveRecord) : (s.updValve v f).pmc = s.pmc := rfl
@[simp] theorem State.updValve_lu (v : Valve) (f : ValveRecord → ValveRecord) : (s.updValve v f).lu = s.lu := rfl
@[simp] theorem State.updValve_sts (v : Valve) (f : ValveRecord → ValveRecord) : (s.updValve v f).sts = s.sts := rfl
@[simp] theorem State.updValve_told (v : Valve) (f : ValveRecord → ValveRecord) :
    (s.updValve v f).told = s.told := rfl
@[simp] theorem State.updValve_msgs (v : Valve) (f : ValveRecord → ValveRecord) :
    (s.updValve v f).msgs = s.msgs := rfl
@[simp] theorem State.updValve_choices (v : Valve) (f : ValveRecord → ValveRecord) :
    (s.updValve v f).choices = s.choices := rfl
@[simp] theorem State.updValve_pending (v : Valve) (f : ValveRecord → ValveRecord) :
    (s.updValve v f).pending = s.pending := rfl

/-! ### setPump -/

@[simp] theorem State.setPump_power (c : Channel) (p : PumpRecord) :
    (s.setPump c p).power = s.power := by cases c <;> rfl
@[simp] theorem State.setPump_clock (c : Channel) (p : PumpRecord) :
    (s.setPump c p).clock = s.clock := by cases c <;> rfl
@[simp] theorem State.setPump_pins (c : Channel) (p : PumpRecord) :
    (s.setPump c p).pins = s.pins := by cases c <;> rfl
@[simp] theorem State.setPump_txd (c : Channel) (p : PumpRecord) : (s.setPump c p).txd = s.txd := by cases c <;> rfl
@[simp] theorem State.setPump_tt (c : Channel) (p : PumpRecord) : (s.setPump c p).tt = s.tt := by cases c <;> rfl
@[simp] theorem State.setPump_gu (c : Channel) (p : PumpRecord) : (s.setPump c p).gu = s.gu := by cases c <;> rfl
@[simp] theorem State.setPump_ir (c : Channel) (p : PumpRecord) : (s.setPump c p).ir = s.ir := by cases c <;> rfl
@[simp] theorem State.setPump_te (c : Channel) (p : PumpRecord) : (s.setPump c p).te = s.te := by cases c <;> rfl
@[simp] theorem State.setPump_ss (c : Channel) (p : PumpRecord) : (s.setPump c p).ss = s.ss := by cases c <;> rfl
@[simp] theorem State.setPump_pmc (c : Channel) (p : PumpRecord) : (s.setPump c p).pmc = s.pmc := by cases c <;> rfl
@[simp] theorem State.setPump_lu (c : Channel) (p : PumpRecord) : (s.setPump c p).lu = s.lu := by cases c <;> rfl
@[simp] theorem State.setPump_sts (c : Channel) (p : PumpRecord) : (s.setPump c p).sts = s.sts := by cases c <;> rfl
@[simp] theorem State.setPump_told (c : Channel) (p : PumpRecord) :
    (s.setPump c p).told = s.told := by cases c <;> rfl
@[simp] theorem State.setPump_msgs (c : Channel) (p : PumpRecord) :
    (s.setPump c p).msgs = s.msgs := by cases c <;> rfl
@[simp] theorem State.setPump_choices (c : Channel) (p : PumpRecord) :
    (s.setPump c p).choices = s.choices := by cases c <;> rfl
@[simp] theorem State.setPump_pending (c : Channel) (p : PumpRecord) :
    (s.setPump c p).pending = s.pending := by cases c <;> rfl

/-! ### updSource -/

@[simp] theorem State.updSource_power (x : Source) (f : SourceRecord → SourceRecord) :
    (s.updSource x f).power = s.power := by cases x <;> rfl
@[simp] theorem State.updSource_clock (x : Source) (f : SourceRecord → SourceRecord) :
    (s.updSource x f).clock = s.clock := by cases x <;> rfl
@[simp] theorem State.updSource_pins (x : Source) (f : SourceRecord → SourceRecord) :
    (s.updSource x f).pins = s.pins := by cases x <;> rfl
@[simp] theorem State.updSource_txd (x : Source) (f : SourceRecord → SourceRecord) :
    (s.updSource x f).txd = s.txd := by cases x <;> rfl
@[simp] theorem State.updSource_tt (x : Source) (f : SourceRecord → SourceRecord) :
    (s.updSource x f).tt = s.tt := by cases x <;> rfl
@[simp] theorem State.updSource_gu (x : Source) (f : SourceRecord → SourceRecord) :
    (s.updSource x f).gu = s.gu := by cases x <;> rfl
@[simp] theorem State.updSource_au (x : Source) (f : SourceRecord → SourceRecord) :
    (s.updSource x f).au = s.au := by cases x <;> rfl
@[simp] theorem State.updSource_te (x : Source) (f : SourceRecord → SourceRecord) :
    (s.updSource x f).te = s.te := by cases x <;> rfl
@[simp] theorem State.updSource_ss (x : Source) (f : SourceRecord → SourceRecord) :
    (s.updSource x f).ss = s.ss := by cases x <;> rfl
@[simp] theorem State.updSource_pmc (x : Source) (f : SourceRecord → SourceRecord) :
    (s.updSource x f).pmc = s.pmc := by cases x <;> rfl
@[simp] theorem State.updSource_lu (x : Source) (f : SourceRecord → SourceRecord) :
    (s.updSource x f).lu = s.lu := by cases x <;> rfl
@[simp] theorem State.updSource_sts (x : Source) (f : SourceRecord → SourceRecord) :
    (s.updSource x f).sts = s.sts := by cases x <;> rfl
@[simp] theorem State.updSource_told (x : Source) (f : SourceRecord → SourceRecord) :
    (s.updSource x f).told = s.told := by cases x <;> rfl
@[simp] theorem State.updSource_msgs (x : Source) (f : SourceRecord → SourceRecord) :
    (s.updSource x f).msgs = s.msgs := by cases x <;> rfl
@[simp] theorem State.updSource_choices (x : Source) (f : SourceRecord → SourceRecord) :
    (s.updSource x f).choices = s.choices := by cases x <;> rfl
@[simp] theorem State.updSource_pending (x : Source) (f : SourceRecord → SourceRecord) :
    (s.updSource x f).pending = s.pending := by cases x <;> rfl

/-! ### setMainRaw -/

@[simp] theorem State.setMainRaw_power (m : ProductMain) : (s.setMainRaw m).power = s.power := rfl
@[simp] theorem State.setMainRaw_clock (m : ProductMain) : (s.setMainRaw m).clock = s.clock := rfl
@[simp] theorem State.setMainRaw_pins (m : ProductMain) : (s.setMainRaw m).pins = s.pins := rfl
@[simp] theorem State.setMainRaw_txd (m : ProductMain) : (s.setMainRaw m).txd = s.txd := rfl
@[simp] theorem State.setMainRaw_tt (m : ProductMain) : (s.setMainRaw m).tt = s.tt := rfl
@[simp] theorem State.setMainRaw_gu (m : ProductMain) : (s.setMainRaw m).gu = s.gu := rfl
@[simp] theorem State.setMainRaw_au (m : ProductMain) : (s.setMainRaw m).au = s.au := rfl
@[simp] theorem State.setMainRaw_te (m : ProductMain) : (s.setMainRaw m).te = s.te := rfl
@[simp] theorem State.setMainRaw_ss (m : ProductMain) : (s.setMainRaw m).ss = s.ss := rfl
@[simp] theorem State.setMainRaw_pmc (m : ProductMain) : (s.setMainRaw m).pmc = s.pmc := rfl
@[simp] theorem State.setMainRaw_lu (m : ProductMain) : (s.setMainRaw m).lu = s.lu := rfl
@[simp] theorem State.setMainRaw_sts (m : ProductMain) : (s.setMainRaw m).sts = s.sts := rfl
@[simp] theorem State.setMainRaw_told (m : ProductMain) : (s.setMainRaw m).told = s.told := rfl
@[simp] theorem State.setMainRaw_msgs (m : ProductMain) : (s.setMainRaw m).msgs = s.msgs := rfl
@[simp] theorem State.setMainRaw_choices (m : ProductMain) : (s.setMainRaw m).choices = s.choices := rfl
@[simp] theorem State.setMainRaw_pending (m : ProductMain) : (s.setMainRaw m).pending = s.pending := rfl

/-! ### updChan -/

@[simp] theorem State.updChan_power (c : Channel) (f : ChannelRecord → ChannelRecord) :
    (s.updChan c f).power = s.power := by cases c <;> rfl
@[simp] theorem State.updChan_clock (c : Channel) (f : ChannelRecord → ChannelRecord) :
    (s.updChan c f).clock = s.clock := by cases c <;> rfl
@[simp] theorem State.updChan_pins (c : Channel) (f : ChannelRecord → ChannelRecord) :
    (s.updChan c f).pins = s.pins := by cases c <;> rfl
@[simp] theorem State.updChan_txd (c : Channel) (f : ChannelRecord → ChannelRecord) :
    (s.updChan c f).txd = s.txd := by cases c <;> rfl
@[simp] theorem State.updChan_tt (c : Channel) (f : ChannelRecord → ChannelRecord) :
    (s.updChan c f).tt = s.tt := by cases c <;> rfl
@[simp] theorem State.updChan_gu (c : Channel) (f : ChannelRecord → ChannelRecord) :
    (s.updChan c f).gu = s.gu := by cases c <;> rfl
@[simp] theorem State.updChan_au (c : Channel) (f : ChannelRecord → ChannelRecord) :
    (s.updChan c f).au = s.au := by cases c <;> rfl
@[simp] theorem State.updChan_ir (c : Channel) (f : ChannelRecord → ChannelRecord) :
    (s.updChan c f).ir = s.ir := by cases c <;> rfl
@[simp] theorem State.updChan_ss (c : Channel) (f : ChannelRecord → ChannelRecord) :
    (s.updChan c f).ss = s.ss := by cases c <;> rfl
@[simp] theorem State.updChan_pmc (c : Channel) (f : ChannelRecord → ChannelRecord) :
    (s.updChan c f).pmc = s.pmc := by cases c <;> rfl
@[simp] theorem State.updChan_lu (c : Channel) (f : ChannelRecord → ChannelRecord) :
    (s.updChan c f).lu = s.lu := by cases c <;> rfl
@[simp] theorem State.updChan_sts (c : Channel) (f : ChannelRecord → ChannelRecord) :
    (s.updChan c f).sts = s.sts := by cases c <;> rfl
@[simp] theorem State.updChan_told (c : Channel) (f : ChannelRecord → ChannelRecord) :
    (s.updChan c f).told = s.told := by cases c <;> rfl
@[simp] theorem State.updChan_msgs (c : Channel) (f : ChannelRecord → ChannelRecord) :
    (s.updChan c f).msgs = s.msgs := by cases c <;> rfl
@[simp] theorem State.updChan_choices (c : Channel) (f : ChannelRecord → ChannelRecord) :
    (s.updChan c f).choices = s.choices := by cases c <;> rfl
@[simp] theorem State.updChan_pending (c : Channel) (f : ChannelRecord → ChannelRecord) :
    (s.updChan c f).pending = s.pending := by cases c <;> rfl

/-! ### updOrder -/

@[simp] theorem State.updOrder_power (id : Nat) (f : Order → Order) : (s.updOrder id f).power = s.power := rfl
@[simp] theorem State.updOrder_clock (id : Nat) (f : Order → Order) : (s.updOrder id f).clock = s.clock := rfl
@[simp] theorem State.updOrder_pins (id : Nat) (f : Order → Order) : (s.updOrder id f).pins = s.pins := rfl
@[simp] theorem State.updOrder_txd (id : Nat) (f : Order → Order) : (s.updOrder id f).txd = s.txd := rfl
@[simp] theorem State.updOrder_tt (id : Nat) (f : Order → Order) : (s.updOrder id f).tt = s.tt := rfl
@[simp] theorem State.updOrder_gu (id : Nat) (f : Order → Order) : (s.updOrder id f).gu = s.gu := rfl
@[simp] theorem State.updOrder_au (id : Nat) (f : Order → Order) : (s.updOrder id f).au = s.au := rfl
@[simp] theorem State.updOrder_ir (id : Nat) (f : Order → Order) : (s.updOrder id f).ir = s.ir := rfl
@[simp] theorem State.updOrder_ss (id : Nat) (f : Order → Order) : (s.updOrder id f).ss = s.ss := rfl
@[simp] theorem State.updOrder_pmc (id : Nat) (f : Order → Order) : (s.updOrder id f).pmc = s.pmc := rfl
@[simp] theorem State.updOrder_lu (id : Nat) (f : Order → Order) : (s.updOrder id f).lu = s.lu := rfl
@[simp] theorem State.updOrder_sts (id : Nat) (f : Order → Order) : (s.updOrder id f).sts = s.sts := rfl
@[simp] theorem State.updOrder_told (id : Nat) (f : Order → Order) : (s.updOrder id f).told = s.told := rfl
@[simp] theorem State.updOrder_msgs (id : Nat) (f : Order → Order) : (s.updOrder id f).msgs = s.msgs := rfl
@[simp] theorem State.updOrder_choices (id : Nat) (f : Order → Order) : (s.updOrder id f).choices = s.choices := rfl
@[simp] theorem State.updOrder_pending (id : Nat) (f : Order → Order) : (s.updOrder id f).pending = s.pending := rfl

/-! ### updSupply -/

@[simp] theorem State.updSupply_power (f : SupplySelector → SupplySelector) : (s.updSupply f).power = s.power := rfl
@[simp] theorem State.updSupply_clock (f : SupplySelector → SupplySelector) : (s.updSupply f).clock = s.clock := rfl
@[simp] theorem State.updSupply_pins (f : SupplySelector → SupplySelector) : (s.updSupply f).pins = s.pins := rfl
@[simp] theorem State.updSupply_txd (f : SupplySelector → SupplySelector) : (s.updSupply f).txd = s.txd := rfl
@[simp] theorem State.updSupply_tt (f : SupplySelector → SupplySelector) : (s.updSupply f).tt = s.tt := rfl
@[simp] theorem State.updSupply_gu (f : SupplySelector → SupplySelector) : (s.updSupply f).gu = s.gu := rfl
@[simp] theorem State.updSupply_au (f : SupplySelector → SupplySelector) : (s.updSupply f).au = s.au := rfl
@[simp] theorem State.updSupply_ir (f : SupplySelector → SupplySelector) : (s.updSupply f).ir = s.ir := rfl
@[simp] theorem State.updSupply_te (f : SupplySelector → SupplySelector) : (s.updSupply f).te = s.te := rfl
@[simp] theorem State.updSupply_pmc (f : SupplySelector → SupplySelector) : (s.updSupply f).pmc = s.pmc := rfl
@[simp] theorem State.updSupply_lu (f : SupplySelector → SupplySelector) : (s.updSupply f).lu = s.lu := rfl
@[simp] theorem State.updSupply_sts (f : SupplySelector → SupplySelector) : (s.updSupply f).sts = s.sts := rfl
@[simp] theorem State.updSupply_told (f : SupplySelector → SupplySelector) : (s.updSupply f).told = s.told := rfl
@[simp] theorem State.updSupply_msgs (f : SupplySelector → SupplySelector) : (s.updSupply f).msgs = s.msgs := rfl
@[simp] theorem State.updSupply_choices (f : SupplySelector → SupplySelector) :
    (s.updSupply f).choices = s.choices := rfl
@[simp] theorem State.updSupply_pending (f : SupplySelector → SupplySelector) :
    (s.updSupply f).pending = s.pending := rfl

/-! ### updMode -/

@[simp] theorem State.updMode_power (f : ModeController → ModeController) : (s.updMode f).power = s.power := rfl
@[simp] theorem State.updMode_clock (f : ModeController → ModeController) : (s.updMode f).clock = s.clock := rfl
@[simp] theorem State.updMode_pins (f : ModeController → ModeController) : (s.updMode f).pins = s.pins := rfl
@[simp] theorem State.updMode_txd (f : ModeController → ModeController) : (s.updMode f).txd = s.txd := rfl
@[simp] theorem State.updMode_tt (f : ModeController → ModeController) : (s.updMode f).tt = s.tt := rfl
@[simp] theorem State.updMode_gu (f : ModeController → ModeController) : (s.updMode f).gu = s.gu := rfl
@[simp] theorem State.updMode_au (f : ModeController → ModeController) : (s.updMode f).au = s.au := rfl
@[simp] theorem State.updMode_ir (f : ModeController → ModeController) : (s.updMode f).ir = s.ir := rfl
@[simp] theorem State.updMode_te (f : ModeController → ModeController) : (s.updMode f).te = s.te := rfl
@[simp] theorem State.updMode_ss (f : ModeController → ModeController) : (s.updMode f).ss = s.ss := rfl
@[simp] theorem State.updMode_lu (f : ModeController → ModeController) : (s.updMode f).lu = s.lu := rfl
@[simp] theorem State.updMode_sts (f : ModeController → ModeController) : (s.updMode f).sts = s.sts := rfl
@[simp] theorem State.updMode_told (f : ModeController → ModeController) : (s.updMode f).told = s.told := rfl
@[simp] theorem State.updMode_msgs (f : ModeController → ModeController) : (s.updMode f).msgs = s.msgs := rfl
@[simp] theorem State.updMode_choices (f : ModeController → ModeController) : (s.updMode f).choices = s.choices := rfl
@[simp] theorem State.updMode_pending (f : ModeController → ModeController) : (s.updMode f).pending = s.pending := rfl

/-! ### append -/

@[simp] theorem State.append_power (r : Report) : (s.append r).power = s.power := rfl
@[simp] theorem State.append_clock (r : Report) : (s.append r).clock = s.clock := rfl
@[simp] theorem State.append_pins (r : Report) : (s.append r).pins = s.pins := rfl
@[simp] theorem State.append_txd (r : Report) : (s.append r).txd = s.txd := rfl
@[simp] theorem State.append_tt (r : Report) : (s.append r).tt = s.tt := rfl
@[simp] theorem State.append_gu (r : Report) : (s.append r).gu = s.gu := rfl
@[simp] theorem State.append_au (r : Report) : (s.append r).au = s.au := rfl
@[simp] theorem State.append_ir (r : Report) : (s.append r).ir = s.ir := rfl
@[simp] theorem State.append_te (r : Report) : (s.append r).te = s.te := rfl
@[simp] theorem State.append_ss (r : Report) : (s.append r).ss = s.ss := rfl
@[simp] theorem State.append_pmc (r : Report) : (s.append r).pmc = s.pmc := rfl
@[simp] theorem State.append_sts (r : Report) : (s.append r).sts = s.sts := rfl
@[simp] theorem State.append_told (r : Report) : (s.append r).told = s.told := rfl
@[simp] theorem State.append_msgs (r : Report) : (s.append r).msgs = s.msgs := rfl
@[simp] theorem State.append_choices (r : Report) : (s.append r).choices = s.choices := rfl
@[simp] theorem State.append_pending (r : Report) : (s.append r).pending = s.pending := rfl

/-! ### report -/

@[simp] theorem State.report_power (k : ReportKind) (subject code value : Nat) :
    (s.report k subject code value).power = s.power := rfl
@[simp] theorem State.report_clock (k : ReportKind) (subject code value : Nat) :
    (s.report k subject code value).clock = s.clock := rfl
@[simp] theorem State.report_pins (k : ReportKind) (subject code value : Nat) :
    (s.report k subject code value).pins = s.pins := rfl
@[simp] theorem State.report_txd (k : ReportKind) (subject code value : Nat) :
    (s.report k subject code value).txd = s.txd := rfl
@[simp] theorem State.report_tt (k : ReportKind) (subject code value : Nat) :
    (s.report k subject code value).tt = s.tt := rfl
@[simp] theorem State.report_gu (k : ReportKind) (subject code value : Nat) :
    (s.report k subject code value).gu = s.gu := rfl
@[simp] theorem State.report_au (k : ReportKind) (subject code value : Nat) :
    (s.report k subject code value).au = s.au := rfl
@[simp] theorem State.report_ir (k : ReportKind) (subject code value : Nat) :
    (s.report k subject code value).ir = s.ir := rfl
@[simp] theorem State.report_te (k : ReportKind) (subject code value : Nat) :
    (s.report k subject code value).te = s.te := rfl
@[simp] theorem State.report_ss (k : ReportKind) (subject code value : Nat) :
    (s.report k subject code value).ss = s.ss := rfl
@[simp] theorem State.report_pmc (k : ReportKind) (subject code value : Nat) :
    (s.report k subject code value).pmc = s.pmc := rfl
@[simp] theorem State.report_sts (k : ReportKind) (subject code value : Nat) :
    (s.report k subject code value).sts = s.sts := rfl
@[simp] theorem State.report_told (k : ReportKind) (subject code value : Nat) :
    (s.report k subject code value).told = s.told := rfl
@[simp] theorem State.report_msgs (k : ReportKind) (subject code value : Nat) :
    (s.report k subject code value).msgs = s.msgs := rfl
@[simp] theorem State.report_choices (k : ReportKind) (subject code value : Nat) :
    (s.report k subject code value).choices = s.choices := rfl
@[simp] theorem State.report_pending (k : ReportKind) (subject code value : Nat) :
    (s.report k subject code value).pending = s.pending := rfl

/-! ### setFramer -/

@[simp] theorem State.setFramer_power (f : Framer) : (s.setFramer f).power = s.power := rfl
@[simp] theorem State.setFramer_clock (f : Framer) : (s.setFramer f).clock = s.clock := rfl
@[simp] theorem State.setFramer_pins (f : Framer) : (s.setFramer f).pins = s.pins := rfl
@[simp] theorem State.setFramer_txd (f : Framer) : (s.setFramer f).txd = s.txd := rfl
@[simp] theorem State.setFramer_tt (f : Framer) : (s.setFramer f).tt = s.tt := rfl
@[simp] theorem State.setFramer_gu (f : Framer) : (s.setFramer f).gu = s.gu := rfl
@[simp] theorem State.setFramer_au (f : Framer) : (s.setFramer f).au = s.au := rfl
@[simp] theorem State.setFramer_ir (f : Framer) : (s.setFramer f).ir = s.ir := rfl
@[simp] theorem State.setFramer_te (f : Framer) : (s.setFramer f).te = s.te := rfl
@[simp] theorem State.setFramer_ss (f : Framer) : (s.setFramer f).ss = s.ss := rfl
@[simp] theorem State.setFramer_pmc (f : Framer) : (s.setFramer f).pmc = s.pmc := rfl
@[simp] theorem State.setFramer_sts (f : Framer) : (s.setFramer f).sts = s.sts := rfl
@[simp] theorem State.setFramer_told (f : Framer) : (s.setFramer f).told = s.told := rfl
@[simp] theorem State.setFramer_msgs (f : Framer) : (s.setFramer f).msgs = s.msgs := rfl
@[simp] theorem State.setFramer_choices (f : Framer) : (s.setFramer f).choices = s.choices := rfl
@[simp] theorem State.setFramer_pending (f : Framer) : (s.setFramer f).pending = s.pending := rfl

/-! ### answered -/

@[simp] theorem State.answered_power (kind tag : Byte) (p : List Byte) (st : Status) (q : List Byte) :
    (s.answered kind tag p st q).power = s.power := rfl
@[simp] theorem State.answered_clock (kind tag : Byte) (p : List Byte) (st : Status) (q : List Byte) :
    (s.answered kind tag p st q).clock = s.clock := rfl
@[simp] theorem State.answered_pins (kind tag : Byte) (p : List Byte) (st : Status) (q : List Byte) :
    (s.answered kind tag p st q).pins = s.pins := rfl
@[simp] theorem State.answered_txd (kind tag : Byte) (p : List Byte) (st : Status) (q : List Byte) :
    (s.answered kind tag p st q).txd = s.txd := rfl
@[simp] theorem State.answered_tt (kind tag : Byte) (p : List Byte) (st : Status) (q : List Byte) :
    (s.answered kind tag p st q).tt = s.tt := rfl
@[simp] theorem State.answered_gu (kind tag : Byte) (p : List Byte) (st : Status) (q : List Byte) :
    (s.answered kind tag p st q).gu = s.gu := rfl
@[simp] theorem State.answered_au (kind tag : Byte) (p : List Byte) (st : Status) (q : List Byte) :
    (s.answered kind tag p st q).au = s.au := rfl
@[simp] theorem State.answered_ir (kind tag : Byte) (p : List Byte) (st : Status) (q : List Byte) :
    (s.answered kind tag p st q).ir = s.ir := rfl
@[simp] theorem State.answered_te (kind tag : Byte) (p : List Byte) (st : Status) (q : List Byte) :
    (s.answered kind tag p st q).te = s.te := rfl
@[simp] theorem State.answered_ss (kind tag : Byte) (p : List Byte) (st : Status) (q : List Byte) :
    (s.answered kind tag p st q).ss = s.ss := rfl
@[simp] theorem State.answered_pmc (kind tag : Byte) (p : List Byte) (st : Status) (q : List Byte) :
    (s.answered kind tag p st q).pmc = s.pmc := rfl
@[simp] theorem State.answered_sts (kind tag : Byte) (p : List Byte) (st : Status) (q : List Byte) :
    (s.answered kind tag p st q).sts = s.sts := rfl
@[simp] theorem State.answered_told (kind tag : Byte) (p : List Byte) (st : Status) (q : List Byte) :
    (s.answered kind tag p st q).told = s.told := rfl
@[simp] theorem State.answered_msgs (kind tag : Byte) (p : List Byte) (st : Status) (q : List Byte) :
    (s.answered kind tag p st q).msgs = s.msgs := rfl
@[simp] theorem State.answered_choices (kind tag : Byte) (p : List Byte) (st : Status) (q : List Byte) :
    (s.answered kind tag p st q).choices = s.choices := rfl
@[simp] theorem State.answered_pending (kind tag : Byte) (p : List Byte) (st : Status) (q : List Byte) :
    (s.answered kind tag p st q).pending = s.pending := rfl

/-! ### emit -/

@[simp] theorem State.emit_power (m : Msg) : (s.emit m).power = s.power := rfl
@[simp] theorem State.emit_clock (m : Msg) : (s.emit m).clock = s.clock := rfl
@[simp] theorem State.emit_pins (m : Msg) : (s.emit m).pins = s.pins := rfl
@[simp] theorem State.emit_txd (m : Msg) : (s.emit m).txd = s.txd := rfl
@[simp] theorem State.emit_tt (m : Msg) : (s.emit m).tt = s.tt := rfl
@[simp] theorem State.emit_gu (m : Msg) : (s.emit m).gu = s.gu := rfl
@[simp] theorem State.emit_au (m : Msg) : (s.emit m).au = s.au := rfl
@[simp] theorem State.emit_ir (m : Msg) : (s.emit m).ir = s.ir := rfl
@[simp] theorem State.emit_te (m : Msg) : (s.emit m).te = s.te := rfl
@[simp] theorem State.emit_ss (m : Msg) : (s.emit m).ss = s.ss := rfl
@[simp] theorem State.emit_pmc (m : Msg) : (s.emit m).pmc = s.pmc := rfl
@[simp] theorem State.emit_lu (m : Msg) : (s.emit m).lu = s.lu := rfl
@[simp] theorem State.emit_sts (m : Msg) : (s.emit m).sts = s.sts := rfl
@[simp] theorem State.emit_told (m : Msg) : (s.emit m).told = s.told := rfl
@[simp] theorem State.emit_choices (m : Msg) : (s.emit m).choices = s.choices := rfl
@[simp] theorem State.emit_pending (m : Msg) : (s.emit m).pending = s.pending := rfl

/-! ### tell -/

@[simp] theorem State.tell_power (ms : List Msg) : (s.tell ms).power = s.power := rfl
@[simp] theorem State.tell_clock (ms : List Msg) : (s.tell ms).clock = s.clock := rfl
@[simp] theorem State.tell_pins (ms : List Msg) : (s.tell ms).pins = s.pins := rfl
@[simp] theorem State.tell_txd (ms : List Msg) : (s.tell ms).txd = s.txd := rfl
@[simp] theorem State.tell_tt (ms : List Msg) : (s.tell ms).tt = s.tt := rfl
@[simp] theorem State.tell_gu (ms : List Msg) : (s.tell ms).gu = s.gu := rfl
@[simp] theorem State.tell_au (ms : List Msg) : (s.tell ms).au = s.au := rfl
@[simp] theorem State.tell_ir (ms : List Msg) : (s.tell ms).ir = s.ir := rfl
@[simp] theorem State.tell_te (ms : List Msg) : (s.tell ms).te = s.te := rfl
@[simp] theorem State.tell_ss (ms : List Msg) : (s.tell ms).ss = s.ss := rfl
@[simp] theorem State.tell_pmc (ms : List Msg) : (s.tell ms).pmc = s.pmc := rfl
@[simp] theorem State.tell_lu (ms : List Msg) : (s.tell ms).lu = s.lu := rfl
@[simp] theorem State.tell_sts (ms : List Msg) : (s.tell ms).sts = s.sts := rfl
@[simp] theorem State.tell_told (ms : List Msg) : (s.tell ms).told = s.told := rfl
@[simp] theorem State.tell_pending (ms : List Msg) : (s.tell ms).pending = s.pending := rfl

/-! ### stopPart -/

@[simp] theorem State.stopPart_clock (p : Power) : (s.stopPart p).clock = s.clock := rfl
@[simp] theorem State.stopPart_pins (p : Power) : (s.stopPart p).pins = s.pins := rfl
@[simp] theorem State.stopPart_txd (p : Power) : (s.stopPart p).txd = s.txd := rfl
@[simp] theorem State.stopPart_tt (p : Power) : (s.stopPart p).tt = s.tt := rfl
@[simp] theorem State.stopPart_gu (p : Power) : (s.stopPart p).gu = s.gu := rfl
@[simp] theorem State.stopPart_au (p : Power) : (s.stopPart p).au = s.au := rfl
@[simp] theorem State.stopPart_ir (p : Power) : (s.stopPart p).ir = s.ir := rfl
@[simp] theorem State.stopPart_te (p : Power) : (s.stopPart p).te = s.te := rfl
@[simp] theorem State.stopPart_ss (p : Power) : (s.stopPart p).ss = s.ss := rfl
@[simp] theorem State.stopPart_pmc (p : Power) : (s.stopPart p).pmc = s.pmc := rfl
@[simp] theorem State.stopPart_lu (p : Power) : (s.stopPart p).lu = s.lu := rfl
@[simp] theorem State.stopPart_told (p : Power) : (s.stopPart p).told = s.told := rfl
@[simp] theorem State.stopPart_msgs (p : Power) : (s.stopPart p).msgs = s.msgs := rfl
@[simp] theorem State.stopPart_choices (p : Power) : (s.stopPart p).choices = s.choices := rfl
@[simp] theorem State.stopPart_pending (p : Power) : (s.stopPart p).pending = s.pending := rfl

/-! ### What the accessors read -/

@[simp] theorem Vector.tabulate_getElem {α : Type} {n : Nat} (f : Fin n → α) (i : Nat) (h : i < n) :
    (Vector.tabulate f)[i] = f ⟨i, h⟩ := by
  simp [Vector.tabulate]

@[simp] theorem State.updTank_tank_self (t : TankIx) (f : TankRecord → TankRecord) :
    (s.updTank t f).tank t = f (s.tank t) := by
  simp [State.updTank, State.tank]

theorem State.updTank_tank_ne {t u : TankIx} (f : TankRecord → TankRecord) (h : u ≠ t) :
    (s.updTank t f).tank u = s.tank u := by
  have : t.val ≠ u.val := fun e => h (Fin.ext e.symm)
  simp [State.updTank, State.tank, Vector.getElem_set_ne, this]

@[simp] theorem State.setGauge_gauge_self (t : TankIx) (c : Option GaugeChannel) : (s.setGauge t c).gauge t = c := by
  simp [State.setGauge, State.gauge]

theorem State.setGauge_gauge_ne {t u : TankIx} (c : Option GaugeChannel) (h : u ≠ t) :
    (s.setGauge t c).gauge u = s.gauge u := by
  have : t.val ≠ u.val := fun e => h (Fin.ext e.symm)
  simp [State.setGauge, State.gauge, Vector.getElem_set_ne, this]

@[simp] theorem State.setTold_tank (b : Block) (t u : TankIx) (g : Option GaugeState) :
    (s.setTold b t g).tank u = s.tank u := by
  cases b <;> rfl

@[simp] theorem State.setToldMoment_told_moment (m : Int) :
    (s.setToldMoment m).told.moment = m := rfl

@[simp] theorem State.setToldMoment_toldGauge (m : Int) (b : Block) (t : TankIx) :
    (s.setToldMoment m).toldGauge b t = s.toldGauge b t := rfl

@[simp] theorem State.setTold_told_moment (b : Block) (t : TankIx) (g : Option GaugeState) :
    (s.setTold b t g).told.moment = s.told.moment := by
  cases b <;> rfl

@[simp] theorem State.setTold_toldGauge_ir (t : TankIx) (g : Option GaugeState) :
    (s.setTold .ir t g).toldGauge .ir t = g := by
  simp [State.setTold, State.toldGauge]

@[simp] theorem State.setTold_toldGauge_te (t : TankIx) (g : Option GaugeState) :
    (s.setTold .te t g).toldGauge .te t = g := by
  simp [State.setTold, State.toldGauge]

@[simp] theorem State.setTold_toldGauge_ss (t : TankIx) (g : Option GaugeState) :
    (s.setTold .ss t g).toldGauge .ss t = g := by
  simp [State.setTold, State.toldGauge]

@[simp] theorem State.updValve_valve_self (v : Valve) (f : ValveRecord → ValveRecord) :
    (s.updValve v f).valve v = f (s.valve v) := by
  simp [State.updValve, State.valve]

theorem State.updValve_valve_ne {v w : Valve} (f : ValveRecord → ValveRecord) (h : w.ix ≠ v.ix) :
    (s.updValve v f).valve w = s.valve w := by
  have : v.ix.val ≠ w.ix.val := fun e => h (Fin.ext e.symm)
  simp [State.updValve, State.valve, Vector.getElem_set_ne, this]

@[simp] theorem State.setPump_pump_self (c : Channel) (p : PumpRecord) : (s.setPump c p).pump c = p := by
  cases c <;> rfl

@[simp] theorem State.setPump_valve (c : Channel) (p : PumpRecord) (v : Valve) :
    (s.setPump c p).valve v = s.valve v := by
  cases c <;> rfl

/-- Two updates of one valve are one. -/
theorem State.updValve_updValve (v : Valve) (f g : ValveRecord → ValveRecord) :
    (s.updValve v f).updValve v g = s.updValve v fun r => g (f r) := by simp [State.updValve]

/-- An update of a valve depends on what it makes of that valve's record alone. -/
theorem State.updValve_congr {v : Valve} {f g : ValveRecord → ValveRecord} (h : f (s.valve v) = g (s.valve v)) :
    s.updValve v f = s.updValve v g := by
  simp only [State.updValve]
  congr 3

@[simp] theorem State.updValve_pump (v : Valve) (f : ValveRecord → ValveRecord) (c : Channel) :
    (s.updValve v f).pump c = s.pump c := by
  cases c <;> rfl

@[simp] theorem State.updSource_source_self (x : Source) (f : SourceRecord → SourceRecord) :
    (s.updSource x f).source x = f (s.source x) := by
  cases x <;> rfl

theorem State.updSource_source_ne {x y : Source} (f : SourceRecord → SourceRecord) (h : y ≠ x) :
    (s.updSource x f).source y = s.source y := by
  cases x <;> cases y <;> first | rfl | exact absurd rfl h

@[simp] theorem State.updSource_main (x : Source) (f : SourceRecord → SourceRecord) :
    (s.updSource x f).ir.main = s.ir.main := by
  cases x <;> rfl

@[simp] theorem State.updSource_rules (x : Source) (f : SourceRecord → SourceRecord) :
    (s.updSource x f).ir.rules = s.ir.rules := by
  cases x <;> rfl

@[simp] theorem State.setMainRaw_main (m : ProductMain) : (s.setMainRaw m).ir.main = m := rfl

@[simp] theorem State.setMainRaw_source (m : ProductMain) (x : Source) : (s.setMainRaw m).source x = s.source x := by
  cases x <;> rfl

@[simp] theorem State.updChan_chan_self (c : Channel) (f : ChannelRecord → ChannelRecord) :
    (s.updChan c f).chan c = f (s.chan c) := by
  cases c <;> rfl

@[simp] theorem State.updChan_chan_other (c : Channel) (f : ChannelRecord → ChannelRecord) :
    (s.updChan c f).chan c.other = s.chan c.other := by
  cases c <;> rfl

@[simp] theorem State.updChan_orders (c : Channel) (f : ChannelRecord → ChannelRecord) :
    (s.updChan c f).te.orders = s.te.orders := by
  cases c <;> rfl

@[simp] theorem State.updChan_order (c : Channel) (f : ChannelRecord → ChannelRecord) (id : Nat) :
    (s.updChan c f).order id = s.order id := by
  cases c <;> rfl

@[simp] theorem State.updOrder_chan (id : Nat) (f : Order → Order) (c : Channel) :
    (s.updOrder id f).chan c = s.chan c := by
  cases c <;> rfl

@[simp] theorem State.updSupply_ss (f : SupplySelector → SupplySelector) : (s.updSupply f).ss = f s.ss := rfl

@[simp] theorem State.updMode_pmc (f : ModeController → ModeController) : (s.updMode f).pmc = f s.pmc := rfl

@[simp] theorem State.emit_msgs (m : Msg) : (s.emit m).msgs = s.msgs ++ [m] := rfl

end Sys2Proof.Machine
end

