-- ==== Sys2Proof/Laws/Actuators.lean ====
section
/-!
SUPPORT. What the Actuator Unit's operations can touch: valves and pumps but for reported positions, feedback, faults and fault
reasons, the report queue, and the notices in flight, one lemma per operation; and what the movement rules of a valve do.
-/
namespace Sys2Proof.Machine

/-- A valve with all hidden that a command may change: end commanded, demand, mark, driver, movement. Its reported position,
its fault and the reason of it stay visible. -/
def ValveRecord.still (r : ValveRecord) : ValveRecord :=
  { r with commanded := .a, demand := .a, hostMark := false, driver := .start,
           state := if r.state = .fault then .fault else .atA, timer := none, resetting := false }

/-- A pump with all hidden that a command may change. -/
def PumpRecord.still (r : PumpRecord) : PumpRecord :=
  { r with run := false, state := if r.state = .fault then .fault else .stopped, timer := none }

/-- A transfer channel with all hidden but its settings, its totalizer and its residue. -/
def ChannelRecord.still (r : ChannelRecord) : ChannelRecord :=
  { ChannelRecord.start .stopped r.totalizer with
    meterFactor := r.meterFactor, noFlowTime := r.noFlowTime, residue := r.residue }

/-- What an operation of the Actuator Unit cannot touch. -/
def State.beyondActuators (s : State) : State :=
  { s with
    au := { s.au with valves := s.au.valves.map ValveRecord.still, tp1 := s.au.tp1.still, tp2 := s.au.tp2.still },
    lu := { s.lu with queue := [], overflow := false }, msgs := [], choices := [] }

theorem map_set_same {α β : Type} {n : Nat} (g : α → β) (v : Vector α n) (i : Nat) (hi : i < n) (x : α)
    (h : g x = g v[i]) : (v.set i x hi).map g = v.map g := by
  ext j hj
  simp only [Vector.getElem_map, Vector.getElem_set]
  split
  · subst_vars; exact h
  · rfl

theorem foldl_same {α β γ : Type} (g : α → β) (f : α → γ → α) (h : ∀ a x, g (f a x) = g a) (l : List γ) (a : α) :
    g (l.foldl f a) = g a := by
  induction l generalizing a with
  | nil => rfl
  | cons x l ih => exact (ih _).trans (h a x)

variable (s : State)

@[simp] theorem State.report_beyondActuators (k : ReportKind) (a b c : Nat) :
    (s.report k a b c).beyondActuators = s.beyondActuators := by
  simp only [State.report, State.append, LinkUnit.append, State.beyondActuators]
  split
  · split <;> rfl
  · rfl

@[simp] theorem State.append_beyondActuators (r : Report) : (s.append r).beyondActuators = s.beyondActuators := by
  simp only [State.append, LinkUnit.append, State.beyondActuators]
  split
  · split <;> rfl
  · rfl

@[simp] theorem State.emit_beyondActuators (m : Msg) : (s.emit m).beyondActuators = s.beyondActuators := rfl
@[simp] theorem State.tell_beyondActuators (m : List Msg) : (s.tell m).beyondActuators = s.beyondActuators := rfl

theorem State.updValve_beyondActuators (v : Valve) (f : ValveRecord → ValveRecord)
    (h : (f (s.valve v)).still = (s.valve v).still) : (s.updValve v f).beyondActuators = s.beyondActuators := by
  have := map_set_same ValveRecord.still s.au.valves v.ix.val v.ix.isLt _ h
  simp only [State.updValve, State.beyondActuators]
  congr 2

theorem State.setPump_beyondActuators (c : Channel) (p : PumpRecord) (h : p.still = (s.pump c).still) :
    (s.setPump c p).beyondActuators = s.beyondActuators := by
  cases c <;> simp only [State.setPump, State.beyondActuators, State.pump] at * <;> rw [h]

@[simp] theorem State.emit_valve (m : Msg) (v : Valve) : (s.emit m).valve v = s.valve v := rfl
@[simp] theorem State.report_valve (k : ReportKind) (a b c : Nat) (v : Valve) : (s.report k a b c).valve v = s.valve v := rfl

theorem State.arrive_beyondActuators (v : Valve) (e : ValveEnd) (h : (s.valve v).state ≠ .fault) :
    (s.arrive v e).beyondActuators = s.beyondActuators := by
  have := State.updValve_beyondActuators s v
    (fun r => { r with timer := none, state := e.atEnd, resetting := false })
    (by cases e <;> simp [ValveRecord.still, ValveEnd.atEnd, h])
  simp only [State.arrive]
  split <;> simpa using this

theorem State.startMove_beyondActuators (v : Valve) (e : ValveEnd) (h : (s.valve v).state ≠ .fault) :
    (s.startMove v e).beyondActuators = s.beyondActuators := by
  have k := State.updValve_beyondActuators s v
    (fun r => { r with commanded := e, state := e.moving, timer := some (after s.clock (s.au.travelTimeout * 10)) })
    (by cases e <;> simp [ValveRecord.still, ValveEnd.moving, h])
  simp only [State.startMove]
  split
  · rw [State.arrive_beyondActuators _ _ _ (by cases e <;> simp [ValveEnd.moving]), k]
  · exact k

theorem State.drive_beyondActuators (v : Valve) (e : ValveEnd) (h : (s.valve v).state ≠ .fault) :
    (s.drive v e).beyondActuators = s.beyondActuators := by
  simp only [State.drive]
  split
  · rfl
  · exact State.startMove_beyondActuators s v e h

/-- All that the movement rules of R55 do for a driver other than RESET: nothing where the valve holds the end or moves to it;
the end at once, told to an owner, where the reported position shows it; else a movement with the full travel timeout. -/
theorem State.drive_eq (v : Valve) (e : ValveEnd) (h : (s.valve v).driver ≠ .reset) :
    s.drive v e =
      if (s.valve v).state = e.atEnd ∨ (s.valve v).state = e.moving then s
      else if (s.valve v).reported = e.position then
        (if (s.valve v).driver = .owner then State.emit (.valve v e.answer) else id) (s.updValve v fun r =>
          { r with commanded := e, state := e.atEnd, timer := none, resetting := false })
      else s.updValve v fun r =>
        { r with commanded := e, state := e.moving, timer := some (after s.clock (s.au.travelTimeout * 10)) } := by
  simp only [State.drive, State.startMove, State.arrive, State.updValve_valve_self, State.updValve_updValve]
  split
  · rfl
  · split
    · cases hd : (s.valve v).driver <;> simp_all
    · rfl

theorem State.returnValve_beyondActuators (v : Valve) : (s.returnValve v).beyondActuators = s.beyondActuators := by
  simp only [State.returnValve]
  split
  · split
    · exact State.updValve_beyondActuators s v _ rfl
    · rename_i h
      rw [State.drive_beyondActuators _ _ _ (by simpa using h)]
      exact State.updValve_beyondActuators s v _ rfl
  · rfl

@[simp] theorem State.returnAll_beyondActuators : s.returnAll.beyondActuators = s.beyondActuators :=
  foldl_same State.beyondActuators _ (fun a x => State.returnValve_beyondActuators a x) _ _

@[simp] theorem State.command_beyondActuators (v : Valve) (e : ValveEnd) :
    (s.command v e).beyondActuators = s.beyondActuators := by
  have k := foldl_same State.beyondActuators State.returnValve (fun a x => State.returnValve_beyondActuators a x)
    (v.owner.valves.filter (· ≠ v)) s
  simp only [State.command]
  generalize (v.owner.valves.filter (· ≠ v)).foldl State.returnValve s = x at k
  have k1 := (State.updValve_beyondActuators x v (fun r => { r with hostMark := false, demand := e }) rfl).trans k
  split
  · simpa using k1
  · rename_i h
    have k2 := (State.updValve_beyondActuators _ v (fun r => { r with driver := .owner, resetting := false }) rfl).trans k1
    split
    · simpa using k2
    · rw [State.drive_beyondActuators _ _ _ (by simpa using h), k2]

@[simp] theorem State.pumpRunning_beyondActuators (c : Channel) (h : (s.pump c).state ≠ .fault) :
    (s.pumpRunning c).beyondActuators = s.beyondActuators := by
  simp only [State.pumpRunning, State.emit_beyondActuators]
  exact State.setPump_beyondActuators s c _ (by simp [PumpRecord.still, h])

@[simp] theorem State.pumpStopped_beyondActuators (c : Channel) (h : (s.pump c).state ≠ .fault) :
    (s.pumpStopped c).beyondActuators = s.beyondActuators := by
  simp only [State.pumpStopped, State.emit_beyondActuators]
  exact State.setPump_beyondActuators s c _ (by simp [PumpRecord.still, h])

@[simp] theorem State.pumpStart_beyondActuators (c : Channel) : (s.pumpStart c).beyondActuators = s.beyondActuators := by
  have k (h : (s.pump c).state ≠ .fault) := State.setPump_beyondActuators s c
    { s.pump c with run := true, state := .starting, timer := some (after s.clock 50) } (by simp [PumpRecord.still, h])
  simp only [State.pumpStart]
  split <;> rename_i h
  · split <;> simp [k, h]
  · split <;> simp [k, h]
  · rfl
  · rfl
  · rfl

@[simp] theorem State.pumpStop_beyondActuators (c : Channel) : (s.pumpStop c).beyondActuators = s.beyondActuators := by
  have k (h : (s.pump c).state ≠ .fault) := State.setPump_beyondActuators s c
    { s.pump c with run := false, state := .stopping, timer := some (after s.clock 100) } (by simp [PumpRecord.still, h])
  simp only [State.pumpStop]
  split <;> rename_i h
  · split <;> simp [k, h]
  · split <;> simp [k, h]
  · rfl
  · rfl
  · rfl

end Sys2Proof.Machine
end

