-- ==== Sys2Proof/Laws/Tanks.lean ====
section
/-!
SUPPORT. What the Tank Table's operations can touch. Two views: what none of its operations can touch, and what entries
(section 1.8) cannot touch, which leave everything of a tank but its entries and the class of an empty tank (R20).
-/
namespace Sys2Proof.Machine

/-- What an operation of the Tank Table cannot touch: all but its own records, the report queue and the notices. -/
def State.beyondTanks (s : State) : State :=
  { s with
    tt := TankTable.start fun _ => .quarantine, lu := { s.lu with queue := [], overflow := false },
    msgs := [], choices := [] }

/-- What an entry notice and an entry end cannot touch. -/
def State.beyondEntries (s : State) : State :=
  { s with
    tt := { s.tt with tanks := s.tt.tanks.map TankRecord.standing },
    lu := { s.lu with queue := [], overflow := false }, msgs := [], choices := [] }

variable (s : State)

@[simp] theorem State.append_beyondTanks (r : Report) : (s.append r).beyondTanks = s.beyondTanks := by
  simp only [State.append, LinkUnit.append, State.beyondTanks]
  split
  · split <;> rfl
  · rfl

@[simp] theorem State.report_beyondTanks (k : ReportKind) (a b c : Nat) :
    (s.report k a b c).beyondTanks = s.beyondTanks := State.append_beyondTanks s _

@[simp] theorem State.emit_beyondTanks (m : Msg) : (s.emit m).beyondTanks = s.beyondTanks := rfl
@[simp] theorem State.tell_beyondTanks (m : List Msg) : (s.tell m).beyondTanks = s.beyondTanks := rfl

@[simp] theorem State.updTank_beyondTanks (t : TankIx) (f : TankRecord → TankRecord) :
    (s.updTank t f).beyondTanks = s.beyondTanks := rfl

@[simp] theorem State.tellTank_beyondTanks (t : TankIx) (d : Bool) (k : ClassCause) (r : TankRecord) :
    (s.tellTank t d k r).beyondTanks = s.beyondTanks := by
  simp only [State.tellTank]
  split <;> rfl

@[simp] theorem State.reMoment_beyondTanks : s.reMoment.beyondTanks = s.beyondTanks := by
  simp only [State.reMoment]
  split <;> rfl

@[simp] theorem State.takeCrossing_beyondTanks (t : TankIx) (vol : Nat) (n : NoticeEnables) (x : Threshold × Direction) :
    (State.takeCrossing t vol n s x).beyondTanks = s.beyondTanks := by
  simp only [State.takeCrossing]
  (repeat' split) <;> simp

@[simp] theorem State.takeStates_beyondTanks (t : TankIx) (vol : Nat) (new : ThStates) :
    (s.takeStates t vol new).beyondTanks = s.beyondTanks := by
  simp only [State.takeStates]
  split
  · rw [foldl_same State.beyondTanks _ (fun a x => State.takeCrossing_beyondTanks a t vol _ x)]
    rfl
  · rfl

@[simp] theorem State.publish_beyondTanks (t : TankIx) (level vol : Nat) (g : GaugeState) :
    (s.publish t level vol g).beyondTanks = s.beyondTanks := by
  simp only [State.publish]
  split
  · rfl
  · simp

@[simp] theorem State.hold_beyondTanks (t : TankIx) : (s.hold t).beyondTanks = s.beyondTanks := rfl

@[simp] theorem State.dropPublished_beyondTanks (t : TankIx) : (s.dropPublished t).beyondTanks = s.beyondTanks := by
  simp [State.dropPublished]

@[simp] theorem State.setService_beyondTanks (t : TankIx) (v : Service) :
    (s.setService t v).beyondTanks = s.beyondTanks := by
  simp [State.setService]

@[simp] theorem State.setLimits_beyondTanks (t : TankIx) (m : Limits) :
    (s.setLimits t m).beyondTanks = s.beyondTanks := by
  simp only [State.setLimits]
  split
  · split <;> simp
  · rfl

@[simp] theorem State.changeClass_beyondTanks (t : TankIx) (c : QClass) :
    (s.changeClass t c).beyondTanks = s.beyondTanks := by
  simp only [State.changeClass]
  split
  · rfl
  · rw [State.tellTank_beyondTanks, foldl_same State.beyondTanks _ (fun a x => State.emit_beyondTanks a _)]
    rfl

@[simp] theorem State.append_beyondEntries (r : Report) : (s.append r).beyondEntries = s.beyondEntries := by
  simp only [State.append, LinkUnit.append, State.beyondEntries]
  split
  · split <;> rfl
  · rfl

@[simp] theorem State.report_beyondEntries (k : ReportKind) (a b c : Nat) :
    (s.report k a b c).beyondEntries = s.beyondEntries := State.append_beyondEntries s _

theorem State.updTank_beyondEntries (t : TankIx) (f : TankRecord → TankRecord)
    (h : (f (s.tank t)).standing = (s.tank t).standing) : (s.updTank t f).beyondEntries = s.beyondEntries := by
  have := map_set_same TankRecord.standing s.tt.tanks t.val t.isLt _ h
  simp only [State.updTank, State.beyondEntries]
  congr 2

@[simp] theorem State.tellTank_beyondEntries (t : TankIx) (d : Bool) (k : ClassCause) (r : TankRecord) :
    (s.tellTank t d k r).beyondEntries = s.beyondEntries := by
  simp only [State.tellTank]
  split <;> rfl

@[simp] theorem State.entryEnd_beyondEntries (t : TankIx) (e : Entrant) :
    (s.entryEnd t e).beyondEntries = s.beyondEntries :=
  State.updTank_beyondEntries s t _ rfl

@[simp] theorem State.entryNotice_beyondEntries (t : TankIx) (e : Entrant) (c : QClass) :
    (s.entryNotice t e c).2.beyondEntries = s.beyondEntries := by
  simp only [State.entryNotice]
  split
  · rfl
  · split
    · rename_i h
      have h : (s.tank t).empty = true := by
        simp only [Bool.and_eq_true] at h
        exact h.1
      have k (es : List Entry) := State.updTank_beyondEntries s t (fun r => { r with cls := c, entries := r.entries ++ es })
        (by simp [TankRecord.standing, h])
      split <;> simp [k]
    · split
      · exact State.updTank_beyondEntries s t _ rfl
      · rfl

end Sys2Proof.Machine
end

