-- ==== Sys2Proof/Laws/Intake.lean ====
section
/-!
SUPPORT. What the Intake Router's operations can touch, the settings and the samples apart: its records but for what a
source keeps, the entries of tanks, its valves, the report queue and the notices.
-/
namespace Sys2Proof.Machine

/-- What an operation of the Intake Router cannot touch. -/
def State.beyondIntake (s : State) : State :=
  { s with
    tt := { s.tt with tanks := s.tt.tanks.map TankRecord.standing },
    au := { s.au with valves := s.au.valves.map ValveRecord.still, tp1 := s.au.tp1.still, tp2 := s.au.tp2.still },
    ir :=
      { wm1 := s.ir.wm1.standing, wm2 := s.ir.wm2.standing, shore := s.ir.shore.standing, rules := s.ir.rules,
        main := ProductMain.unused },
    lu := { s.lu with queue := [], overflow := false }, msgs := [], choices := [] }

/-- Equal beyond the actuators, equal beyond the router. -/
theorem State.beyondIntake_of_actuators {a b : State} (h : a.beyondActuators = b.beyondActuators) :
    a.beyondIntake = b.beyondIntake :=
  congrArg
    (fun s : State => { s with
      tt := { s.tt with tanks := s.tt.tanks.map TankRecord.standing },
      ir :=
        { wm1 := s.ir.wm1.standing, wm2 := s.ir.wm2.standing, shore := s.ir.shore.standing, rules := s.ir.rules,
          main := ProductMain.unused } }) h

/-- Equal beyond the entries, equal beyond the router. -/
theorem State.beyondIntake_of_entries {a b : State} (h : a.beyondEntries = b.beyondEntries) :
    a.beyondIntake = b.beyondIntake :=
  congrArg
    (fun s : State => { s with
      au := { s.au with valves := s.au.valves.map ValveRecord.still, tp1 := s.au.tp1.still, tp2 := s.au.tp2.still },
      ir :=
        { wm1 := s.ir.wm1.standing, wm2 := s.ir.wm2.standing, shore := s.ir.shore.standing, rules := s.ir.rules,
          main := ProductMain.unused } }) h

variable (s : State)

@[simp] theorem State.report_beyondIntake (k : ReportKind) (a b c : Nat) :
    (s.report k a b c).beyondIntake = s.beyondIntake := State.beyondIntake_of_actuators (by simp)

@[simp] theorem State.emit_beyondIntake (m : Msg) : (s.emit m).beyondIntake = s.beyondIntake := rfl

@[simp] theorem State.command_beyondIntake (v : Valve) (e : ValveEnd) :
    (s.command v e).beyondIntake = s.beyondIntake := State.beyondIntake_of_actuators (by simp)

@[simp] theorem State.entryEnd_beyondIntake (t : TankIx) (e : Entrant) :
    (s.entryEnd t e).beyondIntake = s.beyondIntake := State.beyondIntake_of_entries (by simp)

@[simp] theorem State.entryNotice_beyondIntake (t : TankIx) (e : Entrant) (c : QClass) :
    (s.entryNotice t e c).2.beyondIntake = s.beyondIntake := State.beyondIntake_of_entries (by simp)

theorem State.updSource_beyondIntake (x : Source) (f : SourceRecord → SourceRecord)
    (h : (f (s.source x)).standing = (s.source x).standing) : (s.updSource x f).beyondIntake = s.beyondIntake := by
  cases x <;> simp only [State.updSource, State.beyondIntake, State.source] at * <;> rw [h]

@[simp] theorem State.setMainRaw_beyondIntake (m : ProductMain) : (s.setMainRaw m).beyondIntake = s.beyondIntake := rfl

/-! ### State changes with their reports -/

@[simp] theorem State.setMaker_beyondIntake (w : Watermaker) (st : SourceState) (d : Option DumpReason) :
    (s.setMaker w st d).beyondIntake = s.beyondIntake := by
  simp only [State.setMaker]
  split
  · rfl
  · rw [State.report_beyondIntake, State.updSource_beyondIntake _ _ _ rfl]

@[simp] theorem State.setShore_beyondIntake (st : SourceState) (e : Option EndReason) :
    (s.setShore st e).beyondIntake = s.beyondIntake := by
  have k := State.updSource_beyondIntake s .shore (fun r => { r with state := st, endReason := e }) rfl
  simp only [State.setShore]
  split
  · rw [State.report_beyondIntake, k]
  · exact k

@[simp] theorem State.setMain_beyondIntake (m : ProductMain) : (s.setMain m).beyondIntake = s.beyondIntake := by
  simp only [State.setMain]
  split <;> simp

@[simp] theorem State.updatePermit_beyondIntake (w : Watermaker) : (s.updatePermit w).beyondIntake = s.beyondIntake := by
  have k := State.updSource_beyondIntake s w.source (fun r => { r with permit := s.permitStatus w }) rfl
  simp only [State.updatePermit]
  split
  · rfl
  · split
    · exact k
    · rw [State.report_beyondIntake, k]

@[simp] theorem State.inhibit_beyondIntake (w : Watermaker) (c : InhibitCause) :
    (s.inhibit w c).beyondIntake = s.beyondIntake := by
  simp only [State.inhibit]
  split
  · rfl
  · rw [State.updatePermit_beyondIntake, State.report_beyondIntake, State.updSource_beyondIntake _ _ _ rfl]

@[simp] theorem State.keepDumpTimer_beyondIntake (w : Watermaker) : (s.keepDumpTimer w).beyondIntake = s.beyondIntake := by
  simp only [State.keepDumpTimer]
  split
  · exact State.updSource_beyondIntake s _ _ rfl
  · exact State.updSource_beyondIntake s _ _ rfl
  · rfl

@[simp] theorem State.keepDumpTimers_beyondIntake : s.keepDumpTimers.beyondIntake = s.beyondIntake := by
  simp [State.keepDumpTimers]

/-! ### The product main -/

@[simp] theorem State.closeOutlet_beyondIntake (x : Source) : (s.closeOutlet x).beyondIntake = s.beyondIntake := by
  simp only [State.closeOutlet]
  (repeat' split) <;> simp

@[simp] theorem State.openOutlet_beyondIntake (x : Source) : (s.openOutlet x).beyondIntake = s.beyondIntake :=
  State.command_beyondIntake s _ _

@[simp] theorem State.turnAway_beyondIntake (x : Source) (d : DumpReason) :
    (s.turnAway x d).beyondIntake = s.beyondIntake := by
  simp only [State.turnAway]
  (repeat' split) <;> simp

@[simp] theorem State.shedOne_beyondIntake (x : Source) : (s.shedOne x).beyondIntake = s.beyondIntake := by
  simp only [State.shedOne]
  split
  · split
    · rfl
    · rw [State.turnAway_beyondIntake, State.setMainRaw_beyondIntake, State.updSource_beyondIntake _ _ _ rfl,
        State.closeOutlet_beyondIntake]
  · rfl

@[simp] theorem State.shedJoined_beyondIntake : s.shedJoined.beyondIntake = s.beyondIntake :=
  foldl_same State.beyondIntake _ (fun a x => State.shedOne_beyondIntake a x) _ _

@[simp] theorem State.headFor_beyondIntake (t : TankIx) (st : MainState) :
    (s.headFor t st).beyondIntake = s.beyondIntake := by
  simp [State.headFor]

@[simp] theorem State.changeover_beyondIntake : s.changeover.1.beyondIntake = s.beyondIntake := by
  simp only [State.changeover]
  split <;> simp

@[simp] theorem State.loseNext_beyondIntake : s.loseNext.1.beyondIntake = s.beyondIntake := by
  simp only [State.loseNext]
  (repeat' split) <;> simp

@[simp] theorem State.release_beyondIntake : s.release.beyondIntake = s.beyondIntake := by
  have k (ts : List TankIx) (x : State) :
      (ts.foldl (fun (s : State) t => s.command (.tank t .intake) .a) x).beyondIntake = x.beyondIntake :=
    foldl_same State.beyondIntake _ (fun a _ => State.command_beyondIntake a _ _) _ _
  have k1 (ts : List TankIx) (x : State) :
      (ts.foldl (fun (s : State) t => s.entryEnd t .intake) x).beyondIntake = x.beyondIntake :=
    foldl_same State.beyondIntake _ (fun a _ => State.entryEnd_beyondIntake a _ _) _ _
  simp only [State.release, State.emit_beyondIntake, State.setMain_beyondIntake, k, k1]

@[simp] theorem State.tankForHolder_beyondIntake : s.tankForHolder.1.beyondIntake = s.beyondIntake := by
  simp only [State.tankForHolder]
  (repeat' split) <;> simp

@[simp] theorem State.leaveMain_beyondIntake (n : Nat) (x : Source) : (s.leaveMain n x).beyondIntake = s.beyondIntake := by
  induction n generalizing s x with
  | zero => rfl
  | succ n ih =>
    have k : ((s.closeOutlet x).updSource x fun r => { r with route := none }).beyondIntake = s.beyondIntake := by
      rw [State.updSource_beyondIntake _ _ _ rfl, State.closeOutlet_beyondIntake]
    simp only [State.leaveMain]
    split
    · exact k
    · split
      · split
        · rw [State.release_beyondIntake, k]
        · split
          · rw [State.tankForHolder_beyondIntake]
            exact k
          · rw [State.turnAway_beyondIntake, ih, State.tankForHolder_beyondIntake]
            exact k
      · exact k

@[simp] theorem State.holderOverflow_beyondIntake : s.holderOverflow.beyondIntake = s.beyondIntake := by
  simp only [State.holderOverflow]
  split <;> simp

@[simp] theorem State.orOverflow_beyondIntake (r : State × Bool) :
    (State.orOverflow r).beyondIntake = r.1.beyondIntake := by
  simp only [State.orOverflow]
  split <;> simp

@[simp] theorem State.interrupt_beyondIntake : s.interrupt.beyondIntake = s.beyondIntake := by
  have k (xs : List Source) (y : State) :
      (xs.foldl (fun (s : State) x =>
        match x with
        | .shore => if s.ir.shore.state = .filling then (s.command .shore .a).setShore .opening none else s
        | _ => s.closeOutlet x) y).beyondIntake = y.beyondIntake := by
    refine foldl_same State.beyondIntake _ (fun a x => ?_) _ _
    (repeat' split) <;> simp
  have k1 (ts : List TankIx) (y : State) :
      (ts.foldl (fun (s : State) t =>
        (if (s.valve (.tank t .intake)).state = ValveState.fault then s else s.command (.tank t .intake) .a).entryEnd t .intake)
          y).beyondIntake = y.beyondIntake := by
    refine foldl_same State.beyondIntake _ (fun a x => ?_) _ _
    rw [State.entryEnd_beyondIntake]
    split <;> simp
  have k2 : ∀ y : State, y.beyondIntake = s.beyondIntake → (match s.ir.main.next with
      | some _ => y.setMain { y.ir.main with state := .opening, current := none }
      | none =>
        match s.ir.main.cls.bind fun c =>
            (y.setMainRaw { y.ir.main with state := .opening, current := none }).choose
              (y.setMainRaw { y.ir.main with state := .opening, current := none }).holderGroup c none with
        | some t => (y.setMainRaw { y.ir.main with state := .opening, current := none }).headFor t .opening
        | none => (y.setMainRaw { y.ir.main with state := .opening, current := none }).holderOverflow).beyondIntake =
        s.beyondIntake := by
    intro y h
    (repeat' split) <;> simp [h]
  exact k2 _ ((k1 _ _).trans (k _ _))

@[simp] theorem State.nextOpened_beyondIntake (t : TankIx) : (s.nextOpened t).beyondIntake = s.beyondIntake := by
  have k (xs : List TankIx) (y : State) :
      (xs.foldl (fun (s : State) u => (s.command (.tank u .intake) .a).entryEnd u .intake) y).beyondIntake =
        y.beyondIntake := by
    refine foldl_same State.beyondIntake _ (fun a x => ?_) _ _
    simp
  have k1 (xs : List Source) (y : State) : (xs.foldl State.openOutlet y).beyondIntake = y.beyondIntake :=
    foldl_same State.beyondIntake _ (fun a x => State.openOutlet_beyondIntake a x) _ _
  simp only [State.nextOpened]
  split
  · rfl
  · split
    · simp
    · split
      · rw [State.setMain_beyondIntake, k, State.entryNotice_beyondIntake]
      · rw [k1, State.setMain_beyondIntake, State.entryNotice_beyondIntake]

/-! ### Decisions -/

@[simp] theorem State.keepOff_beyondIntake (x : Source) (d : DumpReason) :
    (s.keepOff x d).beyondIntake = s.beyondIntake := by
  simp only [State.keepOff]
  (repeat' split) <;> simp

@[simp] theorem State.setOnMain_beyondIntake (x : Source) : (s.setOnMain x).beyondIntake = s.beyondIntake := by
  simp only [State.setOnMain]
  split <;> simp

@[simp] theorem State.ask_beyondIntake (x : Source) (rt : Route) : (s.ask x rt).beyondIntake = s.beyondIntake := by
  have k := State.updSource_beyondIntake s x (fun r => { r with route := some rt }) rfl
  simp only [State.ask]
  (repeat' split) <;> simp [k]

@[simp] theorem State.endShore_beyondIntake (e : EndReason) : (s.endShore e).beyondIntake = s.beyondIntake := by
  have k (x : State) : (x.updSource .shore fun r => { r with rule := none }).beyondIntake = x.beyondIntake :=
    State.updSource_beyondIntake _ _ _ rfl
  simp only [State.endShore]
  (repeat' split) <;> simp [k]

@[simp] theorem State.decideFor_beyondIntake (x : Source) : (s.decideFor x).beyondIntake = s.beyondIntake := by
  have k (k' : Option Nat) := State.updSource_beyondIntake s x (fun r => { r with rule := k' }) rfl
  have k1 (y : State) (rt : Route) := State.updSource_beyondIntake y x (fun r => { r with route := some rt }) rfl
  simp only [State.decideFor]
  (repeat' split) <;> simp [k, k1]

@[simp] theorem State.decideIf_beyondIntake (x : Source) : (s.decideIf x).beyondIntake = s.beyondIntake := by
  simp only [State.decideIf]
  split <;> simp

@[simp] theorem State.decideAll_beyondIntake : s.decideAll.beyondIntake = s.beyondIntake :=
  foldl_same State.beyondIntake _ (fun a x => State.decideIf_beyondIntake a x) _ _

/-! ### Notices and answers -/

@[simp] theorem State.mainOnTank_beyondIntake (t : TankIx) : (s.mainOnTank t).beyondIntake = s.beyondIntake := by
  simp only [State.mainOnTank]
  (repeat' split) <;> simp

@[simp] theorem State.intakeTank_beyondIntake (t : TankIx) : (s.intakeTank t).beyondIntake = s.beyondIntake := by
  simp [State.intakeTank]

@[simp] theorem State.intakeConflict_beyondIntake (t : TankIx) : (s.intakeConflict t).beyondIntake = s.beyondIntake := by
  simp only [State.intakeConflict, State.decideAll_beyondIntake]
  split <;> simp

@[simp] theorem State.intakeValve_beyondIntake (v : Valve) (a : ValveAnswer) :
    (s.intakeValve v a).beyondIntake = s.beyondIntake := by
  simp only [State.intakeValve, State.decideAll_beyondIntake]
  (repeat' split) <;> simp

theorem State.setGrade_beyondIntake (w : Watermaker) (g : Grade) : (s.setGrade w.source g).beyondIntake = s.beyondIntake := by
  have k := State.updSource_beyondIntake s w.source (fun r => { r with grade := g, counter := 0, worst := none }) rfl
  simp only [State.setGrade]
  split
  · exact k
  · rw [State.report_beyondIntake, k]

@[simp] theorem State.makerRise_beyondIntake (w : Watermaker) : (s.makerRise w).beyondIntake = s.beyondIntake := by
  have k (y : State) := State.updSource_beyondIntake y w.source
    (fun r => { r with flush := some (after y.clock (r.settings.flushTime * 10)) }) rfl
  simp only [State.makerRise]
  (repeat' split) <;> simp [k, State.setGrade_beyondIntake]

@[simp] theorem State.makerFall_beyondIntake (w : Watermaker) : (s.makerFall w).beyondIntake = s.beyondIntake := by
  have k := State.updSource_beyondIntake (s.setMaker w .stopped none) w.source
    (fun r => { r with flush := none, dump := none, rule := none }) rfl
  simp only [State.makerFall]
  (repeat' split) <;> simp [k]

@[simp] theorem State.dumpExpired_beyondIntake (w : Watermaker) : (s.dumpExpired w).beyondIntake = s.beyondIntake := by
  simp only [State.dumpExpired]
  split <;> simp

@[simp] theorem State.intakeMode_beyondIntake (old new : Mode) :
    (s.intakeMode old new).beyondIntake = s.beyondIntake := by
  simp only [State.intakeMode, State.decideAll_beyondIntake]
  (repeat' split) <;> simp

@[simp] theorem State.endFlush_beyondIntake (w : Watermaker) : (s.endFlush w).beyondIntake = s.beyondIntake := by
  simp only [State.endFlush]
  split
  · rw [State.decideFor_beyondIntake, State.updSource_beyondIntake _ _ _ rfl]
  · rfl

end Sys2Proof.Machine
end

