-- ==== Sys2Proof/Laws/Link.lean ====
section
/-!
SUPPORT. How an event reaches the blocks and leaves them: the frame of a request, its reply, and the delivery of notices.
-/
namespace Sys2Proof.Machine

variable (s : State)

/-- An event happens to a part that runs. -/
theorem State.react_on (f : State → State) (h : s.power = .on) : s.react f = (f s).deliver := by
  simp [State.react, h]

/-- No event happens to a part that is off or held. -/
theorem State.react_off (f : State → State) (h : s.power ≠ .on) : s.react f = s := by
  simp [State.react, h]

/-- The state in which the owner of a request finds the part: the framer in HUNT, the request in the intake. -/
def State.taken (r : Request) (s : State) : State :=
  { s with lu := { s.lu with framer := .hunt, intake := s.lu.intake ++ [r] } }

/-- The reply joins the reply sequence. -/
def State.replied (r : Request) (a : Answer) (s : State) : State :=
  { s with lu := { s.lu with replies := s.lu.replies ++ [⟨r.kind, r.tag, a.status, a.payload, false⟩] } }

/-- A request that the link takes: its owner answers, the reply is queued, and the notices are delivered (R175 to R177). -/
theorem State.frame_listening (r : Request) (h : s.listening) :
    s.frame r = (State.replied r ((s.taken r).answer r).1 ((s.taken r).answer r).2).deliver := by
  obtain ⟨h1, h2, h3⟩ := h
  have k : (s.setFramer .hunt).receive r = (s.setFramer .hunt).serve r := by
    simp only [State.receive, State.setFramer, h2, Bool.false_eq_true, if_false, h3, if_true]
  rw [State.frame, State.react_on s _ h1, k]
  rfl

/-- A request whose answer leaves the state as it found it leaves the link's record of it alone. -/
theorem State.frame_unchanged (r : Request) (a : Answer) (h : s.listening)
    (ha : (s.taken r).answer r = (a, s.taken r)) :
    s.frame r = (s.answered r.kind r.tag r.payload a.status a.payload).deliver := by
  rw [State.frame_listening s r h, ha]
  rfl

/-- A request handed to its owner (R176). -/
theorem State.answer_handler (r : Request) (f : Handler) (h : handlerOf r.kind = some f)
    (hm : s.mode ≠ .start ∨ r.kind = statusGetKind) : s.answer r = f r.payload s := by
  simp only [State.answer, h]
  rw [if_neg]
  rintro ⟨h1, h2⟩
  exact hm.elim (fun k => k h1) h2

@[simp] theorem State.taken_mode (r : Request) : (s.taken r).mode = s.mode := rfl

/-- Nothing in flight, nothing delivered. -/
theorem State.drain_calm (n : Nat) (h : s.msgs = []) : State.drain n s = s := by
  cases n with
  | zero => rfl
  | succ n => simp [State.drain, h]

/-- The dump timers are no notices. -/
@[simp] theorem State.keepDumpTimers_msgs : s.keepDumpTimers.msgs = s.msgs := by
  have k (w : Watermaker) (x : State) : (x.keepDumpTimer w).msgs = x.msgs := by
    unfold State.keepDumpTimer
    split <;> (try rfl) <;> cases w <;> rfl
  rw [State.keepDumpTimers, k, k]

/-- A budget that was enough stays enough. -/
theorem State.drain_enough (n : Nat) (h : (State.drain n s).msgs = []) : State.drain (n + 1) s = State.drain n s := by
  induction n generalizing s with
  | zero => simpa [State.drain] using State.drain_calm s 1 h
  | succ n ih =>
    cases hm : s.msgs with
    | nil => rw [State.drain_calm s _ hm, State.drain_calm s _ hm]
    | cons m rest =>
      have e (k : Nat) : State.drain (k + 1) s = State.drain k (State.take m { s with msgs := rest }).keepDumpTimers := by
        simp [State.drain, hm]
      rw [e] at h
      rw [e, e, ih _ h]

/-- A state whose dump timers follow their conditions and which has nothing in flight is delivered as it is. -/
theorem State.deliver_calm (h : s.msgs = []) (hd : s.keepDumpTimers = s) : s.deliver = s := by
  rw [State.deliver, hd, State.drain_calm s _ h]

/-- Delivery takes the notices one by one: what holds before it, and is kept by every notice taken and by the dump timers,
holds after it. -/
theorem State.deliver_induction (P : State → Prop) (s : State) (h0 : P s)
    (ht : ∀ (m : Msg) (rest : List Msg) (x : State), P x → x.msgs = m :: rest → P (State.take m { x with msgs := rest }))
    (hd : ∀ x, P x → P x.keepDumpTimers) : P s.deliver := by
  have k (n : Nat) (x : State) (hx : P x) : P (State.drain n x) := by
    induction n generalizing x with
    | zero => exact hx
    | succ n ih =>
      simp only [State.drain]
      split
      · exact hx
      · exact ih _ (hd _ (ht _ _ _ hx ‹_›))
  exact k _ _ (hd _ h0)

end Sys2Proof.Machine
end

