-- ==== Sys2Proof/Laws/Modes.lean ====
section
/-!
SUPPORT. What the Plant Mode Controller's operations and the scan settings of the gauges can touch.
-/
namespace Sys2Proof.Machine

/-- What an operation of the Plant Mode Controller cannot touch: all but its record, of which supervision period and kind
stay, the report queue and the notices. -/
def State.beyondModes (s : State) : State :=
  { s with
    pmc := { ModeController.start with period := s.pmc.period, kind := s.pmc.kind },
    lu := { s.lu with queue := [], overflow := false }, msgs := [], choices := [] }

variable (s : State)

@[simp] theorem State.report_beyondModes (k : ReportKind) (a b c : Nat) :
    (s.report k a b c).beyondModes = s.beyondModes := by
  simp only [State.report, State.append, LinkUnit.append, State.beyondModes]
  split
  · split <;> rfl
  · rfl

@[simp] theorem State.reportPlant_beyondModes (a b c : Nat) : (s.reportPlant a b c).beyondModes = s.beyondModes :=
  State.report_beyondModes s _ _ _ _

@[simp] theorem State.tell_beyondModes (m : List Msg) : (s.tell m).beyondModes = s.beyondModes := rfl

theorem State.updMode_beyondModes (f : ModeController → ModeController)
    (h : (f s.pmc).period = s.pmc.period ∧ (f s.pmc).kind = s.pmc.kind) :
    (s.updMode f).beyondModes = s.beyondModes := by
  simp only [State.updMode, State.beyondModes, h]

@[simp] theorem State.changeMode_beyondModes (new : Mode) (w : Option WakeRecord) :
    (s.changeMode new w).beyondModes = s.beyondModes := by
  simp only [State.changeMode, State.tell_beyondModes, State.reportPlant_beyondModes]
  exact State.updMode_beyondModes s _ ⟨rfl, rfl⟩

/-- What a change of mode leaves of the controller (R158, R169). -/
@[simp] theorem State.changeMode_pmc (new : Mode) (w : Option WakeRecord) :
    (s.changeMode new w).pmc =
      { s.pmc with
        mode := new, left := if new = .fallback then some s.pmc.mode else s.pmc.left, wake := w,
        sup := (s.supervisionOn new).1, timer := (s.supervisionOn new).2 } := rfl

@[simp] theorem State.completeWarming_beyondModes (way : Nat) (w : WakeRecord) :
    (s.completeWarming way w).beyondModes = s.beyondModes := by
  simp only [State.completeWarming]
  split <;> split <;>
    first
      | simp
      | rw [State.updMode_beyondModes _ _ ⟨rfl, rfl⟩] <;> simp

@[simp] theorem State.examineWarming_beyondModes : s.examineWarming.beyondModes = s.beyondModes := by
  simp only [State.examineWarming]
  (repeat' split) <;> simp

@[simp] theorem State.enterWaking_beyondModes (c : WakeCause) (m : Option Mode) :
    (s.enterWaking c m).beyondModes = s.beyondModes := by
  simp [State.enterWaking]

@[simp] theorem State.takeWake_beyondModes (t : TankIx) (th : Threshold) (d : Direction) :
    (s.takeWake t th d).beyondModes = s.beyondModes := by
  simp only [State.takeWake]
  split <;> simp

@[simp] theorem State.wakeLimitExpires_beyondModes : s.wakeLimitExpires.beyondModes = s.beyondModes := by
  simp only [State.wakeLimitExpires]
  (repeat' split) <;> simp

@[simp] theorem State.confirmExpires_beyondModes : s.confirmExpires.beyondModes = s.beyondModes := by
  simp only [State.confirmExpires]
  (repeat' split) <;> simp

@[simp] theorem State.setMode_beyondModes (m : Mode) : (s.setMode m).beyondModes = s.beyondModes := by
  simp only [State.setMode]
  (repeat' split) <;> first | rfl | simp

@[simp] theorem State.lapse_beyondModes (c : SupCause) : (s.lapse c).beyondModes = s.beyondModes := by
  simp only [State.lapse]
  split
  · rw [State.reportPlant_beyondModes, State.updMode_beyondModes _ _ ⟨rfl, rfl⟩]
  · simp
  · rfl

@[simp] theorem State.supervisionExpires_beyondModes : s.supervisionExpires.beyondModes = s.beyondModes := by
  simp only [State.supervisionExpires]
  split <;> simp

@[simp] theorem State.takeHeartbeat_beyondModes : s.takeHeartbeat.beyondModes = s.beyondModes := by
  have k := State.updMode_beyondModes s (fun p => { p with sup := .watching, timer := some s.newTimer }) ⟨rfl, rfl⟩
  simp only [State.takeHeartbeat]
  split
  · rfl
  · simp
  · split
    · rw [State.reportPlant_beyondModes, k]
    · exact k

/-- A change of mode moves the next scan of each gauge and nothing else (R29). -/
theorem State.gaugeMode_gauges (old : Mode) :
    { s.gaugeMode old with gu :=
      { (s.gaugeMode old).gu with
        channels := (s.gaugeMode old).gu.channels.map (Option.map GaugeChannel.standing) } } =
      { s with gu := { s.gu with channels := s.gu.channels.map (Option.map GaugeChannel.standing) } } := by
  have k (f : GaugeChannel → GaugeChannel) (h : ∀ c, (f c).standing = c.standing) :
      (Vector.tabulate fun t => (s.gu.channels[t]).map f).map (Option.map GaugeChannel.standing) =
        s.gu.channels.map (Option.map GaugeChannel.standing) := by
    ext i hi
    simp only [Vector.getElem_map, Vector.tabulate_getElem, Fin.getElem_fin, Option.map_map]
    cases s.gu.channels[i] <;> simp [h]
  simp only [State.gaugeMode]
  split
  · simp only [State.mapGauges]
    rw [k _ (by intro _; rfl)]
  · simp only [State.mapGauges]
    rw [k _ (by intro _; rfl)]
  · rfl

end Sys2Proof.Machine
end

