-- ==== Sys2Proof/Laws/Ops.lean ====
section
/-!
SUPPORT. What the small shared operations do: field sizes, the order of notices, the report queue, counts, timers.
-/
namespace Sys2Proof.Machine

/-! ### Bytes -/

@[simp] theorem u8_length (n : Nat) : (u8 n).length = 1 := rfl
@[simp] theorem u16_length (n : Nat) : (u16 n).length = 2 := rfl
@[simp] theorem u32_length (n : Nat) : (u32 n).length = 4 := rfl
@[simp] theorem i16_length (z : Int) : (i16 z).length = 2 := rfl
@[simp] theorem i32_length (z : Int) : (i32 z).length = 4 := rfl
@[simp] theorem mark_length (b : Bool) : (mark b).length = 1 := rfl

/-- The first field of a payload of one byte. -/
@[simp] theorem byteAt_u8 (n : Nat) (p : List Byte) : byteAt (u8 n ++ p) 0 = n % 256 := by
  simp [byteAt, u8]

/-- A place behind the first byte. -/
theorem byteAt_u8_succ (n i : Nat) (p : List Byte) : byteAt (u8 n ++ p) (i + 1) = byteAt p i := by
  simp [byteAt, u8]

/-- The first two-byte field of a payload. -/
@[simp] theorem u16At_u16 (n : Nat) (p : List Byte) : u16At (u16 n ++ p) 0 = n % 65536 := by
  simp only [u16At, byteAt, u16, List.cons_append, List.nil_append, List.getD_cons_zero, List.getD_cons_succ,
    BitVec.toNat_ofNat]
  omega

/-- The first four-byte field of a payload. -/
@[simp] theorem u32At_u32 (n : Nat) (p : List Byte) : u32At (u32 n ++ p) 0 = n % 4294967296 := by
  simp only [u32At, u16At, byteAt, u32, List.cons_append, List.nil_append, List.getD_cons_zero, List.getD_cons_succ,
    BitVec.toNat_ofNat]
  omega

/-! ### Notices and reports -/

/-- The free choice of order loses no notice and adds none. -/
theorem permute_perm {α : Type} (k : Nat) (l : List α) : (permute k l).Perm l := by
  induction l generalizing k with
  | nil => simp [permute]
  | cons x l ih =>
    simp only [permute]
    have h := ih (k / (l.length + 1))
    refine (List.perm_insertIdx x _ ?_).trans (h.cons x)
    rw [h.length_eq]
    exact Nat.lt_succ_iff.mp (Nat.mod_lt _ (Nat.succ_pos _))

/-- A created report joins the back of the queue or leaves it as it is (R180). -/
theorem LinkUnit.append_prefix (r : Report) (l : LinkUnit) : l.queue <+: (l.append r).queue := by
  simp only [LinkUnit.append]
  split
  · split
    · exact List.prefix_append _ _
    · exact List.prefix_refl _
  · exact List.prefix_refl _

/-- The queue never holds more than its 32 records (R180). -/
theorem LinkUnit.append_length (r : Report) (l : LinkUnit) (h : l.queue.length ≤ queueCapacity) :
    (l.append r).queue.length ≤ queueCapacity := by
  simp only [LinkUnit.append]
  split
  · split
    · rw [List.length_append]
      exact ‹l.queue.length < queueCapacity›
    · exact h
  · exact h

/-- A created report touches nothing of the Link Unit but the queue and the overflow mark. -/
theorem LinkUnit.append_eq (r : Report) (l : LinkUnit) :
    { l.append r with queue := l.queue, overflow := l.overflow } = l := by
  simp only [LinkUnit.append]
  split
  · split <;> rfl
  · rfl

/-! ### Counts and timers -/

/-- A pulse is 100 / factor litres exactly: what is not counted stays in the residue (R96, R127). -/
theorem countPulse_exact (factor total residue : Nat)
    (h : total + (residue + 100) / factor < 4294967296) :
    (countPulse factor (total, residue)).1 * factor + (countPulse factor (total, residue)).2 =
      total * factor + residue + 100 := by
  simp only [countPulse, Nat.mod_eq_of_lt h, Nat.add_mul]
  have := Nat.div_add_mod' (residue + 100) factor
  omega

/-- The residue stays below the factor. -/
theorem countPulse_residue (factor : Nat) (t : Nat × Nat) (h : 0 < factor) : (countPulse factor t).2 < factor :=
  Nat.mod_lt _ h

/-- What has elapsed since a time is what has passed since. -/
theorem elapsed_after (t : Clock) (n : Nat) (h : n < 4294967296) : elapsed (after t n) t = n := by
  simp only [elapsed, after, BitVec.add_comm t, BitVec.add_sub_cancel, BitVec.toNat_ofNat]
  exact Nat.mod_eq_of_lt h

/-- The first cause met is one of the causes, and it holds. -/
theorem firstCause_mem {α : Type} (cs : List (Bool × α)) (a : α) (h : firstCause cs = some a) : (true, a) ∈ cs := by
  simp only [firstCause, Option.map_eq_some_iff] at h
  obtain ⟨x, hx, rfl⟩ := h
  have h1 := List.find?_some hx
  have h2 := List.mem_of_find?_eq_some hx
  obtain ⟨b, a⟩ := x
  simp only at h1
  subst h1
  exact h2

end Sys2Proof.Machine
end

