-- ==== Sys2Proof/Laws/Supply.lean ====
section
/-!
SUPPORT. What the Supply Selector's examinations can touch: the supply record, supply valves, the report queue and the
notices. The duty list they leave.
-/
namespace Sys2Proof.Machine

/-- What an examination cannot touch. -/
def State.beyondSupply (s : State) : State :=
  { s with
    au := { s.au with valves := s.au.valves.map ValveRecord.still, tp1 := s.au.tp1.still, tp2 := s.au.tp2.still },
    ss := { SupplySelector.start with duty := s.ss.duty },
    lu := { s.lu with queue := [], overflow := false }, msgs := [], choices := [] }

/-- Equal beyond the actuators, equal beyond the selector. -/
theorem State.beyondSupply_of_actuators {a b : State} (h : a.beyondActuators = b.beyondActuators) :
    a.beyondSupply = b.beyondSupply :=
  congrArg (fun s : State => { s with ss := { SupplySelector.start with duty := s.ss.duty } }) h

variable (s : State)

@[simp] theorem State.report_beyondSupply (k : ReportKind) (a b c : Nat) :
    (s.report k a b c).beyondSupply = s.beyondSupply := State.beyondSupply_of_actuators (by simp)

@[simp] theorem State.command_beyondSupply (v : Valve) (e : ValveEnd) :
    (s.command v e).beyondSupply = s.beyondSupply := State.beyondSupply_of_actuators (by simp)

theorem State.updSupply_beyondSupply (f : SupplySelector → SupplySelector) (h : (f s.ss).duty = s.ss.duty) :
    (s.updSupply f).beyondSupply = s.beyondSupply := by
  simp only [State.updSupply, State.beyondSupply, h]

@[simp] theorem State.reportSupply_beyondSupply (old : SupplySelector) :
    (s.reportSupply old).beyondSupply = s.beyondSupply := by
  simp only [State.reportSupply]
  split <;> simp

@[simp] theorem State.closeSupply_beyondSupply (t : TankIx) : (s.closeSupply t).beyondSupply = s.beyondSupply := by
  simp only [State.closeSupply]
  split <;> simp

@[simp] theorem State.openSupply_beyondSupply (t : TankIx) : (s.openSupply t).beyondSupply = s.beyondSupply :=
  State.command_beyondSupply s _ _

@[simp] theorem State.switchTo_beyondSupply (t : TankIx) : (s.switchTo t).beyondSupply = s.beyondSupply := by
  simp only [State.switchTo, State.openSupply_beyondSupply]
  exact State.updSupply_beyondSupply s _ rfl

@[simp] theorem State.changeTo_beyondSupply (t : TankIx) (c : SoftReason) :
    (s.changeTo t c).beyondSupply = s.beyondSupply := by
  simp only [State.changeTo, State.openSupply_beyondSupply]
  exact State.updSupply_beyondSupply s _ rfl

@[simp] theorem State.noSupply_beyondSupply : s.noSupply.beyondSupply = s.beyondSupply :=
  State.updSupply_beyondSupply s _ rfl

@[simp] theorem State.findSupply_beyondSupply : s.findSupply.beyondSupply = s.beyondSupply := by
  simp only [State.findSupply]
  split <;> simp

@[simp] theorem State.giveUpSwitch_beyondSupply (t : TankIx) : (s.giveUpSwitch t).beyondSupply = s.beyondSupply := by
  simp only [State.giveUpSwitch]
  split <;> simp only [State.switchTo_beyondSupply, State.noSupply_beyondSupply] <;>
    rw [State.updSupply_beyondSupply _ _ rfl, State.closeSupply_beyondSupply]

@[simp] theorem State.giveUpChange_beyondSupply (cur t : TankIx) :
    (s.giveUpChange cur t).beyondSupply = s.beyondSupply := by
  simp only [State.giveUpChange]
  split
  · rw [State.openSupply_beyondSupply, State.updSupply_beyondSupply _ _ rfl, State.updSupply_beyondSupply _ _ rfl,
      State.closeSupply_beyondSupply]
  · rw [State.updSupply_beyondSupply _ _ rfl, State.updSupply_beyondSupply _ _ rfl, State.closeSupply_beyondSupply]

@[simp] theorem State.breakSupply_beyondSupply (t : TankIx) (r : SupplyReason) :
    (s.breakSupply t r).beyondSupply = s.beyondSupply := by
  simp only [State.breakSupply]
  split
  · rw [State.switchTo_beyondSupply, State.updSupply_beyondSupply _ _ rfl, State.closeSupply_beyondSupply]
  · rw [State.updSupply_beyondSupply _ _ rfl, State.updSupply_beyondSupply _ _ rfl, State.closeSupply_beyondSupply]

@[simp] theorem State.examineCore_beyondSupply (o : Option TankIx) :
    (s.examineCore o).beyondSupply = s.beyondSupply := by
  have k := State.updSupply_beyondSupply s
  have k1 (t : TankIx) := State.updSupply_beyondSupply (s.closeSupply t)
  simp only [State.examineCore]
  (repeat' split) <;>
    first
      | rfl
      | simp
      | exact k _ rfl
      | exact (k1 _ _ rfl).trans (by simp)

@[simp] theorem State.examine_beyondSupply (o : Option TankIx) : (s.examine o).beyondSupply = s.beyondSupply := by
  simp only [State.examine]
  split <;> simp

@[simp] theorem State.supplyValve_beyondSupply (v : Valve) (a : ValveAnswer) :
    (s.supplyValve v a).beyondSupply = s.beyondSupply := by
  simp only [State.supplyValve]
  split <;> simp

@[simp] theorem State.actOnDuty_beyondSupply : s.actOnDuty.beyondSupply = s.beyondSupply := by
  simp only [State.actOnDuty]
  (repeat' split) <;> simp

@[simp] theorem State.advance_beyondSupply (t : TankIx) : (s.advance t).beyondSupply = s.beyondSupply := by
  simp [State.advance]

end Sys2Proof.Machine
end

