-- ==== Sys2Proof/Laws/Transfer.lean ====
section
/-!
SUPPORT. What the Transfer Engine's operations can touch, the requests that fill the store or cancel an order apart:
channels but for their settings and totalizers, orders but for their contents and moved litres, the entries of tanks, its
valves and pumps, the report queue and the notices.
-/
namespace Sys2Proof.Machine

/-- What an operation of the Transfer Engine cannot touch. -/
def State.beyondTransfer (s : State) : State :=
  { s with
    tt := { s.tt with tanks := s.tt.tanks.map TankRecord.standing },
    au := { s.au with valves := s.au.valves.map ValveRecord.still, tp1 := s.au.tp1.still, tp2 := s.au.tp2.still },
    te :=
      { orders := s.te.orders.map Order.standing, sequence := s.te.sequence, tc1 := s.te.tc1.still,
        tc2 := s.te.tc2.still, guardList := [], guardPassed := false },
    lu := { s.lu with queue := [], overflow := false }, msgs := [], choices := [] }

/-- Equal beyond the actuators, equal beyond the engine. -/
theorem State.beyondTransfer_of_actuators {a b : State} (h : a.beyondActuators = b.beyondActuators) :
    a.beyondTransfer = b.beyondTransfer :=
  congrArg
    (fun s : State => { s with
      tt := { s.tt with tanks := s.tt.tanks.map TankRecord.standing },
      te :=
        { orders := s.te.orders.map Order.standing, sequence := s.te.sequence, tc1 := s.te.tc1.still,
          tc2 := s.te.tc2.still, guardList := [], guardPassed := false } }) h

/-- Equal beyond the entries, equal beyond the engine. -/
theorem State.beyondTransfer_of_entries {a b : State} (h : a.beyondEntries = b.beyondEntries) :
    a.beyondTransfer = b.beyondTransfer :=
  congrArg
    (fun s : State => { s with
      au := { s.au with valves := s.au.valves.map ValveRecord.still, tp1 := s.au.tp1.still, tp2 := s.au.tp2.still },
      te :=
        { orders := s.te.orders.map Order.standing, sequence := s.te.sequence, tc1 := s.te.tc1.still,
          tc2 := s.te.tc2.still, guardList := [], guardPassed := false } }) h

variable (s : State)

@[simp] theorem State.report_beyondTransfer (k : ReportKind) (a b c : Nat) :
    (s.report k a b c).beyondTransfer = s.beyondTransfer := State.beyondTransfer_of_actuators (by simp)

@[simp] theorem State.command_beyondTransfer (v : Valve) (e : ValveEnd) :
    (s.command v e).beyondTransfer = s.beyondTransfer := State.beyondTransfer_of_actuators (by simp)

@[simp] theorem State.pumpStart_beyondTransfer (c : Channel) :
    (s.pumpStart c).beyondTransfer = s.beyondTransfer := State.beyondTransfer_of_actuators (by simp)

@[simp] theorem State.pumpStop_beyondTransfer (c : Channel) :
    (s.pumpStop c).beyondTransfer = s.beyondTransfer := State.beyondTransfer_of_actuators (by simp)

@[simp] theorem State.entryEnd_beyondTransfer (t : TankIx) (e : Entrant) :
    (s.entryEnd t e).beyondTransfer = s.beyondTransfer := State.beyondTransfer_of_entries (by simp)

@[simp] theorem State.entryNotice_beyondTransfer (t : TankIx) (e : Entrant) (c : QClass) :
    (s.entryNotice t e c).2.beyondTransfer = s.beyondTransfer := State.beyondTransfer_of_entries (by simp)

theorem State.updTank_beyondTransfer (t : TankIx) (f : TankRecord → TankRecord)
    (h : (f (s.tank t)).standing = (s.tank t).standing) : (s.updTank t f).beyondTransfer = s.beyondTransfer :=
  State.beyondTransfer_of_entries (State.updTank_beyondEntries s t f h)

theorem State.updChan_beyondTransfer (c : Channel) (f : ChannelRecord → ChannelRecord)
    (h : (f (s.chan c)).still = (s.chan c).still) : (s.updChan c f).beyondTransfer = s.beyondTransfer := by
  cases c <;> simp only [State.updChan, State.beyondTransfer, State.chan] at * <;> rw [h]

theorem State.updOrder_beyondTransfer (id : Nat) (f : Order → Order) (h : ∀ o, (f o).standing = o.standing) :
    (s.updOrder id f).beyondTransfer = s.beyondTransfer := by
  have : (s.te.orders.map fun o => if o.id = id then f o else o).map Order.standing =
      s.te.orders.map Order.standing := by
    rw [List.map_map]
    refine List.map_congr_left fun o _ => ?_
    simp only [Function.comp]
    split
    · exact h o
    · rfl
  simp only [State.updOrder, State.beyondTransfer, this]

theorem map_modify_same {α β : Type} (g : α → β) (f : α → α) (h : ∀ x, g (f x) = g x) (l : List α) (i : Nat) :
    (l.modify i f).map g = l.map g := by
  induction l generalizing i with
  | nil => simp
  | cons x l ih => cases i <;> simp [h, ih]

theorem Order.updLeg_standing (k : Nat) (f : Leg → Leg) (h : ∀ l, (f l).standing = l.standing) (o : Order) :
    (o.updLeg k f).standing = o.standing := by
  simp only [Order.updLeg, Order.standing, map_modify_same Leg.standing f h]

theorem State.updLeg_beyondTransfer (id k : Nat) (f : Leg → Leg) (h : ∀ l, (f l).standing = l.standing) :
    (s.updLeg id k f).beyondTransfer = s.beyondTransfer :=
  State.updOrder_beyondTransfer s id _ (Order.updLeg_standing k f h)

@[simp] theorem State.reportOrder_beyondTransfer (id : Nat) :
    (s.reportOrder id).beyondTransfer = s.beyondTransfer := by
  simp only [State.reportOrder]
  split <;> simp

theorem State.enterOrder_beyondTransfer (id : Nat) (st : OrderState) (f : Order → Order)
    (h : ∀ o, (f o).standing = o.standing) : (s.enterOrder id st f).beyondTransfer = s.beyondTransfer := by
  have k := State.updOrder_beyondTransfer s id (fun o => f { o with state := st }) (fun o => (h _).trans rfl)
  simp only [State.enterOrder, State.reportOrder_beyondTransfer]
  split
  · exact k
  · exact Eq.trans rfl k

@[simp] theorem State.endLeg_beyondTransfer (id k : Nat) (r : LegResult) :
    (s.endLeg id k r).beyondTransfer = s.beyondTransfer := by
  simp only [State.endLeg, State.report_beyondTransfer]
  exact State.updLeg_beyondTransfer s id k _ (by intro _; rfl)

@[simp] theorem State.takeLegEnd_beyondTransfer (id k : Nat) (r : LegResult) :
    (s.takeLegEnd id k r).beyondTransfer = s.beyondTransfer := by
  simp only [State.takeLegEnd]
  split
  · simp
  · rw [State.enterOrder_beyondTransfer _ _ _ _ (by intro _; rfl), State.endLeg_beyondTransfer]

@[simp] theorem State.takeReturn_beyondTransfer (id k : Nat) (c : ReturnCause) :
    (s.takeReturn id k c).beyondTransfer = s.beyondTransfer := by
  simp only [State.takeReturn]
  split
  · rfl
  · split
    · rw [State.enterOrder_beyondTransfer _ _ _ _ (by intro _; rfl), State.endLeg_beyondTransfer]
    · split
      · exact State.enterOrder_beyondTransfer _ _ _ _ (by intro _; rfl)
      · exact State.enterOrder_beyondTransfer _ _ _ _ (by intro _; rfl)
      · exact Eq.trans rfl (State.enterOrder_beyondTransfer s id .pending (fun o => { o with channel := none })
          (by intro _; rfl))

@[simp] theorem State.setChannel_beyondTransfer (c : Channel) (st : ChannelState) :
    (s.setChannel c st).beyondTransfer = s.beyondTransfer := by
  simp only [State.setChannel, State.report_beyondTransfer]
  exact State.updChan_beyondTransfer s c _ rfl

@[simp] theorem State.releaseClaims_beyondTransfer (c : Channel) :
    (s.releaseClaims c).beyondTransfer = s.beyondTransfer :=
  foldl_same State.beyondTransfer _ (fun a t => State.updTank_beyondTransfer a t _ rfl) _ _

@[simp] theorem State.closeRun_beyondTransfer (c : Channel) (cause : StopCause) :
    (s.closeRun c cause).beyondTransfer = s.beyondTransfer := by
  simp only [State.closeRun, State.setChannel_beyondTransfer]
  rw [State.updChan_beyondTransfer _ _ _ rfl, State.releaseClaims_beyondTransfer]
  split <;> simp

@[simp] theorem State.closeValves_beyondTransfer (c : Channel) :
    (s.closeValves c).beyondTransfer = s.beyondTransfer :=
  foldl_same State.beyondTransfer _ (fun a _ => State.command_beyondTransfer a _ _) _ _

@[simp] theorem State.stopRun_beyondTransfer (c : Channel) (cause : StopCause) :
    (s.stopRun c cause).beyondTransfer = s.beyondTransfer := by
  have k := State.updChan_beyondTransfer s c
    (fun r => { r with stop := some cause, phase := some .stopping, noFlow := none }) rfl
  have k1 (ts : List TankIx) (x : State) :
      ((ts.foldl (fun s t => State.entryEnd t c.entrant s) x).updChan c fun r =>
        { r with entryMade := false }).beyondTransfer = x.beyondTransfer := by
    rw [State.updChan_beyondTransfer _ _ _ rfl]
    exact foldl_same State.beyondTransfer _ (fun a _ => State.entryEnd_beyondTransfer a _ _) _ _
  simp only [State.stopRun]
  generalize s.updChan c (fun r => { r with stop := some cause, phase := some .stopping, noFlow := none }) = x at k
  have k2 (b : Bool) (ts : List TankIx) :
      (if b = true then (ts.foldl (fun s t => State.entryEnd t c.entrant s) x).updChan c fun r =>
        { r with entryMade := false } else x).beyondTransfer = s.beyondTransfer := by
    split
    · rw [k1, k]
    · exact k
  split
  · rw [State.pumpStop_beyondTransfer, State.updChan_beyondTransfer _ _ _ rfl, k2]
  · rw [State.pumpStop_beyondTransfer, State.updChan_beyondTransfer _ _ _ rfl, k2]
  · exact k2 _ _
  · rw [State.closeValves_beyondTransfer, k2]
  · rw [State.closeValves_beyondTransfer, k2]

@[simp] theorem State.evaluate_beyondTransfer (c : Channel) (e : Evaluation) :
    (s.evaluate c e).beyondTransfer = s.beyondTransfer := by
  simp only [State.evaluate]
  (repeat' split) <;> simp

@[simp] theorem State.beginRun_beyondTransfer (c : Channel) (id k : Nat) (l : Leg) :
    (s.beginRun c id k l).beyondTransfer = s.beyondTransfer := by
  simp only [State.beginRun, State.evaluate_beyondTransfer, State.command_beyondTransfer]
  rw [State.updChan_beyondTransfer _ _ _ rfl, State.updLeg_beyondTransfer _ _ _ _ (by intro _; rfl)]

@[simp] theorem State.weigh_beyondTransfer (c : Channel) (os : List Order) :
    (State.weigh c os s).1.beyondTransfer = s.beyondTransfer := by
  induction os generalizing s with
  | nil => rfl
  | cons o os ih =>
    simp only [State.weigh]
    (repeat' split) <;> first | exact ih _ | exact (ih _).trans rfl | rfl

@[simp] theorem State.give_beyondTransfer (c : Channel) (o : Order) (l : Leg) :
    (s.give c o l).beyondTransfer = s.beyondTransfer := by
  have k (x : State) (ts : List TankIx) :
      (ts.foldl (fun (s : State) t => s.updTank t fun r => { r with claim := some c }) x).beyondTransfer =
        x.beyondTransfer :=
    foldl_same State.beyondTransfer _ (fun a t => State.updTank_beyondTransfer a t _ rfl) _ _
  simp only [State.give]
  split <;>
    simp only [State.closeRun_beyondTransfer, State.beginRun_beyondTransfer, k] <;>
    rw [State.updChan_beyondTransfer _ _ _ rfl, State.setChannel_beyondTransfer,
      State.updChan_beyondTransfer _ _ _ rfl, State.enterOrder_beyondTransfer _ _ _ _ (by intro _; rfl)]

@[simp] theorem State.tryGive_beyondTransfer (c : Channel) : (s.tryGive c).1.beyondTransfer = s.beyondTransfer := by
  have k := State.weigh_beyondTransfer s c s.waiting
  simp only [State.tryGive]
  split
  · split <;> rename_i h <;> simp only [h] at k <;> simp [k]
  · rfl

@[simp] theorem State.passes_beyondTransfer (n : Nat) : (State.passes n s).beyondTransfer = s.beyondTransfer := by
  induction n generalizing s with
  | zero => rfl
  | succ n ih =>
    simp only [State.passes]
    split <;> simp [ih]

@[simp] theorem State.arbitrate_beyondTransfer : s.arbitrate.beyondTransfer = s.beyondTransfer := by
  simp only [State.arbitrate]
  split
  · simp only [State.passes_beyondTransfer]; rfl
  · rfl

@[simp] theorem State.closeIfOver_beyondTransfer (c : Channel) :
    (s.closeIfOver c).1.beyondTransfer = s.beyondTransfer := by
  simp only [State.closeIfOver]
  split <;> simp

@[simp] theorem State.settle_beyondTransfer : s.settle.beyondTransfer = s.beyondTransfer := by
  simp only [State.settle]
  split <;> simp

@[simp] theorem State.channelValve_beyondTransfer (c : Channel) (v : Valve) (a : ValveAnswer) :
    (s.channelValve c v a).beyondTransfer = s.beyondTransfer := by
  have k (x : LinedAnswer) := State.updChan_beyondTransfer s c
    (fun r => { r with lined := r.lined.map (Lined.record v x) }) rfl
  simp only [State.channelValve]
  split
  · split
    · split
      · split
        · simp only [State.evaluate_beyondTransfer, State.pumpStart_beyondTransfer]
          rw [State.updChan_beyondTransfer _ _ _ rfl, k]
        · exact k _
      · rfl
    · exact k _
    · split
      · rw [State.stopRun_beyondTransfer, k]
      · rw [State.updChan_beyondTransfer _ _ _ rfl, k]
    · rfl
  · rfl

@[simp] theorem State.enterPumping_beyondTransfer (c : Channel) :
    (s.enterPumping c).beyondTransfer = s.beyondTransfer := by
  have k0 := State.updChan_beyondTransfer s c (fun r =>
    { r with phase := some .pumping, noFlow := some (after s.clock ((r.runNoFlow.getD r.noFlowTime) * 10)) }) rfl
  simp only [State.enterPumping]
  split
  · exact k0
  · split
    · rw [State.evaluate_beyondTransfer, k0]
    · simp only [State.evaluate_beyondTransfer]
      split
      · rw [State.entryNotice_beyondTransfer, k0]
      · rw [State.updChan_beyondTransfer _ _ _ rfl, State.entryNotice_beyondTransfer, k0]

@[simp] theorem State.channelPumpFault_beyondTransfer (c : Channel) :
    (s.channelPumpFault c).beyondTransfer = s.beyondTransfer := by
  have k := State.updChan_beyondTransfer s c
    (fun r => { r with pumpTold := .fault, outReason := some .pumpFault }) rfl
  simp only [State.channelPumpFault]
  generalize s.updChan c (fun r => { r with pumpTold := .fault, outReason := some .pumpFault }) = x at k
  have k1 (st : ChannelState) : (match st with
      | .idle => x.setChannel c .out
      | .busy => x.setChannel c .stoppingForOut
      | _ => x).beyondTransfer = s.beyondTransfer := by
    split <;> simp [k]
  split
  · rw [State.stopRun_beyondTransfer]
    exact k1 _
  · split
    · split
      · rw [State.updChan_beyondTransfer _ _ _ rfl]
        exact k1 _
      · rw [State.closeValves_beyondTransfer, State.updChan_beyondTransfer _ _ _ rfl]
        exact k1 _
    · exact k1 _

@[simp] theorem State.channelPump_beyondTransfer (c : Channel) (a : PumpAnswer) :
    (s.channelPump c a).beyondTransfer = s.beyondTransfer := by
  have k (p : PumpState) := State.updChan_beyondTransfer s c (fun r => { r with pumpTold := p }) rfl
  simp only [State.channelPump]
  split
  · split <;> simp [k]
  · split <;> simp [k]
  · simp
  · simp

@[simp] theorem State.evaluateBoth_beyondTransfer (e : Channel → Evaluation) :
    (s.evaluateBoth e).beyondTransfer = s.beyondTransfer := by
  simp [State.evaluateBoth]

@[simp] theorem State.evaluateTank_beyondTransfer (t : TankIx) (e : Evaluation) (c : Channel) :
    (s.evaluateTank t e c).beyondTransfer = s.beyondTransfer := by
  simp only [State.evaluateTank]
  split <;> simp

@[simp] theorem State.transferTank_beyondTransfer (t : TankIx) (e : Evaluation) :
    (s.transferTank t e).beyondTransfer = s.beyondTransfer := by
  simp [State.transferTank]

@[simp] theorem State.transferConflict_beyondTransfer (c : Channel) :
    (s.transferConflict c).beyondTransfer = s.beyondTransfer := by
  simp [State.transferConflict]

@[simp] theorem State.transferMoment_beyondTransfer : s.transferMoment.beyondTransfer = s.beyondTransfer := by
  simp only [State.transferMoment]
  split <;> simp

@[simp] theorem State.channelMode_beyondTransfer (new : Mode) (c : Channel) :
    (s.channelMode new c).beyondTransfer = s.beyondTransfer := by
  simp only [State.channelMode]
  split
  · split
    · simp
    · exact State.updChan_beyondTransfer s c _ rfl
  · split <;> simp
  · rfl

@[simp] theorem State.transferMode_beyondTransfer (new : Mode) :
    (s.transferMode new).beyondTransfer = s.beyondTransfer := by
  simp only [State.transferMode]
  split <;> simp

end Sys2Proof.Machine
end

