-- ==== Sys2Proof/Laws/Standing.lean ====
section
/-!
SUPPORT. What an operation of a block cannot touch contains the standing part of the state: two states that agree beyond a
block's reach agree on all that stands.
-/
namespace Sys2Proof.Machine

@[simp] theorem ValveRecord.still_standing (r : ValveRecord) : r.still.standing = r.standing := by
  simp only [ValveRecord.still, ValveRecord.standing]
  by_cases h : r.state = .fault <;> simp [h]

@[simp] theorem PumpRecord.still_standing (r : PumpRecord) : r.still.standing = r.standing := by
  simp only [PumpRecord.still, PumpRecord.standing]
  by_cases h : r.state = .fault <;> simp [h]

@[simp] theorem TankRecord.standing_standing (r : TankRecord) : r.standing.standing = r.standing := by
  simp only [TankRecord.standing]
  by_cases h : r.empty = true <;> simp [h]

@[simp] theorem SourceRecord.standing_standing (r : SourceRecord) : r.standing.standing = r.standing := rfl

@[simp] theorem Leg.standing_standing (l : Leg) : l.standing.standing = l.standing := rfl

@[simp] theorem Order.standing_standing (o : Order) : o.standing.standing = o.standing := by
  simp [Order.standing]

@[simp] theorem ChannelRecord.still_standing (r : ChannelRecord) : r.still.standing = r.standing := rfl

/-- The standing maps after the hiding ones. -/
theorem map_hidden {α β : Type} {n : Nat} (g : α → β) (f : α → α) (h : ∀ x, g (f x) = g x) (v : Vector α n) :
    (v.map f).toList.map g = v.toList.map g := by
  rw [Vector.toList_map, List.map_map]
  exact List.map_congr_left fun x _ => h x

theorem State.beyondActuators_standing (s : State) : s.beyondActuators.standing = s.standing := by
  simp only [State.standing, State.beyondActuators, map_hidden _ _ ValveRecord.still_standing,
    PumpRecord.still_standing]

theorem State.beyondTransfer_standing (s : State) : s.beyondTransfer.standing = s.standing := by
  simp only [State.standing, State.beyondTransfer, map_hidden _ _ ValveRecord.still_standing,
    PumpRecord.still_standing, map_hidden _ _ TankRecord.standing_standing, List.map_map,
    ChannelRecord.still_standing]
  congr 1
  exact List.map_congr_left fun o _ => Order.standing_standing o

theorem State.beyondSupply_standing (s : State) : s.beyondSupply.standing = s.standing := by
  simp only [State.standing, State.beyondSupply, map_hidden _ _ ValveRecord.still_standing, PumpRecord.still_standing]

theorem State.beyondIntake_standing (s : State) : s.beyondIntake.standing = s.standing := by
  simp only [State.standing, State.beyondIntake, map_hidden _ _ ValveRecord.still_standing,
    PumpRecord.still_standing, map_hidden _ _ TankRecord.standing_standing, SourceRecord.standing_standing]

theorem State.beyondModes_standing (s : State) : s.beyondModes.standing = s.standing := rfl

end Sys2Proof.Machine
end

