-- ==== Sys2Proof/WellFormed.lean ====
section
/-!
DEFINITION. Which commands the outside world of the part can send: a request's payload fits in a frame (R184), an unknown
kind has no entry in the kind code table (R176), discarded bytes complete no frame. The machine gives every command a meaning, well-formed or not.
-/
namespace Sys2Proof
open Machine

/-- A payload fits in a frame: the length byte counts kind, tag and payload, 2 to 252 (R184). -/
def payloadFits (p : List Byte) : Bool := decide (p.length ≤ 250)

/-- No frame is completed by the bytes, taken from HUNT on. -/
def noFrame (bs : List Byte) : Bool := (Framer.hunt.bytes bs).2.isEmpty

/-- A command that the outside world can send. -/
def Instr.wf : Instr → Bool
  | .tankDefine _ p => payloadFits p
  | .tankRemove _ p => payloadFits p
  | .strapLoad _ p => payloadFits p
  | .tankService _ p => payloadFits p
  | .tankClass _ p => payloadFits p
  | .tankLimits _ p => payloadFits p
  | .tankNotice _ p => payloadFits p
  | .balanceSet _ p => payloadFits p
  | .tankGet _ p => payloadFits p
  | .gaugeReadmit _ p => payloadFits p
  | .gaugeGet _ p => payloadFits p
  | .valveSet _ p => payloadFits p
  | .valveReset _ p => payloadFits p
  | .valveGet _ p => payloadFits p
  | .actuatorSet _ p => payloadFits p
  | .pumpReset _ p => payloadFits p
  | .sourceSet _ p => payloadFits p
  | .sourcePermit _ p => payloadFits p
  | .sourceGet _ p => payloadFits p
  | .ruleSet _ p => payloadFits p
  | .ruleGet _ p => payloadFits p
  | .shoreOpen _ p => payloadFits p
  | .shoreClose _ p => payloadFits p
  | .probeCheck _ p => payloadFits p
  | .orderSubmit _ p => payloadFits p
  | .orderCancel _ p => payloadFits p
  | .stopAll _ p => payloadFits p
  | .orderResume _ p => payloadFits p
  | .orderRemove _ p => payloadFits p
  | .orderGet _ p => payloadFits p
  | .orderList _ p => payloadFits p
  | .channelSet _ p => payloadFits p
  | .channelOut _ p => payloadFits p
  | .channelIn _ p => payloadFits p
  | .channelGet _ p => payloadFits p
  | .dutySet _ p => payloadFits p
  | .supplyAdvance _ p => payloadFits p
  | .supplyGet _ p => payloadFits p
  | .modeSet _ p => payloadFits p
  | .supervisionSet _ p => payloadFits p
  | .heartbeat _ p => payloadFits p
  | .statusGet _ p => payloadFits p
  | .fetchReports _ p => payloadFits p
  | .reportEnable _ p => payloadFits p
  | .restart _ p => payloadFits p
  | .settingsSave _ p => payloadFits p
  | .commissionEnd _ p => payloadFits p
  | .unknownKind k _ p => (handlerOf k).isNone && payloadFits p
  | .linkBusy _ _ p => payloadFits p
  | .frameDiscarded bs => noFrame bs
  | .receiveGap _ _ => true
  | .framingError _ => true
  | .rxdBreak _ => true
  | .replySent => true
  | .powerUp => true
  | .resetnHeld => true
  | .resetLine => true
  | .restartRequest => true
  | .loadEnd => true
  | .saveEnd => true
  | .sampleRequest _ => true
  | .sampleAnswer _ _ => true
  | .sampleTimeout _ => true
  | .attitudeSample _ _ => true
  | .attitudeStale => true
  | .valveFeedback _ _ _ => true
  | .travelTimeout _ => true
  | .pumpFeedback _ _ => true
  | .startTimeout _ => true
  | .stopTimeout _ => true
  | .conductivitySample _ _ => true
  | .runSignal _ _ => true
  | .flushEnd _ => true
  | .dumpLimit _ => true
  | .sourcePulse _ => true
  | .probeCheckEnd _ => true
  | .channelPulse _ => true
  | .noFlow _ => true
  | .wakeLimit => true
  | .falseWake => true
  | .supervisionExpiry => true
  | .powerLoss => true

end Sys2Proof
end

