-- ==== Sys2Proof/Tests/Slice0.lean ====
section
/-!
SUPPORT. Tests: ill-formed commands that the check of WellFormed refuses, single steps with results worked out in spec/, and
for each statement with hypotheses a state and operands that meet them.
-/
namespace Sys2Proof.Tests
open Sys2Proof Sys2Proof.Machine

-- One theorem at a time: many threads at once need more memory than a build may take.
set_option Elab.async false

/-! ### States to test from -/

/-- The part after reset, in a plant mode, supervision WATCHING where the mode is supervised. -/
def inMode (m : Mode) : State :=
  { State.reset with pmc := { ModeController.start with
      mode := m, sup := if m.supervised then .watching else .off,
      timer := if m.supervised then some ⟨0, 10, 100⟩ else none } }

/-- The definition of chapter 2's T3. -/
def defT3 : TankDef :=
  { height := 2000, residual := 300, arm := -350, perms := ⟨true, true, true, true⟩, span := 4000, zeroOffset := 0,
    stepLimit := 300, windowLength := 4, dx := 2500, dy := -1200 }

/-- The strapping table of chapter 2's T3. -/
def strapT3 : List StrapPoint := [⟨0, 0⟩, ⟨500, 1800⟩, ⟨1000, 3900⟩, ⟨1500, 6100⟩, ⟨2000, 8200⟩]

/-- A tank in service, as T3 is in section 1.7, holding a volume. -/
def tankOf (c : QClass) (volume : Nat) : TankRecord :=
  { defn := some defT3, strap := some strapT3, service := .inService, cls := c, level := some 1000,
    volume := some volume, suspect := false, held := false, empty := decide (volume ≤ 300),
    limits := some ⟨600, 2000, 7500, 9000, 150⟩, states := ⟨.above, .above, .below, .below⟩,
    notices := some NoticeEnables.initial, claim := none, entries := [] }

/-- A gauge channel in a state. -/
def gaugeIn (g : GaugeState) : GaugeChannel :=
  { GaugeChannel.fresh defT3 (some strapT3) 5 none with
    state := g, reference := some 1600, window := [1600, 1600, 1600] }

/-- A block has been told that the gauges of T1 and T2 are VALID. -/
def toldValid (b : Block) (s : State) : State := (s.setTold b 0 (some .valid)).setTold b 1 (some .valid)

/-- T1 and T2 defined with VALID gauges, of which every block has been told, in a plant mode. -/
def twoTanks (m : Mode) : State :=
  (toldValid .ss (toldValid .te (toldValid .ir
    (((((inMode m).putTank 0 (tankOf .potable 5000)).putTank 1 (tankOf .potable 4000)).setGauge 0
      (some (gaugeIn .valid))).setGauge 1 (some (gaugeIn .valid)))))).setToldMoment (-3150000)

/-- A leg of 1000 L from T1 to T2. -/
def legT1T2 : Leg := ⟨0, .tank 1, .volume, 1000, 0, 0, none, none⟩

/-- An order of one leg. -/
def orderOf (st : OrderState) (c : Option Channel) : Order :=
  ⟨310, 1, .skip, [legT1T2], st, 1, 1, decide (st = .held), false, c⟩

/-- One order in the store. -/
def withOrder (m : Mode) (o : Order) : State :=
  { twoTanks m with te := { (twoTanks m).te with orders := [o] } }

/-- TC1 pumps the leg, with the pump RUNNING. -/
def pumpingState : State :=
  { withOrder .run (orderOf .active (some .tc1)) with
    te := { (withOrder .run (orderOf .active (some .tc1))).te with
      tc1 := { ChannelRecord.start .running 0 with
        state := .busy, order := some (310, 1), phase := some .pumping, claims := [0, 1],
        lined := some ⟨.tank 0 .suctionA, .opened, .tank 1 .fillA, .opened⟩, runFactor := some 100,
        runNoFlow := some 15, signAtStart := some .negative, noFlow := some 150, entryMade := true } },
    au := { State.reset.au with tp1 := ⟨true, true, .running, none, none⟩ } }

/-- A valve in a state, at a reported position. -/
def valveIn (st : ValveState) (p : Position) : ValveRecord :=
  { ValveRecord.start ⟨true, false⟩ with
    state := st, reported := p, timer := st.target.map fun _ => 400,
    commanded := if st = .movingToB ∨ st = .atB then .b else .a,
    reason := if st = .fault then some .uncommanded else none }

/-- T1-IN in a state. -/
def valveState (m : Mode) (st : ValveState) (p : Position) : State :=
  (twoTanks m).updValve (.tank 0 .intake) fun _ => valveIn st p

/-- TP1 with a record. -/
def pumpState (m : Mode) (p : PumpRecord) : State := (twoTanks m).setPump .tc1 p

/-- WM1 with a changed record, in a plant mode. -/
def maker (m : Mode) (f : SourceRecord → SourceRecord) : State := (twoTanks m).updSource .wm1 f

/-- A rule for every source and grade, to T1 as POTABLE. -/
def ruleT1 : Rule := ⟨true, ⟨true, true, true⟩, ⟨true, true, true⟩, .route ⟨.potable, [0]⟩⟩

/-- The rule in slot 1. -/
def withRule (s : State) : State := { s with ir := { s.ir with rules := s.ir.rules.set 0 ruleT1 } }

/-- A save in flight. -/
def savingState : State :=
  { inMode .commission with sts := { SettingsStore.new with save := some Image.factory, checksumAgrees := false } }

/-- The state a command leaves. -/
def after1 (c : Instr) (s : State) : State :=
  match exec c s with
  | .next u => u
  | _ => s

/-- The status of the latest reply. -/
def lastReply (s : State) : Option (Status × List Byte) := s.lu.replies.getLast?.map fun r => (r.status, r.payload)

/-- The latest report: kind, subject, event code, value. -/
def lastReport (s : State) : Option (ReportKind × Nat × Nat × Nat) :=
  s.lu.queue.getLast?.map fun r => (r.kind, r.subject, r.code, r.value)

/-! ### Commands that no sender can send -/

theorem test_wf_refuses_long_payload : (Instr.tankGet 1 (List.replicate 251 0)).wf = false := by decide +kernel
theorem test_wf_refuses_known_kind : (Instr.unknownKind 0x18 1 []).wf = false := by decide +kernel
theorem test_wf_refuses_whole_frame : (Instr.frameDiscarded (frameBytes 0x60 1 [])).wf = false := by decide +kernel
theorem test_wf_takes_status_get : (Instr.statusGet 1 []).wf = true := by decide +kernel

/-! ### Single steps, with the spec's own figures -/

/-- R174's check value: the nine bytes "123456789" give 0x29B1, the value of this CRC over them. -/
theorem test_crc_check_value :
    crc16 [0x31, 0x32, 0x33, 0x34, 0x35, 0x36, 0x37, 0x38, 0x39] = 0x29B1 := by decide +kernel

/-- Worked example of chapter 9, A single request: lengths on the line of CHANNEL_OUT and its reply. -/
theorem test_frame_lengths :
    (frameBytes 0x49 0x21 [1]).length = 7 ∧ (frameBytes 0xC9 0x21 [0, 3]).length = 8 := by decide +kernel

/-- Worked example of chapter 2: raw code 26208 in T3 gives the window 1520, 1509, 1517, 1514, 1515 mm, 6163 L, VALID. -/
theorem test_sampleAnswer_first_publication :
    let c := { gaugeIn .settling with window := [1520, 1509, 1517], reference := some 1603 }
    let a : Attitude := ⟨-400, 150, true, false, 0⟩
    let g := c.handled a (some 26208)
    g.filtered = some 1515 ∧ g.volume = some 6163 ∧ g.state = .valid ∧ g.reference = some 1600 := by decide +kernel

/-- Worked example of chapter 2: the spike of raw code 45000 (2747 mm) is implausible and costs 8. -/
theorem test_sampleAnswer_spike :
    let c := { gaugeIn .valid with window := [1520, 1509, 1517, 1514], reference := some 1600 }
    let g := c.handled ⟨-400, 150, true, false, 0⟩ (some 45000)
    g.score = 8 ∧ g.reference = some 2747 ∧ g.window = [1520, 1509, 1517, 1514] := by decide +kernel

/-- Worked example of chapter 2: the seventh converter fault takes the score from 63 to 71 and the gauge to SUSPECT. -/
theorem test_sampleTimeout_suspect :
    let g := ({ gaugeIn .valid with score := 63 }).handled ⟨-400, 150, true, false, 0⟩ none
    g.score = 71 ∧ g.state = .suspect := by decide +kernel

/-- Worked example of section 1.7: T3's default thresholds. -/
theorem test_strapLoad_defaults : defaultLimits 8200 = ⟨410, 1640, 7380, 7790, 82⟩ := by decide

/-- Worked example of section 1.7: 7420 L keeps H ABOVE, 7349 L does not. -/
theorem test_thresholds_hysteresis :
    evalThreshold 7500 150 7420 .above = .above ∧ evalThreshold 7500 150 7349 .above = .below ∧
      evalThreshold 7500 150 7499 .below = .below ∧ evalThreshold 7500 150 7500 .below = .above := by decide

/-- Worked example of section 1.7: TANK_LIMITS with HH 9000 is clamped to 8200 and accepted. -/
theorem test_tankLimits_clamps :
    lastReply (after1 (.tankLimits 9 ([1] ++ u32 600 ++ u32 2000 ++ u32 7500 ++ u32 9000 ++ u32 150)) (twoTanks .run)) =
      some (.ok, u32 600 ++ u32 2000 ++ u32 7500 ++ u32 8200 ++ u32 150) := by decide +kernel

/-- R16, R17: of a fall from above HH to below LL, the notice enables of R2 report L and LL falling, L first. -/
theorem test_level_reports_in_order :
    let s := (twoTanks .run).updTank 0 fun r => { r with states := ⟨.above, .above, .above, .above⟩ }
    (s.takeStates 0 100 ⟨.below, .below, .below, .below⟩).lu.queue.map (fun r => (r.kind, r.subject, r.code, r.value)) =
      [(.level, 1, 34, 100), (.level, 1, 18, 100)] := by decide +kernel

/-- Worked example of chapter 3: at 18.0 s a reversal gives the expiry 58.0 s, a travel timeout of 40 s later. -/
theorem test_travel_reversal :
    let s := { (valveState .run .movingToB .mid) with clock := 180 }
    ((s.command (.tank 0 .intake) .a).valve (.tank 0 .intake)).state = .movingToA ∧
      ((s.command (.tank 0 .intake) .a).valve (.tank 0 .intake)).timer = some 580 := by decide +kernel

/-- R58: a valve at rest that leaves its end is UNCOMMANDED. -/
theorem test_valveFeedback_uncommanded :
    let u := after1 (.valveFeedback (.tank 0 .intake) false false) (valveState .run .atA .a)
    (u.valve (.tank 0 .intake)).state = .fault ∧ lastReport u = some (.actuator, 1, 2, 2) := by decide +kernel

/-- R69: PUMP_RESET for a pump not in FAULT is refused. -/
theorem test_pumpReset_refused :
    lastReply (after1 (.pumpReset 5 [81]) (inMode .run)) = some (.badValue, []) := by decide +kernel

/-- Worked example of chapter 4: the sample at 172 s raises the grade by one step only. -/
theorem test_conductivity_worst_of_run :
    let s := maker .run fun r => { r with
      state := .flushing, counter := 2, worst := some .fair, settings := { r.settings with goodLimit := 400, fairLimit := 700 } }
    let u := after1 (.conductivitySample .wm1 390) s
    u.ir.wm1.grade = .fair ∧ u.ir.wm1.counter = 0 ∧ u.ir.wm1.worst = none := by decide +kernel

/-- R73: a worse sample takes its grade at once (worked example of chapter 4, 620 s). -/
theorem test_conductivity_falls_at_once :
    let s := maker .run fun r => { r with grade := .good }
    (after1 (.conductivitySample .wm1 760) s).ir.wm1.grade = .bad := by decide +kernel

/-- R74: a rise of the run signal begins a flush of 180 s with grade BAD. -/
theorem test_runSignal_rise :
    let u := after1 (.runSignal .wm1 true) (maker .run fun r => { r with grade := .good })
    u.ir.wm1.state = .flushing ∧ u.ir.wm1.grade = .bad ∧ u.ir.wm1.flush = some 1800 := by decide +kernel

/-- R96: 40 pulses to 100 L, so one pulse is 2 L and half a litre of residue (20 pulses of 40). -/
theorem test_sourcePulse_residue : countPulse 40 (7, 0) = (9, 20) ∧ countPulse 40 (9, 20) = (12, 0) := by decide

/-- R96: a totalizer returns to 0 after 4,294,967,295. -/
theorem test_sourcePulse_wraps : countPulse 100 (4294967295, 0) = (0, 0) := by decide

/-- Worked example of chapter 6: 480 pulses at 40 make 1200 L; the 481st gives floor(48,100 / 40). -/
theorem test_channelPulse_moved :
    let s := pumpingState.updChan .tc1 fun r => { r with runFactor := some 40, runPulses := 479 }
    let u := after1 (.channelPulse .tc1) (s.updLeg 310 1 fun l => { l with volume := 2000 })
    (u.runLeg .tc1).map (·.moved) = some 1200 ∧ u.te.tc1.phase = some .pumping := by decide +kernel

/-- Worked example of chapter 6: a VOLUME leg stops with COMPLETE once its volume is reached. -/
theorem test_channelPulse_complete :
    let s := pumpingState.updChan .tc1 fun r => { r with runFactor := some 50, runPulses := 382, movedAtStart := 1235 }
    let u := after1 (.channelPulse .tc1) (s.updLeg 310 1 fun l => { l with volume := 2000, moved := 1999 })
    (u.runLeg .tc1).map (·.moved) = some 2001 ∧ u.te.tc1.stop = some (.result .complete) ∧
      u.au.tp1.state = .stopping := by decide +kernel

/-- Worked example of chapter 9: CHANNEL_OUT on a pumping TC1 answers STOPPING_FOR_OUT (3). -/
theorem test_channelOut_pumping :
    lastReply (after1 (.channelOut 0x21 [1]) pumpingState) = some (.ok, [3]) := by decide +kernel

/-- R22, R129: a BALANCE leg ends by the M of the notice that the engine has taken, not by a later one. -/
theorem test_balance_reads_the_told_moment :
    let s := pumpingState.updLeg 310 1 fun l => { l with condition := .balance, volume := 5000 }
    let s := { s with tt := { s.tt with moment := 0, mHys := 100 } }
    ((s.take (.gauge .te 0 .valid)).chan .tc1).stop = none ∧
      ((s.take (.moment 0)).chan .tc1).stop = some (.result .complete) := by decide +kernel

/-- Worked example of chapter 5: the first order submitted is given to TC1 at once and takes sequence number 1. -/
theorem test_orderSubmit_starts :
    let u := after1 (.orderSubmit 1 (submitPayload 310 2 .skip [legT1T2])) (twoTanks .run)
    (u.order 310).map (fun o => (o.state, o.sequence, o.channel)) = some (.active, 1, some .tc1) ∧
      u.te.tc1.claims = [0, 1] := by decide +kernel

/-- R102: an id in use is refused. -/
theorem test_orderSubmit_id_in_use :
    lastReply (after1 (.orderSubmit 1 (submitPayload 310 2 .skip [legT1T2]))
      (withOrder .run (orderOf .held none))) = some (.idInUse, []) := by decide +kernel

/-- R154 (as in the worked example of chapter 7 at 0 s): SUPPLY_ADVANCE goes from T1 to T2 with both valves open. -/
theorem test_supplyAdvance_changes_over :
    let s := { twoTanks .run with ss := ⟨[0, 1], .supplying, some 0, none, none, none, true⟩ }
    let u := after1 (.supplyAdvance 1 []) s
    u.ss.state = .changeover ∧ u.ss.next = some 1 ∧ u.supplyOk = true := by decide +kernel

/-- R154, R187: the reply gives T1 and T2, each behind a presence byte. -/
theorem test_supplyAdvance_reply :
    lastReply (after1 (.supplyAdvance 1 []) { twoTanks .run with
      ss := ⟨[0, 1], .supplying, some 0, none, none, none, true⟩ }) = some (.ok, [1, 1, 1, 2]) := by decide +kernel

/-- Worked example of chapter 8: a heartbeat 3.0 s after the start of a 10 s WINDOW timer is early; the timer then runs 3.0 to 13.0 s. -/
theorem test_heartbeat_early :
    let s := { inMode .run with clock := 30, pmc := { (inMode .run).pmc with kind := .window } }
    let u := after1 (.heartbeat 1 []) s
    u.pmc.sup = .warning ∧ u.pmc.timer = some ⟨30, 10, 130⟩ ∧ lastReport u = some (.plant, 0, 3, 2) := by decide +kernel

/-- Worked example of chapter 8: at 6.0 s it is on time and ends the warning. -/
theorem test_heartbeat_on_time :
    let s := { inMode .run with clock := 90, pmc := { (inMode .run).pmc with
      kind := .window, sup := .warning, timer := some ⟨30, 10, 130⟩ } }
    (after1 (.heartbeat 1 []) s).pmc.sup = .watching := by decide +kernel

/-- R162: MODE_SET LAYUP is blocked by an order that waits. -/
theorem test_modeSet_layup_blocked :
    lastReply (after1 (.modeSet 1 [6]) (withOrder .run (orderOf .held none))) =
      some (.layupBlocked, []) := by decide +kernel

/-- R192: the first load of a new part takes the factory image and enters COMMISSION (R167). -/
theorem test_loadEnd_factory : (after1 .loadEnd State.reset).mode = .commission := by decide +kernel

/-- R178: STATUS_GET is answered in START; R176: TANK_GET is not. -/
theorem test_start_answers :
    (lastReply (after1 (.statusGet 1 []) State.reset)).map (·.1) = some .ok ∧
      lastReply (after1 (.tankGet 1 [3]) State.reset) = some (.modeConflict, []) := by decide +kernel

/-- Worked example of chapter 9: a fifth request is refused with LINK_BUSY. -/
theorem test_linkBusy_fifth :
    let s := (List.replicate 4 ()).foldl (fun s _ => after1 (.statusGet 1 []) s) (inMode .run)
    (after1 (.tankGet 0x34 [3]) s).lu.replies.getLast?.map (fun r => (r.status, r.refusal)) =
      some (.linkBusy, true) := by decide +kernel

/-- R59: a travel timeout faults the moving valve and reports the position it shows. -/
theorem test_travelTimeout_faults :
    lastReport (after1 (.travelTimeout (.tank 3 .suctionA)) ((twoTanks .run).updValve (.tank 3 .suctionA) fun _ =>
      valveIn .movingToA .mid)) = some (.actuator, 20, 1, 2) := by decide +kernel

/-! ### Witnesses: states and operands that meet each statement's hypotheses -/

/-- A full intake, with room in the reply sequence or without. -/
def fullIntake (refusals : Nat) : State :=
  { inMode .run with lu := { LinkUnit.start with
      intake := List.replicate 4 ⟨0x60, 1, []⟩,
      replies := List.replicate refusals ⟨0x60, 1, .linkBusy, [], true⟩ } }

/-- A RESTART has been accepted and every reply sent. -/
def restartingState : State := { inMode .run with lu := { LinkUnit.start with restarting := true } }

theorem witness_IdleStepsLetTimePass :
    State.reset.pending = [] ∧ { State.reset with power := .off }.power ≠ .on ∧
    ((inMode .run).pending = [] ∧ (inMode .run).power = .on ∧ ∀ c, ¬(inMode .run).due c) ∧
    (let s := { inMode .run with clock := 100 };
      s.pending = [] ∧ s.power = .on ∧ s.due .supervisionExpiry ∧ s.dueList = [.supervisionExpiry]) := by
  refine ⟨rfl, by decide, ⟨rfl, rfl, fun c => ?_⟩, rfl, rfl, ⟨_, rfl, rfl⟩, by decide +kernel⟩
  have hv : ∀ v : Valve, ((inMode .run).valve v).timer = none := by
    have h : ∀ i : Fin 77, (inMode .run).au.valves[i].timer = none := by decide +kernel
    exact fun v => h v.ix
  have ht : ∀ t : TankIx, (inMode .run).gauge t = none := by decide +kernel
  cases c with
  | sampleTimeout t => rintro ⟨_, h, _⟩; rw [ht] at h; cases h
  | sampleRequest t => rintro ⟨_, _, h, _⟩; rw [ht] at h; cases h
  | attitudeStale => rintro ⟨h, _⟩; cases h
  | travelTimeout v => rintro ⟨_, _, h, _⟩; rw [hv] at h; cases h
  | startTimeout c => rintro ⟨h, _⟩; cases c <;> cases h
  | stopTimeout c => rintro ⟨h, _⟩; cases c <;> cases h
  | flushEnd w => rintro ⟨h, _⟩; cases w <;> cases h
  | dumpLimit w => rintro ⟨_, _, h, _⟩; cases w <;> cases h
  | probeCheckEnd x => rintro ⟨_, h, _⟩; cases x <;> cases h
  | noFlow c => rintro ⟨h, _⟩; cases c <;> cases h
  | wakeLimit => rintro ⟨_, h, _⟩; cases h
  | falseWake => rintro ⟨_, h, _⟩; cases h
  | supervisionExpiry => rintro ⟨_, h, hr⟩; cases h; exact absurd hr (by decide)
  | restartRequest => rintro ⟨h, _⟩; cases h
  | _ => exact id

theorem witness_DeliveryKeepsWhatStands : (twoTanks .run).wakeless ∧ State.reset.wakeless := by decide +kernel

/-- Nothing in flight; one notice in flight; two in flight, of which the first sends another. -/
theorem witness_DeliveryKeepsWhatStands_takes :
    (twoTanks .run).msgs = [] ∧
    (∀ m ∈ [Msg.balance, .tank .ss 0 ⟨false, true, none, none, [], false⟩],
      ({ twoTanks .run with msgs := [m] }).deliver.msgs = []) ∧
    (let s := { twoTanks .run with ss := ⟨[0, 1], .searching, none, none, none, none, false⟩, msgs := [.gauge .ss 0 .valid, .balance] };
      (∃ m rest, s.msgs = m :: rest) ∧ s.deliver.msgs = []) := by
  refine ⟨rfl, ?_, ⟨_, _, rfl⟩, ?_⟩ <;> decide +kernel

theorem witness_LinkUnitRefusesByKind :
    ((Instr.unknownKind 0x5A 1 []).request = some ⟨0x5A, 1, []⟩ ∧ (inMode .run).listening ∧ handlerOf 0x5A = none) ∧
    ((Instr.tankGet 1 []).request = some ⟨0x18, 1, []⟩ ∧ State.reset.listening ∧ State.reset.mode = .start ∧
      (handlerOf 0x18).isSome ∧ (0x18 : Byte) ≠ statusGetKind) := by decide +kernel

theorem witness_ChecksRefuseRequests :
    (Instr.tankGet 1 []).request = some ⟨0x18, 1, []⟩ ∧ (inMode .run).ready ∧ payloadSizeOk 0x18 [] = false ∧
      payloadSizeOk 0x18 [1, 2] = false := by decide +kernel

theorem witness_ChecksRefuseRequests_second :
    (Instr.settingsSave 1 [4]).request = some ⟨0x68, 1, [4]⟩ ∧ savingState.listening ∧ savingState.mode = .commission ∧
      savingState.saving = true ∧ (0x68 : Byte) ∈ refusedBySave ∧ payloadSizeOk 0x68 [4] = true ∧
      savingState.mode.takesChange 0x69 = true ∧
      (∀ m ∈ [Mode.configure, .run, .harbour, .layup, .waking, .fallback], 
        ({ inMode m with sts := savingState.sts }).ready ∧ ({ inMode m with sts := savingState.sts }).saving = true ∧
          m.takesChange 0x68 = true) ∧
      Mode.takesChange .configure 0x10 = true := by decide +kernel

theorem witness_ChecksRefuseRequests_mode :
    (Instr.tankRemove 1 [1]).request = some ⟨0x11, 1, [1]⟩ ∧ (inMode .run).ready ∧ (0x11 : Byte) ∈ refusedBySave ∧
      payloadSizeOk 0x11 [1] = true ∧ (inMode .run).mode.takesChange 0x11 = false ∧
      payloadSizeOk 0x69 [4] = true ∧ (inMode .configure).mode.takesChange 0x69 = false := by decide +kernel

/-- The values at which the ranges of R6 end. -/
theorem witness_ChecksRefuseRequests_definitions :
    let p (d : TankDef) : List Byte := tankByte 0 ++ d.bytes
    ((inMode .configure).ready ∧ (inMode .configure).saving = false ∧ (inMode .configure).mode.takesChange 0x10 = true ∧
      ∀ d : TankDef, payloadSizeOk 0x10 (p d) = true) ∧
    (∃ outside : Int → Int → Int → Prop, ∀ lo hi v, outside lo hi v ↔ v < lo ∨ hi < v) ∧
    byteAt [0] 0 < 1 ∧ 12 < byteAt [13] 0 ∧
    i16At (p { defT3 with height := 499 }) 1 = 499 ∧ i16At (p { defT3 with height := 8001 }) 1 = 8001 ∧
    u32At (p { defT3 with residual := 5001 }) 3 = 5001 ∧ i16At (p { defT3 with arm := -1501 }) 7 = -1501 ∧
    i16At (p { defT3 with span := 8001 }) 10 = 8001 ∧ i16At (p { defT3 with zeroOffset := 501 }) 12 = 501 ∧
    i16At (p { defT3 with stepLimit := 2001 }) 14 = 2001 ∧ byteAt (p { defT3 with windowLength := 3 }) 16 = 3 ∧
    i16At (p { defT3 with dx := -20001 }) 17 = -20001 ∧ i16At (p { defT3 with dy := 20001 }) 19 = 20001 :=
  ⟨⟨by decide +kernel, by decide +kernel, by decide +kernel, fun _ => rfl⟩, ⟨_, fun _ _ _ => Iff.rfl⟩, by decide +kernel⟩

/-- The values at which the ranges of R10, R11, R18, R64, R77, R79, R95, R118, R155, R171 and R189 end. -/
theorem witness_ChecksRefuseRequests_settings :
    let c := inMode .configure
    let f := SourceSettings.factory
    let x (v : SourceSettings) : List Byte := u8 1 ++ v.bytes
    (∀ r ∈ ([⟨0x13, 1, [1, 3]⟩, ⟨0x14, 1, [1, 4]⟩, ⟨0x15, 1, [1] ++ u32 100000 ++ List.replicate 16 0⟩, ⟨0x2B, 1, u16 9⟩,
        ⟨0x2B, 1, u16 121⟩, ⟨0x32, 1, [4]⟩, ⟨0x30, 1, x f⟩, ⟨0x31, 1, [3, 1]⟩, ⟨0x31, 1, [1, 3]⟩, ⟨0x34, 1, [9]⟩,
        ⟨0x33, 1, [1, 1, 7, 7, 3, 0, 0]⟩, ⟨0x33, 1, [1, 1, 7, 7, 2, 4, 1, 1]⟩, ⟨0x33, 1, [1, 1, 7, 7, 2, 1, 0]⟩,
        ⟨0x33, 1, [1, 1, 7, 7, 2, 1, 1, 13]⟩, ⟨0x33, 1, [1, 1, 7, 7, 2, 1, 2, 5, 5]⟩, ⟨0x4A, 1, [3]⟩,
        ⟨0x48, 1, [1] ++ u16 10001 ++ u16 4⟩, ⟨0x50, 1, [2, 5, 5]⟩, ⟨0x50, 1, [1, 0]⟩, ⟨0x59, 1, u16 61 ++ [3]⟩,
        ⟨0x68, 1, [3]⟩] : List Request), payloadSizeOk r.kind r.payload = true ∧ c.mode.takesChange r.kind = true) ∧
    (c.ready ∧ c.saving = false) ∧
    u16At (x { f with goodLimit := 9 }) 1 = 9 ∧ u16At (x { f with goodLimit := 700, fairLimit := 700 }) 3 = 700 ∧
    byteAt (x { f with improvement := 9 }) 5 = 9 ∧ u16At (x { f with flushTime := 901 }) 6 = 901 ∧
    u16At (x { f with dumpLimit := 59 }) 8 = 59 ∧ u16At (x { f with meterFactor := 10001 }) 10 = 10001 ∧
    u16At (x { f with probeReference := 10000 }) 12 = 10000 ∧ u16At (x { f with probeTolerance := 10000 }) 14 = 10000 := by
  decide +kernel

/-- The values at which the ranges of R60, R61, R63 and R181 end. -/
theorem witness_ChecksRefuseRequests_numbers :
    let c := inMode .commission
    (∀ r ∈ ([⟨0x28, 1, [0, 1]⟩, ⟨0x28, 1, [78, 2]⟩, ⟨0x28, 1, [77, 0]⟩, ⟨0x28, 1, [1, 3]⟩, ⟨0x29, 1, [0]⟩, ⟨0x29, 1, [78]⟩,
        ⟨0x2A, 1, [0]⟩, ⟨0x2A, 1, [78]⟩, ⟨0x2A, 1, [80]⟩, ⟨0x2A, 1, [83]⟩, ⟨0x61, 1, [0]⟩, ⟨0x61, 1, [9]⟩] : List Request),
      payloadSizeOk r.kind r.payload = true ∧ r.kind ∉ refusedBySave) ∧
    (c.ready ∧ c.mode = .commission) ∧
    (Instr.valveSet 1 [78, 2]).request = some ⟨0x28, 1, [78, 2]⟩ ∧
    (Instr.fetchReports 1 [9]).request = some ⟨0x61, 1, [9]⟩ := by decide +kernel

theorem witness_QueriesChangeNothing :
    State.reset.listening ∧ (withOrder .run (orderOf .held none)).listening ∧
      (withOrder .run (orderOf .held none)).mode ≠ .start ∧
      ((withOrder .run (orderOf .held none)).gauge 0).isSome ∧
      ((withOrder .run (orderOf .held none)).order 310).isSome := by decide +kernel

theorem witness_FullIntakesRefuseAndSentRepliesLeave :
    (Instr.linkBusy 0x60 1 []).request = some ⟨0x60, 1, []⟩ ∧ (fullIntake 0).power = .on ∧
      (fullIntake 0).lu.restarting = false ∧ intakeCapacity ≤ (fullIntake 0).lu.intake.length ∧
      (fullIntake (refusalCapacity - 1)).lu.refusals < refusalCapacity ∧
      intakeCapacity ≤ (fullIntake refusalCapacity).lu.intake.length ∧
      refusalCapacity ≤ (fullIntake refusalCapacity).lu.refusals := by decide +kernel

theorem witness_FullIntakesRefuseAndSentRepliesLeave_second :
    (∃ r rest, (after1 (.statusGet 1 []) (inMode .run)).lu.replies = r :: rest ∧ r.refusal = false) ∧
      (∃ r rest, (fullIntake 1).lu.replies = r :: rest ∧ r.refusal = true) ∧
      (after1 (.statusGet 1 []) (inMode .run)).power = .on ∧ (fullIntake 1).power = .on :=
  ⟨⟨_, _, rfl, rfl⟩, ⟨_, _, rfl, rfl⟩, by decide +kernel, rfl⟩

theorem witness_FramesAreReceivedOrDiscarded :
    ([] : List Byte).length ≤ 250 ∧ (List.replicate 250 (0x5A : Byte)).length ≤ 250 := by decide +kernel

theorem witness_FramesAreReceivedOrDiscarded_longest :
    (List.replicate 252 (0 : Byte)).length ≤ 252 ∧
      ∃ hi lo : Byte, u16 (crc16 (frameCore (List.replicate 252 0))).toNat ≠ [hi, lo] := by
  refine ⟨Nat.le_of_eq List.length_replicate, ?_⟩
  by_cases h : u16 (crc16 (frameCore (List.replicate 252 0))).toNat = [0, 0]
  · exact ⟨0, 1, by rw [h]; decide⟩
  · exact ⟨0, 0, h⟩

theorem witness_FramesAreReceivedOrDiscarded_second :
    (inMode .run).power = .on ∧ (inMode .run).lu.framer = .hunt ∧
      (2 ≤ ([0x60, 1] : List Byte).length ∧ ([0x60, 1] : List Byte).length ≤ 252 ∧
        u16 (crc16 (frameCore [0x60, 1])).toNat ≠ [0, 0]) ∧
      (1 : Byte).toNat < 2 ∧ 252 < (253 : Byte).toNat ∧
      ((inMode .run).lu.framer.bytes [0x5A, 3, 0x18]).2 = [] := by decide +kernel

theorem witness_PayloadsReadBack :
    defT3.lawful ∧ strapLawful 2000 strapT3 ∧
      (99999 ≤ 99999 ∧ (0 : Nat) ≤ 99999) ∧ SourceSettings.factory.lawful ∧ ruleT1.lawful = true ∧
      (65535 < 65536 ∧ 3 ≤ 3 ∧ 1 ≤ [legT1T2].length ∧ (List.replicate 8 legT1T2).length ≤ 8 ∧
        ∀ l ∈ [legT1T2], l.submitted) ∧
      (1 ≤ ([0, 11] : List TankIx).length ∧ ([0, 11] : List TankIx).Nodup) := by decide +kernel

theorem witness_ReportsAreFetchedAndEnabled :
    (inMode .run).ready ∧ 1 ≤ (1 : Byte).toNat ∧ (8 : Byte).toNat ≤ 8 ∧ (inMode .run).power = .on := by decide +kernel

theorem witness_ReportsAreFetchedAndEnabled_second :
    ((inMode .run).power = .on ∧ (inMode .run).lu.restarting = false ∧
      (inMode .run).lu.intake.length < intakeCapacity ∧ (inMode .run).mode ≠ .start) ∧
    ([] : List Byte).length ≠ 10 ∧
    (State.reset.power = .on ∧ State.reset.lu.restarting = false ∧ State.reset.lu.intake.length < intakeCapacity ∧
      State.reset.mode = .start) ∧
    LinkUnit.start.enables.bytes = List.replicate 10 1 ∧
    (List.replicate 10 (2 : Byte)).length = 10 ∧ (∃ b ∈ List.replicate 10 (2 : Byte), b ≠ 0 ∧ b ≠ 1) ∧
    { LinkUnit.start.enables with gauge := false }.get .gauge = false := by decide +kernel

/-- A queue with room for one more, and a full one. -/
theorem witness_ReportsAreFetchedAndEnabled_queue :
    let l (n : Nat) : LinkUnit := { LinkUnit.start with queue := List.replicate n ⟨.gauge, 1, 1, 0, 0⟩ }
    (l 31).enables.get .gauge = true ∧ (l 31).queue.length < 32 ∧ 32 ≤ (l 32).queue.length := by decide +kernel

theorem witness_RestartWaitsForItsReply :
    (inMode .run).ready ∧ (inMode .run).saving = false ∧ restartingState.power = .on ∧
      restartingState.lu.restarting = true ∧ restartingState.lu.replies = [] ∧
      (Instr.tankGet 1 []).request = some ⟨0x18, 1, []⟩ ∧ (fullIntake 1).lu.replies ≠ [] := by decide +kernel

theorem witness_ThePartStartsAndStops :
    (inMode .run).power ≠ .off ∧ (inMode .run).pins.resetn = true ∧
      ({ inMode .run with pins := { (inMode .run).pins with resetn := false } }).pins.resetn = false := by decide +kernel

theorem witness_ThePartStartsAndStops_second :
    (inMode .run).power ≠ .off ∧ { inMode .run with power := .held }.power ≠ .on ∧
      { inMode .run with power := .off }.power = .off := by decide +kernel

theorem witness_LoadTakesTheImage :
    State.reset.power = .on ∧ State.reset.mode = .start ∧ State.reset.pmc.wake = none ∧
      (∀ m ∈ State.reset.msgs, m.wakes = false) ∧ State.reset.sts.checksumAgrees = true ∧
      State.reset.msgs = [] ∧ State.reset.quietAtStart ∧
      { State.reset with sts := { State.reset.sts with checksumAgrees := false } }.sts.checksumAgrees = false := by
  decide +kernel

theorem witness_SavesAreRecordedAndEndCommissioning :
    (inMode .run).ready ∧ (inMode .run).saving = false ∧ startModeAt [4] 0 = some .run ∧ savingState.power = .on ∧
      savingState.sts.save.isSome ∧ (inMode .run).sts.save = none := by decide +kernel

theorem witness_SavesAreRecordedAndEndCommissioning_second :
    ((inMode .commission).ready ∧ (inMode .commission).mode = .commission ∧ (inMode .commission).saving = false ∧
      startModeAt [6] 0 = some .layup ∧ (inMode .commission).anyActive = false ∧
      ∀ x ∈ (inMode .commission).msgs, x.wakes = false) ∧
    ((withOrder .commission (orderOf .active (some .tc1))).ready ∧
      (withOrder .commission (orderOf .active (some .tc1))).anyActive = true) := by decide +kernel

theorem witness_LinkUnitResetValues :
    (∃ u, exec .powerUp (inMode .run) = .next u) ∧
    ((inMode .run).power ≠ .off ∧ ∃ u, exec .resetLine (inMode .run) = .next u) ∧
    (restartingState.power = .on ∧ restartingState.lu.restarting = true ∧ restartingState.lu.replies = [] ∧
      ∃ u, exec .restartRequest restartingState = .next u) :=
  ⟨⟨_, rfl⟩, ⟨by decide +kernel, _, rfl⟩, by decide +kernel, by decide +kernel, by decide +kernel, _, rfl⟩

theorem witness_TanksAreDefinedAndRemoved :
    ((inMode .commission).configurable ∧ ((inMode .commission).tank 0).service = .undefined) ∧
    ((twoTanks .configure).configurable ∧ ((twoTanks .configure).tank 0).service ≠ .undefined) ∧
    ((tankByte 0 ++ defT3.bytes).length = 21 ∧ tankAt (tankByte 0 ++ defT3.bytes) 0 = some 0 ∧
      readDefinition (tankByte 0 ++ defT3.bytes) = some defT3 ∧
      ∀ tb ∈ ((twoTanks .configure).tank 0).strap, lastLevel tb = defT3.height) ∧
    (readDefinition (tankByte 0 ++ { defT3 with height := 500 }.bytes) = some { defT3 with height := 500 } ∧
      ∃ tb ∈ ((twoTanks .configure).tank 0).strap, lastLevel tb ≠ 500) := by
  refine ⟨by decide +kernel, by decide +kernel, by decide +kernel, by decide +kernel, strapT3, rfl, by decide⟩

theorem witness_TanksAreDefinedAndRemoved_second :
    ((inMode .commission).configurable ∧ ((inMode .commission).tank 11).service = .undefined) ∧
    ((twoTanks .configure).configurable ∧ ((twoTanks .configure).tank 0).service ≠ .undefined) := by decide +kernel

/-- The payload of a STRAP_LOAD of T1. -/
def strapPayload (tb : List StrapPoint) : List Byte := tankByte 0 ++ listField StrapPoint.bytes tb

theorem witness_StrapLoadsAndReadmissionsRestartGauges :
    (twoTanks .configure).configurable ∧ payloadSizeOk 0x12 (strapPayload strapT3) = true ∧
    tankAt (strapPayload strapT3) 0 = some 0 ∧ ((twoTanks .configure).tank 0).defn = some defT3 ∧
    (payloadSizeOk 0x12 (strapPayload strapT3.reverse) = true ∧ readStrap 2000 (strapPayload strapT3.reverse) = none) ∧
    readStrap 2000 (strapPayload strapT3) = some strapT3 ∧
    (∀ old ∈ ((twoTanks .configure).tank 0).limits, limitsOk (clampLimits 8200 old) = true) ∧
    (payloadSizeOk 0x12 (strapPayload [⟨0, 0⟩, ⟨2000, 500⟩]) = true ∧
      readStrap 2000 (strapPayload [⟨0, 0⟩, ⟨2000, 500⟩]) = some [⟨0, 0⟩, ⟨2000, 500⟩] ∧
      ∀ old ∈ ((twoTanks .configure).tank 0).limits, limitsOk (clampLimits 500 old) = false) := by decide +kernel

theorem witness_ServiceAndClassAreSet :
    ((twoTanks .run).ready ∧ ((twoTanks .run).tank 0).service ≠ .undefined ∧ (twoTanks .run).saving = false ∧
      ((twoTanks .run).tank 0).strap.isSome ∧ QClass.quarantine ≠ ((twoTanks .run).tank 0).cls) ∧
    (let s := (twoTanks .run).putTank 0 { tankOf .potable 0 with strap := none };
      s.ready ∧ (s.tank 0).service ≠ .undefined ∧ s.saving = false ∧ (s.tank 0).strap = none) := by decide +kernel

theorem witness_LimitsAndPlainSettingsAreStored :
    (twoTanks .run).ready ∧ (twoTanks .run).saving = false ∧ ((twoTanks .run).tank 0).service ≠ .undefined ∧
      ((twoTanks .run).tank 0).strap = some strapT3 ∧
      limitsOk (clampLimits (fullVolume strapT3) ⟨600, 2000, 7500, 99999, 150⟩) = true ∧
      limitsOk (clampLimits (fullVolume strapT3) ⟨600, 2000, 8200, 99999, 150⟩) = false ∧
      (((twoTanks .run).tank 0).volume = some 5000 ∧ ((twoTanks .run).tank 0).held = false) ∧
      (((twoTanks .run).putTank 0 { tankOf .potable 5000 with held := true }).ready ∧
        (((twoTanks .run).putTank 0 { tankOf .potable 5000 with held := true }).tank 0).held = true) := by decide +kernel

theorem witness_LimitsAndPlainSettingsAreStored_second :
    (twoTanks .configure).configurable ∧ ((twoTanks .configure).tank 0).service ≠ .undefined ∧
      (4294967295 < 4294967296 ∧ ((0 : Nat) = 0 ∧ (0 : Nat) = 0) ∧ (1800000000 ≤ 1800000000 ∧ 1799999999 < 1800000000)) ∧
      (10 ≤ 10 ∧ 120 ≤ 120) ∧ (1 ≤ 1 ∧ 10000 ≤ 10000 ∧ 5 ≤ 5 ∧ 60 ≤ 60) ∧ (2 ≤ 2 ∧ 60 ≤ 60) := by decide +kernel

/-- T1's gauge in a state. -/
def gaugeState (m : Mode) (g : GaugeChannel) : State := (twoTanks m).setGauge 0 (some g)

theorem witness_StrapLoadsAndReadmissionsRestartGauges_second :
    ((twoTanks .layup).ready ∧ (twoTanks .layup).gauge 11 = none) ∧
      (∃ c, (twoTanks .layup).gauge 0 = some c ∧ c.state ≠ .failed) ∧
      ((gaugeState .layup (gaugeIn .failed)).ready ∧
        ∃ c, (gaugeState .layup (gaugeIn .failed)).gauge 0 = some c ∧ c.state = .failed) :=
  ⟨by decide +kernel, ⟨gaugeIn .valid, by decide +kernel, by decide⟩, by decide +kernel,
    gaugeIn .failed, by decide +kernel, by decide⟩

/-- The channel that has just taken an answer, as SamplesAreTaken handles it in the upright attitude of a start. -/
def taken (c : GaugeChannel) (raw : Option Nat) : GaugeChannel :=
  GaugeChannel.handled { c with inFlight := none, lastSample := some 0 } GaugingUnit.start.attitude raw

/-- A channel that waits for an answer. -/
def asked (c : GaugeChannel) : GaugeChannel := { c with inFlight := some 0 }

theorem witness_SamplesAreTaken :
    (∀ c : GaugeChannel, (gaugeState .run c).power = .on ∧ (gaugeState .run c).mode ≠ .start ∧
      (gaugeState .run c).gauge 0 = some c) ∧
    (asked (gaugeIn .failed)).inFlight = some 0 ∧ (asked (gaugeIn .failed)).state = .failed ∧
    (elapsed 0 0 ≤ 1 ∧ elapsed 1 0 ≤ 1 ∧ (65520 : BitVec 16).toNat ≤ 65520 ∧ ¬(65521 : BitVec 16).toNat ≤ 65520) ∧
    (taken (asked (gaugeIn .settling)) (some 65520)).toPublish = none ∧
    (taken (asked (gaugeIn .settling)) (some 65520)).state = .settling ∧
    ((taken (asked { gaugeIn .valid with score := 127 }) none).toPublish = none ∧
      (taken (asked { gaugeIn .valid with score := 127 }) none).state = .failed) ∧
    ((taken (asked (gaugeIn .valid)) (some 26208)).toPublish.isSome ∧
      ((gaugeState .run (asked (gaugeIn .valid))).tank 0).service ≠ .undefined) := by
  refine ⟨fun c => ⟨rfl, ?_, ?_⟩, by decide +kernel⟩
  · exact show Mode.run ≠ Mode.start by decide
  · simp [gaugeState, State.gauge, State.setGauge]

theorem witness_VolumesFollowTheStrappingTable : strapLawful 2000 strapT3 ∧ 0 ≤ 2000 ∧ 2000 ≤ 2000 := by decide

theorem witness_GaugesAndAttitudeFollowTheirSamples :
    (inMode .run).power = .on ∧ (inMode .run).gu.attitude.live = false ∧
      (after1 (.attitudeSample 0 0) (inMode .run)).gu.attitude.live = true ∧
      (after1 (.attitudeSample 0 0) (inMode .run)).power = .on ∧
      (-3000 ≤ (3000 : BitVec 16).toInt ∧ (3000 : BitVec 16).toInt ≤ 3000) ∧
      (3000 < (3001 : BitVec 16).toInt) ∧ (-3001 : BitVec 16).toInt < -3000 := by decide +kernel

/-- The terms of R37's table, a sample at the step limit and one beyond it (R35), a head below the tank and one above it. -/
theorem witness_GaugesAndAttitudeFollowTheirSamples_second :
    let c := gaugeIn .valid
    (∃ nearest : Int → Int → Prop, (∀ n p, nearest n p ↔ 2 * (p - 10000 * n).natAbs ≤ 10000 ∧
        (2 * (p - 10000 * n).natAbs = 10000 → p.natAbs < (10000 * n).natAbs)) ∧
      nearest 38 (2500 * 150) ∧ nearest (-38) (2500 * (-150)) ∧ nearest 48 ((-1200) * (-400)) ∧ nearest 0 (700 * 5) ∧
      nearest (-1) ((-700) * 15)) ∧
    c.state ≠ .failed ∧ c.reference = some 1600 ∧
    (((1900 - 1600 : Int).natAbs ≤ c.stepLimit) ∧ ¬(1901 - 1600 : Int).natAbs ≤ c.stepLimit) ∧
    (c.handled ⟨0, 0, true, false, 0⟩ (some 26208)).window.length = c.windowLength ∧
    (c.handled ⟨0, 0, true, false, 0⟩ (some 26208)).state ≠ .failed ∧
    (((0 : Nat) : Int) = min (max ((-1 : Int) - 0 - 0) 0) (c.height : Int) ∧
      ((2000 : Nat) : Int) = min (max ((2001 : Int) - 0 - 0) 0) (c.height : Int)) ∧
    (({ c with score := 120 }).handled ⟨0, 0, true, false, 0⟩ none).state = .failed :=
  ⟨⟨_, fun _ _ => Iff.rfl, by decide⟩, by decide +kernel⟩

/-- T1-IN. -/
def in1 : Valve := .tank 0 .intake

theorem witness_ValveEventsAreTaken :
    ((valveState .run .atA .a).power = .on ∧
      (⟨true, false⟩ : LimitInputs).position = ((valveState .run .atA .a).valve in1).reported) ∧
    ((⟨false, true⟩ : LimitInputs).position ≠ ((valveState .run .fault .mid).valve in1).reported ∧
      ((valveState .run .fault .mid).valve in1).state = .fault) ∧
    ((⟨false, false⟩ : LimitInputs).position ≠ ((valveState .run .movingToB .a).valve in1).reported ∧
      ((valveState .run .movingToB .a).valve in1).state = ValveEnd.moving .b ∧
      (⟨false, false⟩ : LimitInputs).position ≠ ValveEnd.position .b) ∧
    ((⟨false, true⟩ : LimitInputs).position ≠ ((valveState .run .movingToB .mid).valve in1).reported ∧
      ((valveState .run .movingToB .mid).valve in1).state = ValveEnd.moving .b ∧
      (⟨false, true⟩ : LimitInputs).position = ValveEnd.position .b) ∧
    ((⟨false, false⟩ : LimitInputs).position ≠ ((valveState .run .atA .a).valve in1).reported ∧
      (⟨false, false⟩ : LimitInputs).position ≠ ValveEnd.position .a ∧
      ((valveState .run .atA .a).valve in1).state = ValveEnd.atEnd .a) := by decide +kernel

theorem witness_ValveEventsAreTaken_second :
    ((valveState .run .movingToB .mid).power = .on ∧ ((valveState .run .movingToB .mid).valve in1).state.target.isSome ∧
      ((valveState .run .movingToB .mid).valve in1).timer.isSome) ∧
    ((valveState .run .atA .a).power = .on ∧ ((valveState .run .atA .a).valve in1).state.target = none) := by
  decide +kernel

theorem witness_PumpsAnswerTheirFeedback :
    let starting := pumpState .run ⟨true, false, .starting, some 50, none⟩
    let stopping := pumpState .run ⟨false, true, .stopping, some 100, none⟩
    let running := pumpState .run ⟨true, true, .running, none, none⟩
    let stopped := pumpState .run ⟨false, false, .stopped, none, none⟩
    (starting.power = .on ∧ true ≠ (starting.pump .tc1).feedback ∧ (starting.pump .tc1).state = .starting ∧
      (starting.pump .tc1).timer.isSome) ∧
    (stopping.power = .on ∧ false ≠ (stopping.pump .tc1).feedback ∧ (stopping.pump .tc1).state = .stopping ∧
      (stopping.pump .tc1).timer.isSome) ∧
    (running.power = .on ∧ false ≠ (running.pump .tc1).feedback ∧ (running.pump .tc1).state = .running) ∧
    (stopped.power = .on ∧ true ≠ (stopped.pump .tc1).feedback ∧ (stopped.pump .tc1).state = .stopped) := by
  decide +kernel

/-- A pump in each state that a start and a stop command find, with and without feedback. -/
theorem witness_PumpsAnswerTheirFeedback_commands :
    ∀ p ∈ ([⟨false, true, .stopped, none, none⟩, ⟨false, false, .stopped, none, none⟩, ⟨false, true, .stopping, some 100, none⟩,
      ⟨true, false, .starting, some 50, none⟩, ⟨true, true, .running, none, none⟩, ⟨true, false, .running, none, none⟩,
      ⟨false, true, .fault, none, some .tripped⟩] : List PumpRecord), (pumpState .run p).pump .tc1 = p := by decide +kernel

theorem witness_HostMovesAndResetsValves :
    ((valveState .run .atA .a).ready ∧ (valveState .run .atA .a).mode ≠ .commission) ∧
    ((valveState .commission .fault .mid).ready ∧ (valveState .commission .fault .mid).mode = .commission ∧
      ((valveState .commission .fault .mid).valve in1).state = .fault) ∧
    (let s := (valveState .commission .atA .a).updValve (.tank 1 .intake) fun _ => valveIn .atB .b;
      s.ready ∧ s.mode = .commission ∧ (s.valve in1).state ≠ .fault ∧ s.anotherOpen in1 = true) ∧
    ((valveState .commission .atA .a).ready ∧ ((valveState .commission .atA .a).valve in1).state ≠ .fault ∧
      (valveState .commission .atA .a).ownerActive in1.owner = false ∧
      (valveState .commission .atA .a).anotherOpen in1 = false) := by decide +kernel

theorem witness_HostMovesAndResetsValves_second :
    ((valveState .run .atA .a).ready ∧ ((valveState .run .atA .a).valve in1).state ≠ .fault) ∧
    ((valveState .run .fault .mid).ready ∧ ((valveState .run .fault .mid).valve in1).state = .fault ∧
      ((valveState .run .fault .mid).valve in1).reported ≠ .a) ∧
    (((valveState .run .fault .a).valve in1).state = .fault ∧
      ((valveState .run .fault .a).valve in1).reported = .a) := by decide +kernel

/-- A record of each kind that a return finds, and a valve of each state that a command to the B end finds. -/
theorem witness_HostMovesAndResetsValves_commands :
    (∀ s : State, ∃ back : ValveRecord → ValveRecord, ∀ r, back r =
      if r.hostMark = false then r
      else if r.state = .fault then { r with hostMark := false }
      else if r.state = .atA ∨ r.state = .movingToA then { r with hostMark := false, driver := .return }
      else if r.reported = .a then
        { r with hostMark := false, driver := .return, commanded := .a, state := .atA, timer := none, resetting := false }
      else { r with hostMark := false, driver := .return, commanded := .a, state := .movingToA,
                    timer := some (after s.clock (s.au.travelTimeout * 10)) }) ∧
    (((valveState .run .fault .mid).valve in1).state = .fault ∧
      ((valveState .run .fault .mid).valve in1).reason = some .uncommanded) ∧
    ((valveState .run .atB .b).valve in1).state = ValveEnd.b.atEnd ∧
    ((valveState .run .movingToB .mid).valve in1).state = ValveEnd.b.moving ∧
    (((valveState .run .movingToA .mid).valve in1).state ∉ [.fault, ValveEnd.b.atEnd, ValveEnd.b.moving] ∧
      ((valveState .run .movingToA .mid).valve in1).reported ≠ ValveEnd.b.position) ∧
    (((valveState .run .movingToA .b).valve in1).state ∉ [.fault, ValveEnd.b.atEnd, ValveEnd.b.moving] ∧
      ((valveState .run .movingToA .b).valve in1).reported = ValveEnd.b.position) :=
  ⟨fun _ => ⟨fun _ => _, fun _ => rfl⟩, by decide +kernel⟩

/-- R62: the host has opened T1-IN, and the router's command to open T2-IN returns it first. -/
theorem test_ownerCommand_returns_host_valve :
    let s := (twoTanks .commission).updValve in1 fun _ => { valveIn .atB .b with hostMark := true, driver := .host }
    let u := s.command (.tank 1 .intake) .b
    (u.valve in1).state = .movingToA ∧ (u.valve in1).hostMark = false ∧ (u.valve in1).driver = .return ∧
      (u.valve (.tank 1 .intake)).state = .movingToB ∧ (u.valve (.tank 1 .intake)).demand = .b ∧ u.msgs = [] := by
  decide +kernel

theorem witness_PumpResetsClearFaults :
    let stopped := pumpState .run ⟨false, true, .stopped, none, none⟩
    let faulted := pumpState .run ⟨false, true, .fault, none, some .tripped⟩
    (State.reset.listening ∧ State.reset.mode = .start) ∧
    (stopped.listening ∧ stopped.mode ≠ .start ∧ (stopped.pump .tc1).state ≠ .fault ∧
      (stopped.pump .tc1).state = .stopped ∧ (stopped.pump .tc1).feedback = true) ∧
    (faulted.listening ∧ faulted.mode ≠ .start ∧ (faulted.pump .tc1).state = .fault) ∧
    ([] : List Byte).length ≠ 1 ∧ (80 : Byte) ≠ 81 ∧ (80 : Byte) ≠ 82 ∧ (83 : Byte) ≠ 81 ∧ (83 : Byte) ≠ 82 := by
  decide +kernel

theorem witness_FaultedValvesAreNotDriven :
    (Instr.valveFeedback in1 false true).mayRepair = false ∧ ((valveState .run .fault .mid).valve in1).state = .fault ∧
      ∃ u, exec (.valveFeedback in1 false true) (valveState .run .fault .mid) = .next u :=
  ⟨by decide +kernel, by decide +kernel, _, rfl⟩

theorem witness_SourceSettingsAndPermitsAreStored :
    (inMode .configure).configurable ∧ SourceSettings.factory.lawful ∧ ruleT1.lawful = true ∧
      { SourceSettings.factory with dumpLimit := 0 }.lawful ∧
      (((inMode .configure).source .wm1).dump.all fun t => decide (elapsed 0 t < 6000)) = true := by decide +kernel

theorem witness_SourceSettingsAndPermitsAreStored_second :
    (inMode .run).ready ∧ (inMode .run).power = .on ∧
    (let s := maker .run fun r => { r with state := .dumping, dump := some 0 };
      s.power = .on ∧ (s.source (Watermaker.source .wm1)).dump.isSome ∧
        (s.source (Watermaker.source .wm1)).inhibited = none ∧
        (s.source (Watermaker.source .wm1)).settings.dumpLimit ≠ 0) ∧
    (let s := maker .run fun r =>
        { r with state := .dumping, dump := some 0, settings := { r.settings with dumpLimit := 0 } };
      s.power = .on ∧ (s.source (Watermaker.source .wm1)).dump.isSome ∧
        (s.source (Watermaker.source .wm1)).inhibited = none ∧
        (s.source (Watermaker.source .wm1)).settings.dumpLimit = 0) := by decide +kernel

/-- The conditions of the dump timer hold, and each of the three fails; a mark is set with a cause and with none. -/
theorem witness_SourceSettingsAndPermitsAreStored_timer :
    let s := maker .run fun r => { r with state := .dumping }
    s.dumpTimerRuns .wm1 = true ∧
    (s.updSource .wm1 fun r => { r with state := .flushing }).dumpTimerRuns .wm1 = false ∧
    (s.updValve (.diverter .wm1) fun _ => valveIn .atB .b).dumpTimerRuns .wm1 = false ∧
    (s.updSource .wm1 fun r => { r with inhibited := some .dumpLimit }).dumpTimerRuns .wm1 = false ∧
    (s.production = true ∧ (inMode .harbour).production = false) ∧
    ((s.updSource .wm1 fun r => { r with inhibited := some .dumpLimit }).source .wm1).inhibited = some .dumpLimit ∧
    (∃ kept : Watermaker → SourceRecord → SourceRecord, ∀ w r,
      kept w r = { r with dump := if s.dumpTimerRuns w = true then some (r.dump.getD s.clock) else none }) := by
  refine ⟨?_, ?_, ?_, ?_, ?_, ?_, ⟨fun _ _ => _, fun _ _ => rfl⟩⟩ <;> decide +kernel

/-- R76: a diverter that leaves MAIN starts the dump timer from zero, and SOURCE_PERMIT GIVE starts it again. -/
theorem test_dump_timer_starts :
    let s := { (maker .run fun r => { r with state := .dumping, dump := some 3 }) with clock := 7 }
    (after1 (.sourcePermit 1 [1, 1]) s).ir.wm1.dump = some 7 ∧
      (after1 (.sourcePermit 1 [1, 2]) s).ir.wm1.dump = some 3 := by decide +kernel

theorem witness_ShoreAndFlushTakeTheirDecision :
    ((inMode .run).ready ∧ (inMode .run).mode ≠ .harbour) ∧
    (let s := twoTanks .harbour;
      s.ready ∧ s.mode = .harbour ∧ s.ir.shore.state = .closed ∧ s.ir.shore.check = none ∧
        (s.valve .shore).state ≠ .fault ∧ s.ir.main.on .shore = false ∧ s.outcome .shore = (none, .off .noRule)) ∧
    (let s := withRule (twoTanks .harbour);
      s.ready ∧ s.mode = .harbour ∧ s.ir.shore.state = .closed ∧ s.ir.shore.check = none ∧
        (s.valve .shore).state ≠ .fault ∧ s.ir.main.on .shore = false ∧
        s.outcome .shore = (some 1, .main ⟨.potable, [0]⟩) ∧ s.ir.main.state = .unused ∧
        s.choose [0] .potable none = some 0) ∧
    (let s := after1 (.shoreOpen 1 []) (withRule (twoTanks .harbour));
      s.ready ∧ s.ir.shore.state ≠ .closed ∧ s.ir.main.sources.Nodup) := by decide +kernel

theorem witness_ShoreAndFlushTakeTheirDecision_refused :
    let h := twoTanks .harbour
    (let s := after1 (.shoreOpen 1 []) (withRule h); s.ready ∧ s.mode = .harbour ∧ s.ir.shore.state ≠ .closed) ∧
    (let s := h.updSource .shore fun r => { r with check := some 200 };
      s.ready ∧ s.mode = .harbour ∧ s.ir.shore.state = .closed ∧ s.ir.shore.check.isSome) ∧
    (let s := h.updValve .shore fun _ => valveIn .fault .mid;
      s.ready ∧ s.mode = .harbour ∧ s.ir.shore.state = .closed ∧ s.ir.shore.check = none ∧
        (s.valve .shore).state = .fault) ∧
    (let s := (withRule h).setMainRaw ⟨.delivering, some .wm1, [], some .potable, some 0, none, []⟩;
      s.ready ∧ s.ir.main.state ≠ .unused ∧ s.ir.main.on .shore = false ∧
        s.outcome .shore = (some 1, .main ⟨.potable, [0]⟩)) := by decide +kernel

theorem witness_ProbeChecksAndSamplesAreTaken :
    let s := maker .run fun r => { r with check := some 200, checkSample := some 1040 }
    let n := maker .run fun r => { r with check := some 200, checkSample := none }
    (s.ready ∧ s.power = .on ∧ (s.source .wm1).check.isSome ∧ (s.source .wm1).checkSample = some 1040) ∧
    (n.power = .on ∧ (n.source .wm1).check.isSome ∧ (n.source .wm1).checkSample = none) ∧
    ((inMode .run).ready ∧ ((inMode .run).source .wm1).check = none) := by decide +kernel

theorem witness_ProbeChecksAndSamplesAreTaken_second :
    let s := maker .run fun r => { r with grade := .fair, counter := 1, worst := some .good }
    let m := maker .run fun r => { r with grade := .fair, counter := 2, worst := some .good }
    let k := maker .run fun r => { r with check := some 200 }
    (k.power = .on ∧ k.mode ≠ .start ∧ (k.source .wm1).check.isSome) ∧
    (s.power = .on ∧ s.mode ≠ .start ∧ (s.source .wm1).check = none ∧ (s.source .wm1).grade = .fair ∧
      min 10000 9999 = 9999 ∧ ¬min 751 9999 ≤ (s.source .wm1).settings.fairLimit ∧
      Grade.worse .bad (s.source .wm1).grade = true ∧
      500 ≤ (s.source .wm1).settings.goodLimit ∧ (s.source .wm1).grade.worse .good = true ∧
      (s.source .wm1).counter + 1 < (s.source .wm1).settings.improvement) ∧
    (m.power = .on ∧ m.mode ≠ .start ∧ (m.source .wm1).check = none ∧ (m.source .wm1).grade.worse .good = true ∧
      (m.source .wm1).settings.improvement ≤ (m.source .wm1).counter + 1 ∧
      ((m.source .wm1).worst.elim Grade.good fun b => if b.worse .good then b else .good) ≠
        (m.source .wm1).grade) := by decide +kernel

theorem witness_RunSignalsAndPulsesAreTaken :
    ((inMode .run).power = .on ∧ (inMode .run).mode ≠ .start ∧ (inMode .run).pins.maker .wm1 ≠ true ∧
      ((inMode .run).source .wm1).state = .stopped) ∧
    (let s := maker .run fun r => { r with state := .flushing };
      s.pins.maker .wm1 ≠ true ∧ (s.source .wm1).state ≠ .stopped) ∧
    (let s := after1 (.runSignal .wm1 true) (inMode .run);
      s.power = .on ∧ s.mode ≠ .start ∧ s.pins.maker .wm1 ≠ false ∧
        (s.source .wm1).state ∈ [SourceState.flushing, .routing, .dumping]) ∧
    (let s := { inMode .run with pins := (inMode .run).pins.setMaker .wm1 true };
      s.power = .on ∧ s.mode ≠ .start ∧ s.pins.maker .wm1 ≠ false ∧
        (s.source .wm1).state ∉ [SourceState.flushing, .routing, .dumping]) := by decide +kernel

/-- R81: the rise takes WM1's grade from GOOD to BAD, and WM2, which had dumped for want of a tank, takes its decision. -/
theorem test_runSignal_rise_decides :
    let s := (withRule (maker .run fun r => { r with grade := .good })).updSource .wm2 fun r =>
      { r with state := .dumping, dumpReason := some .overflow }
    let u := after1 (.runSignal .wm1 true) s
    u.ir.wm2.state = .routing ∧ u.ir.main.holder = some .wm2 := by decide +kernel

/-- R161, R168, R92: as the plant leaves HARBOUR for RUN, the shore's end is reported before the permits. -/
theorem test_mode_change_ends_the_shore_first :
    let s := (inMode .run).updSource .shore fun r => { r with state := .filling }
    (s.take (.mode .ir .harbour .run)).lu.queue.map (fun r => (r.subject, r.code)) = [(3, 5), (1, 0x12), (2, 0x12)] := by
  decide +kernel

/-- WM1 at the end of its flush, with grade GOOD. -/
def flushed : State :=
  maker .run fun r => { r with state := .flushing, flush := some 1800, grade := .good, permit := .permitted }

theorem witness_ShoreAndFlushTakeTheirDecision_second :
    (flushed.power = .on ∧ (flushed.source .wm1).state = .flushing ∧ (flushed.source .wm1).flush.isSome ∧
      flushed.ir.main.on .wm1 = false ∧ flushed.outcome .wm1 = (none, .off .noRule)) ∧
    ((withRule flushed).power = .on ∧ ((withRule flushed).source .wm1).state = .flushing ∧
      ((withRule flushed).source .wm1).flush.isSome ∧ (withRule flushed).ir.main.on .wm1 = false ∧
      (withRule flushed).outcome .wm1 = (some 1, .main ⟨.potable, [0]⟩) ∧
      (withRule flushed).ir.main.state = .unused ∧ (withRule flushed).choose [0] .potable none = some 0) ∧
    ((inMode .run).power = .on ∧ ((inMode .run).source .wm1).flush = none) := by decide +kernel

/-- R80, R83: a flush that ends with a rule for its grade takes the main and opens T1-IN. -/
theorem test_flushEnd_routes :
    let u := after1 (.flushEnd .wm1) (withRule flushed)
    u.ir.wm1.state = .routing ∧ u.ir.main.state = .opening ∧ u.ir.main.next = some 0 ∧
      u.commandedOpen in1 = true ∧ (u.valve (.diverter .wm1)).state = .atA := by decide +kernel

/-- R83: a source that takes the main has its MAIN report before its own. -/
theorem test_main_report_first :
    (after1 (.flushEnd .wm1) (withRule flushed)).lu.queue.map (fun r => (r.kind, r.subject, r.code)) =
      [(.intake, 0, 0x13), (.intake, 1, 3)] := by decide +kernel

/-- WM1 holds the main, with a group of tanks. -/
def onMain (st : MainState) (current next : Option TankIx) (joined : List Source) : State :=
  ({ maker .run fun r => { r with state := .routing, route := some ⟨.potable, [0, 1]⟩ } with
    ir := { (maker .run fun r => { r with state := .routing, route := some ⟨.potable, [0, 1]⟩ }).ir with
      main := ⟨st, some .wm1, joined, some .potable, current, next, []⟩ } }).updSource .wm2 fun r =>
    { r with state := .routing, route := some ⟨.potable, [1]⟩ }

theorem witness_SourcesJoinAndLeaveTheMain :
    let s := onMain .delivering (some 0) none []
    let j := onMain .delivering (some 0) none [.wm2]
    let k := onMain .delivering (some 1) none [.wm2]
    (s.ir.main.state ≠ .unused ∧ s.ir.main.cls = some .potable ∧
      s.ir.main.heading.any (([0] : List TankIx).contains ·) = true ∧
      s.ir.main.heading.any (([1] : List TankIx).contains ·) = false ∧
      .wm1 ∉ s.ir.main.joined ∧ s.ir.main.holder = some .wm1 ∧ s.ir.main.joined = []) ∧
    ((inMode .run).ir.main.state = .unused ∧ (inMode .run).choose [0] .potable none = none) ∧
    (j.ir.main.joined.head? = some .wm2 ∧ (j.groupOf .wm2).contains 0 = false ∧ .wm2 ∈ j.ir.main.joined ∧
      ((k.groupOf .wm2).contains 1 && k.canAccept .potable 1) = true) ∧
    (1 ∈ j.groupOf .wm2 ∧ 0 ∉ j.groupOf .wm2) := by decide +kernel

theorem witness_DecisionsFollowTheirSteps :
    let d := onMain .delivering (some 0) none []
    let r := withRule d
    let paused := (withRule (twoTanks .harbour)).updSource .shore fun x => { x with state := .paused }
    (∃ fits : Rule → Prop, (∀ x, fits x ↔
        x.enabled = true ∧ x.sources.has .wm1 = true ∧ x.grades.has (r.source .wm1).grade = true) ∧
      fits r.ir.rules[(0 : Fin 8)] ∧ ∀ k : Fin 8, ¬fits d.ir.rules[k]) ∧
    (d.outcome .wm1 = (none, .off .noRule) ∧ d.ir.main.on .wm1 = true ∧ d.ir.main.sources.Nodup) ∧
    (r.outcome .wm1 = (some 1, .main ⟨.potable, [0]⟩) ∧ r.ir.main.on .wm1 = true ∧ r.ir.main.cls = some .potable) ∧
    (({ r with ir := { r.ir with main := { r.ir.main with cls := some .technical } } }).ir.main.cls ≠ some .potable) ∧
    (let m := maker .run fun x => { x with state := .dumping, dumpReason := some .noRule };
      m.outcome .wm1 = (none, .off .noRule) ∧ m.ir.main.on .wm1 = false ∧ (m.source .wm1).state = .dumping ∧
        (m.source .wm1).dumpReason = some .noRule ∧ (withRule m).outcome .wm1 = (some 1, .main ⟨.potable, [0]⟩)) ∧
    ((twoTanks .run).outcome .shore = (none, .off .mode) ∧ (twoTanks .run).ir.main.on .shore = false) ∧
    (paused.outcome .shore = (some 1, .main ⟨.potable, [0]⟩) ∧ paused.ir.shore.state = .paused ∧
      paused.ir.main.on .shore = false) ∧
    ((paused.updSource .shore fun x => { x with check := some 200 }).outcome .shore = (none, .off .probeCheck)) ∧
    ((paused.updValve .shore fun _ => valveIn .fault .mid).outcome .shore = (none, .valveFault)) :=
  ⟨⟨_, fun _ => Iff.rfl, by decide +kernel⟩, by decide +kernel⟩

theorem witness_TheMainChangesItsTanks :
    let d := (onMain .delivering (some 0) none []).setTold .ir 0 (some .failed)
    let c := onMain .changing (some 0) (some 1) []
    let o := (onMain .opening none (some 1) []).setTold .ir 1 (some .failed)
    (d.ir.main.cls = some .potable ∧ d.ir.main.holder = some .wm1 ∧ d.ir.main.current = some 0 ∧
      classAdmits (d.tank 0) .potable = true ∧ d.ir.main.next = none ∧ d.intakeReady 0 = false ∧
      d.canAccept .potable 1 = true) ∧
    (c.ir.main.next = some 1 ∧ c.ir.main.state = .changing ∧ c.ir.main.current = some 0 ∧ c.canAccept .potable 0 = true ∧
      (c.entryNotice 1 .intake .potable).1 = .kept) ∧
    (o.ir.main.next = some 1 ∧ o.ir.main.state ≠ .changing ∧ o.canAccept .potable 1 = false ∧
      o.ir.main.current ≠ some 1 ∧ o.ir.main.state = .opening) ∧
    (let x := d.updTank 0 fun r => { r with cls := .quarantine };
      classAdmits (x.tank 0) .potable = true ∧
        classAdmits ((x.updTank 0 fun r => { r with cls := .potable }).tank 0) .technical = false) ∧
    (((onMain .opening none (some 1) []).updTank 1 fun r => { r with cls := .potable }).entryNotice 1 .intake
      .technical).1 = .conflict ∧ d.ir.main.next ≠ some 0 ∧ c.ir.main.current ≠ some 1 ∧
    d.ir.main.current ≠ some 5 := by decide +kernel

/-- R86: T1's gauge fails while it is filled from the main, and T2's intake valve is opened beside its own. -/
theorem test_changeover :
    let s := withRule (onMain .delivering (some 0) none [])
    let s := { s with ir := { s.ir with rules := s.ir.rules.set 0 { ruleT1 with action := .route ⟨.potable, [0, 1]⟩ } } }
    let u := s.take (.gauge .ir 0 .failed)
    u.ir.main.state = .changing ∧ u.ir.main.next = some 1 ∧ u.commandedOpen (.tank 1 .intake) = true := by decide +kernel

theorem witness_RunSignalsAndPulsesAreTaken_second :
    (inMode .run).power = .on ∧ ((inMode .run).valve (Source.outlet .wm1)).state ≠ .atB ∧
      (inMode .run).ir.shore.state ≠ .filling ∧
      (((inMode .run).updValve (.diverter .wm1) fun _ => valveIn .atB .b).valve (Source.outlet .wm1)).state = .atB ∧
      ((inMode .harbour).updSource .shore fun r => { r with state := .filling }).ir.shore.state = .filling ∧
      (inMode .run).mode ≠ .start ∧ State.reset.power = .on ∧ State.reset.mode = .start := by decide +kernel

/-- Pulses counted one after another at a factor. -/
def counted (factor : Nat) (start : Nat × Nat) : Nat → Nat × Nat
  | 0 => start
  | n + 1 => countPulse factor (counted factor start n)

theorem witness_RunSignalsAndPulsesAreTaken_third :
    (39 < 40 ∧ 0 < 40 ∧ 4294967295 ≤ 4294967295) ∧ counted 40 (4294967295, 39) 0 = (4294967295, 39) ∧
      ∀ n, counted 40 (4294967295, 39) (n + 1) = countPulse 40 (counted 40 (4294967295, 39) n) :=
  ⟨by decide, rfl, fun _ => rfl⟩

/-- Both channels OUT and the sequence counter at its greatest value. -/
def channelsOut : State :=
  { twoTanks .run with te := { (twoTanks .run).te with
      sequence := 4294967295,
      tc1 := { ChannelRecord.start .stopped 0 with state := .out, outReason := some .host },
      tc2 := { ChannelRecord.start .stopped 0 with state := .out, outReason := some .host } } }

/-- Sixteen orders in the store. -/
def fullStore : State :=
  { twoTanks .run with te := { (twoTanks .run).te with orders := List.replicate 16 (orderOf .done none) } }

theorem witness_OrdersAreSubmitted :
    ((twoTanks .run).ready ∧ [legT1T2].length ≤ 8 ∧ (∀ l ∈ [legT1T2], l.submitted) ∧
      (twoTanks .run).mode.working = true ∧ (twoTanks .run).te.orders.length < 16 ∧
      (twoTanks .run).order 65535 = none ∧ (∀ t ∈ legT1T2.tanks, ((twoTanks .run).tank t).service ≠ .undefined) ∧
      (twoTanks .run).te.sequence < 4294967295) ∧
    ((twoTanks .configure).ready ∧ (twoTanks .configure).mode.working = false) ∧
    (fullStore.ready ∧ fullStore.mode.working = true ∧ 16 ≤ fullStore.te.orders.length) ∧
    ((withOrder .run (orderOf .held none)).ready ∧ ((withOrder .run (orderOf .held none)).order 310).isSome) ∧
    ((inMode .run).ready ∧ ∃ t ∈ legT1T2.tanks, ((inMode .run).tank t).service = .undefined) ∧
    (channelsOut.ready ∧ channelsOut.order 1 = none ∧ 4294967295 ≤ channelsOut.te.sequence ∧
      channelsOut.te.tc1.state ≠ .idle ∧ channelsOut.te.tc2.state ≠ .idle) := by
  refine ⟨?_, ?_, ?_, ?_, ?_, ?_⟩ <;> decide +kernel

/-- The check of R102's sixth group: one payload for each value that it refuses. -/
theorem witness_OrdersAreSubmitted_second :
    let s := twoTanks .run
    let leg (x y z v : Nat) : List Byte := u16 1 ++ [1, 1, 1] ++ u8 x ++ u8 y ++ u8 z ++ u32 v
    (s.ready ∧ s.mode.working = true ∧ s.te.orders.length < 16 ∧ s.order 1 = none ∧ payloadSizeOk 0x40 [] = false) ∧
    (∀ p ∈ [u16 1 ++ [4, 1, 1] ++ (leg 1 2 1 1).drop 5, u16 1 ++ [1, 3, 1] ++ (leg 1 2 1 1).drop 5, leg 0 2 1 1, leg 13 2 1 1,
        leg 1 0 1 1, leg 1 13 1 1, leg 1 1 1 1, leg 1 2 0 1, leg 1 2 4 1, leg 1 2 1 0, leg 1 2 1 100000, leg 1 255 2 1],
      payloadSizeOk 0x40 p = true ∧ u16At p 0 = 1 ∧ byteAt p 4 = 1 ∧
        (3 < byteAt p 2 ∨ byteAt p 3 ∉ [Policy.abandon.code, Policy.skip.code] ∨
          ((byteAt p 5 = 0 ∨ 12 < byteAt p 5) ∨ ((byteAt p 6 = 0 ∨ 12 < byteAt p 6) ∧ byteAt p 6 ≠ 255) ∨
            byteAt p 5 = byteAt p 6 ∨ (byteAt p 7 = 0 ∨ 3 < byteAt p 7) ∨
            (u32At p 8 = 0 ∨ 99999 < u32At p 8) ∨ (byteAt p 7 = EndCondition.fill.code ∧ byteAt p 6 = 255)))) := by
  decide +kernel

/-- A store with room and both channels free, on tanks that are defined. -/
theorem witness_OrdersAreSubmitted_free :
    let s := twoTanks .run
    s.ready ∧ s.mode.working = true ∧ s.te.orders.length < 16 ∧ s.order 1 = none ∧ s.te.tc1.state = .idle ∧
      s.te.tc2.state = .idle ∧ s.te.sequence < 4294967295 ∧ legT1T2.submitted ∧
      ∀ t ∈ legT1T2.tanks, (s.tank t).service ≠ .undefined := by decide +kernel

/-- R103, R119: with a free channel the new order is ACTIVE in the same step. -/
theorem test_orderSubmit_runs_the_arbiter :
    let u := after1 (.orderSubmit 1 (submitPayload 1 1 .abandon [legT1T2])) (twoTanks .run)
    u.te.orders.map (·.state) = [.active] ∧ u.te.tc1.order = some (1, 1) ∧ lastReply u = some (.ok, [0, 1, 1]) := by
  decide +kernel

/-- R102, check 6: a FILL leg to OVERBOARD is refused. -/
theorem test_orderSubmit_fill_overboard :
    lastReply (after1 (.orderSubmit 1 (u16 1 ++ [1, 1, 1] ++ u8 1 ++ u8 255 ++ u8 2 ++ u32 1)) (twoTanks .run)) =
      some (.badValue, []) := by decide +kernel

/-- TC1 at a phase of its run of the leg, with the last answers of its lined valves and what it knows of its pump. -/
def runAt (p : Phase) (a b : LinedAnswer) (told : PumpState) : State :=
  (pumpingState.updChan .tc1 fun r => { r with
    phase := some p, lined := some ⟨.tank 0 .suctionA, a, .tank 1 .fillA, b⟩, pumpTold := told, entryMade := false,
    noFlow := none, stop := if p = .stopping then some (.back .channelOut) else none }).setPump .tc1
    ⟨decide (p = .starting), false, if p = .stopping then .stopping else if p = .starting then .starting else .stopped,
      none, none⟩

/-- Two orders wait; TC2 claims a tank of the one of higher priority. -/
def waitingOrders : State :=
  { withOrder .run (orderOf .pending none) with te := { (withOrder .run (orderOf .pending none)).te with
      orders := [orderOf .pending none, { orderOf .pending none with
        id := 311, priority := 3, legs := [⟨2, .tank 3, .volume, 1, 0, 0, none, none⟩] }],
      tc2 := { ChannelRecord.start .stopped 0 with state := .busy, claims := [2] } } }

theorem witness_TheArbiterGivesTheFirstEligibleOrder :
    let s := withOrder .run (orderOf .pending none)
    let o := orderOf .pending none
    (s.storeLaw ∧ (∀ o ∈ s.te.orders, o.priority ≤ 3) ∧ (s.chan .tc1).state = .idle ∧ o ∈ s.te.orders ∧
      o.state = .pending ∧ s.eligibleLeg .tc1 o = true ∧ (∀ x ∈ s.te.orders, s.weighedBefore o x → s.eligibleLeg .tc1 x = false) ∧
      o.leg = some legT1T2 ∧ s.startCheck .tc1 legT1T2 = none ∧ s.mode.working = true ∧ s.te.guardPassed = false ∧
      ∀ z ∈ s.te.orders, z.state = .pending → z.id = o.id) ∧
    (waitingOrders.storeLaw ∧ (waitingOrders.chan .tc1).state = .idle ∧ (∀ o ∈ waitingOrders.te.orders, o.priority ≤ 3) ∧
      waitingOrders.eligibleLeg .tc1 o = true ∧
      (∀ x ∈ waitingOrders.te.orders, waitingOrders.weighedBefore o x → waitingOrders.eligibleLeg .tc1 x = false) ∧
      (∃ x ∈ waitingOrders.te.orders, waitingOrders.weighedBefore o x) ∧
      (waitingOrders.chan (Channel.other .tc1)).state ≠ .idle) ∧
    (let u := s.setTold .te 1 (some .suspect);
      u.storeLaw ∧ u.eligibleLeg .tc1 o = true ∧ u.startCheck .tc1 legT1T2 = some .gaugeNotValid) ∧
    ((inMode .run).storeLaw ∧ ((inMode .run).chan .tc2).state = .idle ∧
      ∀ o ∈ (inMode .run).te.orders, o.state = .pending → (inMode .run).eligibleLeg .tc2 o = false) := by decide +kernel

theorem witness_TheArbiterGivesTheFirstEligibleOrder_passes :
    (inMode .configure).mode ∉ [Mode.run, .harbour, .commission] ∧ (twoTanks .run).mode ∈ [Mode.run, .harbour, .commission] ∧
      ((twoTanks .run).tryGive .tc1).2 = false ∧ ((withOrder .run (orderOf .pending none)).tryGive .tc1).2 = true := by
  decide +kernel

theorem witness_RunsAreLinedUpAndStarted :
    let s := runAt .liningUp .none .opened .stopped
    let z := runAt .liningUp .none .closed .stopped
    let g := runAt .starting .opened .opened .starting
    (s.runOver .tc2 = none ∧ s.runLeg .tc1 = some legT1T2 ∧ (s.chan .tc1).phase = some .liningUp ∧
      (s.chan .tc1).lined = some ⟨.tank 0 .suctionA, .none, .tank 1 .fillA, .opened⟩ ∧
      Valve.owner (.tank 0 .suctionA) = Channel.owner .tc1 ∧ Valve.owner (.tank 1 .fillA) = Channel.owner .tc1 ∧
      (s.pump .tc1).state = .stopped ∧ (s.pump .tc1).feedback = false) ∧
    (z.runOver .tc2 = none ∧ (z.chan .tc1).lined = some ⟨.tank 0 .suctionA, .none, .tank 1 .fillA, .closed⟩) ∧
    (g.runOver .tc2 = none ∧ g.runLeg .tc1 = some legT1T2 ∧ (g.chan .tc1).phase = some .starting ∧
      (g.chan .tc1).runNoFlow = some 15 ∧ legT1T2.destTank = some 1 ∧
      (g.entryNotice 1 .tc1 (g.tank 0).cls).1 = .kept) ∧
    (let c := g.updTank 0 fun r => { r with cls := .technical };
      (c.entryNotice 1 .tc1 (c.tank 0).cls).1 = .conflict ∧ c.unavailable 0 (·.transferFrom) = false ∧
        c.unavailable 1 (·.transferTo) = false ∧ c.gaugeLost .te 0 = false ∧ c.gaugeLost .te 1 = false) ∧
    (let e := g.updTank 1 fun r => { r with empty := true };
      (e.tank 1).service ≠ .undefined ∧ (e.tank 1).empty = true ∧ (e.tank 1).entries = []) := by decide +kernel

theorem witness_RunsStopForTheFirstCause :
    let o := orderOf .active (some .tc1)
    pumpingState.runLeg .tc1 = some legT1T2 ∧ (pumpingState.chan .tc1).running = true ∧
      (pumpingState.chan .tc1).pumpTold = .running ∧
      ((runAt .liningUp .none .opened .stopped).chan .tc1).pumpTold = .stopped ∧
      ((runAt .liningUp .none .opened .stopped).chan .tc1).running = true ∧
      (pumpingState.chan .tc1).lined = some ⟨.tank 0 .suctionA, .opened, .tank 1 .fillA, .opened⟩ ∧
      o ∈ pumpingState.te.orders ∧ (pumpingState.chan .tc1).order = some (o.id, o.current) ∧ pumpingState.storeLaw ∧
      pumpingState.runOver .tc2 = none ∧ Valve.owner (.tank 0 .suctionA) = Channel.owner .tc1 ∧
      Valve.owner (.tank 1 .fillA) = Channel.owner .tc1 ∧ (pumpingState.chan .tc1).state = .busy := by decide +kernel

theorem witness_StoppedRunsAreHandedOn :
    let s := runAt .stopping .opened .fault .stopping
    let z := runAt .stopping .opened .closed .stopped
    let o := orderOf .active (some .tc1)
    ((s.chan .tc1).phase = some .stopping ∧ s.runOver .tc2 = none ∧ s.storeLaw ∧
      (s.chan .tc1).lined = some ⟨.tank 0 .suctionA, .opened, .tank 1 .fillA, .fault⟩ ∧
      (s.chan .tc1).stop = some (.back .channelOut) ∧ o ∈ s.te.orders ∧ (s.chan .tc1).order = some (o.id, o.current) ∧
      (s.chan .tc1).pumpTold ≠ .stopped ∧ (s.chan .tc1).pumpTold ≠ .fault ∧ (s.chan .tc1).state ≠ .idle) ∧
    ((z.chan .tc1).pumpTold = .stopped ∧ (z.chan .tc1).phase = some .stopping) ∧
    (((inMode .run).chan .tc1).state = .idle ∧ ((inMode .run).chan .tc1).phase = none ∧ (inMode .run).settled) := by
  decide +kernel

theorem witness_StoppedRunsAreHandedOn_none :
    pumpingState.runOver .tc1 = none ∧ pumpingState.runOver .tc2 = none := by decide +kernel

/-- R134, R136: with the pump stopped and the delivery valve closed, the suction valve's answer ends the run, and the order waits
again after CHANNEL_OUT. -/
theorem test_run_handed_back :
    let u := (runAt .stopping .opened .closed .stopped).take (.valve (.tank 0 .suctionA) .atA)
    (u.chan .tc1).state = .busy ∧ (u.tank 0).claim = some .tc1 ∧
      (u.runLeg .tc1).map (·.runs) = some 1 ∧ lastReport u = some (.channel, 1, 2, 310) := by decide +kernel

theorem witness_WaitingOrdersFollowTheirRequests :
    ((twoTanks .run).ready ∧ (twoTanks .run).order 65535 = none ∧ (twoTanks .run).mode.working = true) ∧
    ((twoTanks .configure).ready ∧ (twoTanks .configure).mode.working = false) ∧
    (let s := withOrder .run (orderOf .done none);
      s.ready ∧ s.order 310 = some (orderOf .done none) ∧ (orderOf .done none).state.live = false) ∧
    (let s := withOrder .run (orderOf .held none);
      s.ready ∧ s.order 310 = some (orderOf .held none) ∧ (orderOf .held none).state.live = true ∧
        s.mode.working = true ∧ s.settled) ∧
    (let s := withOrder .configure (orderOf .pending none);
      s.ready ∧ s.order 310 = some (orderOf .pending none) ∧ (orderOf .pending none).state ≠ .held ∧ s.settled) := by
  decide +kernel

theorem witness_StopAllCancelsEveryOrder :
    pumpingState.ready ∧ pumpingState.storeLaw ∧ pumpingState.runLaw := by
  refine ⟨by decide +kernel, ⟨by decide +kernel, by decide +kernel⟩, ?_, ?_, ?_⟩
  · intro c id k h
    cases c
    · cases h
      exact ⟨orderOf .active (some .tc1), by decide +kernel, rfl, rfl, rfl⟩
    · cases h
  · intro o h _
    cases List.mem_singleton.1 h
    exact ⟨.tc1, rfl, rfl⟩
  · intro c h
    cases c
    · rcases h with h | h <;> cases h
    · rfl

theorem witness_ChannelsGoOutAndComeBack :
    let stopping := { pumpingState with te := { pumpingState.te with
      tc1 := { pumpingState.te.tc1 with phase := some .stopping, stop := some (.result .cancelled) } } }
    let out := { inMode .run with te := { (inMode .run).te with
      tc1 := { ChannelRecord.start .stopped 0 with state := .out, outReason := some .host } } }
    let goingOut := stopping.updChan .tc1 fun r => { r with state := .stoppingForOut, outReason := some .host }
    ((inMode .run).ready ∧ ((inMode .run).chan .tc1).state = .idle ∧ ((inMode .run).pump .tc1).state ≠ .fault) ∧
    (stopping.ready ∧ (stopping.chan .tc1).state = .busy ∧ (stopping.chan .tc1).running = false) ∧
    (goingOut.ready ∧ (goingOut.chan .tc1).state = .stoppingForOut) ∧
    (out.ready ∧ (out.chan .tc1).state = .out ∧ (out.pump .tc1).state ≠ .fault) ∧
    (((inMode .run).setPump .tc1 ⟨false, false, .fault, none, some .tripped⟩).pump .tc1).state = .fault := by
  decide +kernel

theorem witness_ChannelPulsesAndStopsAreTaken :
    ((inMode .run).power = .on ∧ ((inMode .run).chan .tc1).phase = none) ∧
    (pumpingState.power = .on ∧ (pumpingState.chan .tc1).phase.isSome ∧
      (pumpingState.chan .tc1).order = some (310, 1) ∧ pumpingState.runLeg .tc1 = some legT1T2 ∧
      (pumpingState.chan .tc1).runFactor = some 100 ∧ (pumpingState.chan .tc1).runPulses < 4294967295 ∧
      (pumpingState.chan .tc1).movedAtStart + ((pumpingState.chan .tc1).runPulses + 1) * 100 / 100 ≤ 4294967295 ∧
      pumpingState.pumping .tc1 legT1T2 ∧ legT1T2.condition = .volume ∧
      (pumpingState.chan .tc1).runNoFlow = some 15) ∧
    (let s := pumpingState.updChan .tc1 fun r => { r with runPulses := 999 };
      s.pumping .tc1 legT1T2 ∧
        legT1T2.volume ≤ (s.chan .tc1).movedAtStart + ((s.chan .tc1).runPulses + 1) * 100 / 100) := by decide +kernel

theorem witness_ChannelPulsesAndStopsAreTaken_second :
    pumpingState.pumping .tc1 legT1T2 ∧ pumpingState.power = .on ∧ pumpingState.ready ∧
      (pumpingState.chan .tc1).state = .busy ∧ (pumpingState.chan .tc1).order = some (310, 1) ∧
      pumpingState.order 310 = some (orderOf .active (some .tc1)) := by decide +kernel

/-- TC1 lines up with its pump told STOPPED; it starts with its pump STARTING; it lines up with both valves at CLOSED, where a
stop is over at once. -/
theorem witness_ChannelPulsesAndStopsAreTaken_phases :
    let o := orderOf .active (some .tc1)
    (∀ s ∈ [runAt .liningUp .none .opened .stopped, runAt .starting .opened .opened .starting,
        runAt .liningUp .closed .closed .stopped], s.ready ∧ (s.chan .tc1).running = true ∧
      s.runOver (Channel.other .tc1) = none ∧ s.storeLaw ∧ o ∈ s.te.orders ∧
      (s.chan .tc1).order = some (o.id, o.current) ∧ (s.chan .tc1).state = .busy ∧ (s.chan .tc1).entryMade = false) ∧
    (o.id < 65536 ∧ o.state = .active ∧ o.channel = some .tc1 ∧ o.cancelRequested = false) ∧
    (let s := runAt .liningUp .none .opened .stopped;
      (s.chan .tc1).phase = some .liningUp ∧ (s.chan .tc1).pumpTold = .stopped ∧
        (s.chan .tc1).lined = some ⟨.tank 0 .suctionA, .none, .tank 1 .fillA, .opened⟩) ∧
    (let s := runAt .starting .opened .opened .starting;
      (s.chan .tc1).phase = some .starting ∧ (s.chan .tc1).pumpTold = .starting ∧ (s.pump .tc1).state = .starting ∧
        (s.pump .tc1).feedback = false) := by decide +kernel

/-- R108, R134, R138: a run in LINING_UP is stopped with no command to its pump, and its delivery valve, which is at OPEN, is on
its way to CLOSED. -/
theorem test_stop_in_liningUp :
    let s := (runAt .liningUp .none .opened .stopped).updValve (.tank 1 .fillA) fun _ => valveIn .atB .b
    ∀ u ∈ [after1 (.channelOut 1 [1]) s, after1 (.orderCancel 1 (u16 310)) s],
      (u.chan .tc1).phase = some .stopping ∧ (u.pump .tc1).state = .stopped ∧
        (u.valve (.tank 1 .fillA)).state = .movingToA := by decide +kernel

/-- The supply in a state, on tanks that are eligible. -/
def supplyIn (x : SupplyState) (current next : Option TankIx) : State :=
  { twoTanks .run with ss := ⟨[0, 1], x, current, next, none, none, current.isSome⟩ }

theorem witness_SupplyRequestsMoveTheSupply :
    (let s := supplyIn .supplying (some 0) none;
      s.ready ∧ s.saving = false ∧ ([0, 1] : List TankIx).Nodup ∧ s.ss.state = .supplying ∧ s.ss.current = some 0 ∧
        s.eligible 0 = true ∧ s.nextEligible 0 [] = some 1) ∧
    (let s := { supplyIn .lastReserve (some 0) none with ss := ⟨[0], .lastReserve, some 0, none, none, none, true⟩ };
      s.ready ∧ s.ss.state = .lastReserve ∧ s.nextEligible 0 [] = none) ∧
    (let s := supplyIn .searching none none;
      s.ready ∧ s.ss.state = .searching ∧ ([5] : List TankIx).find? s.eligible = none ∧ s.ss.current = none ∧
        ([5, 1] : List TankIx).find? s.eligible = some 1) ∧
    ((supplyIn .changeover (some 0) (some 1)).ready ∧ (supplyIn .changeover (some 0) (some 1)).ss.state = .changeover) := by
  decide +kernel

theorem witness_SupplyRequestsMoveTheSupply_second :
    (let s := supplyIn .supplying (some 0) none;
      s.ready ∧ s.saving = false ∧ s.ss.state = .supplying ∧ s.ss.current = some 0 ∧
        ([1] : List TankIx).find? (fun u => s.eligible u && decide (u ≠ 0)) = some 1 ∧
        ([5] : List TankIx).find? (fun u => s.eligible u && decide (u ≠ 0)) = none) ∧
    (let s := supplyIn .changeover (some 0) (some 1);
      s.ready ∧ s.ss.state = .changeover ∧ s.ss.current = some 0 ∧ s.ss.next = some 1) ∧
    (let s := supplyIn .switching none (some 0);
      s.ready ∧ s.ss.state = .switching ∧ s.ss.next = some 0) ∧
    (∀ s : State, ∃ done : State → Prop, ∀ z, done z ↔
      exec (.dutySet 1 [1, 1]) s = .next (z.answered 0x50 1 [1, 1] .ok (u8 z.ss.state.code)).deliver) :=
  ⟨by decide +kernel, by decide +kernel, by decide +kernel, fun _ => ⟨_, fun _ => Iff.rfl⟩⟩

/-- R155: a list without the current tank brings a changeover with cause DUTY to T2. -/
theorem test_dutySet_changes_over :
    let u := after1 (.dutySet 1 [1, 2]) (supplyIn .supplying (some 0) none)
    u.ss.state = .changeover ∧ u.ss.next = some 1 ∧ u.ss.cause = some .duty ∧ u.ss.last = some .duty := by decide +kernel

theorem witness_TheSupplyIsExamined :
    ((supplyIn .searching none none).ss.lawful ∧ (supplyIn .searching none none).mode ≠ .start ∧ State.reset.mode = .start ∧
      State.reset.ss.lawful) ∧
    ((supplyIn .switching none (some 0)).ss.lawful ∧ (supplyIn .switching none (some 0)).eligible 0 = true ∧
      (supplyIn .switching none (some 5)).eligible 5 = false) ∧
    ((supplyIn .supplying (some 0) none).ss.lawful ∧ (supplyIn .supplying (some 0) none).hardReason 0 = none ∧
      (supplyIn .supplying (some 5) none).hardReason 5 = some .cls) ∧
    ((supplyIn .lastReserve (some 0) none).ss.lawful ∧ (supplyIn .lastReserve (some 0) none).eligible 0 = true) ∧
    ((supplyIn .changeover (some 0) (some 1)).ss.lawful ∧ (supplyIn .changeover (some 0) (some 1)).eligible 1 = true ∧
      (supplyIn .changeover (some 0) (some 5)).eligible 5 = false) := by
  refine ⟨⟨⟨rfl, rfl, rfl⟩, by decide, by decide, ⟨rfl, rfl, rfl⟩⟩, ⟨⟨rfl, rfl⟩, ?_, ?_⟩, ⟨⟨rfl, rfl, rfl⟩, ?_, ?_⟩,
    ⟨⟨rfl, rfl, rfl⟩, ?_⟩, ⟨⟨rfl, rfl, rfl⟩, ?_, ?_⟩⟩ <;> decide +kernel

theorem witness_TheSupplyIsExamined_second :
    let s := supplyIn .supplying (some 0) none
    (∃ fit : TankIx → Bool, ∀ u, fit u = true ↔ s.eligible u = true ∧ u ≠ 0 ∧ u ∉ ([] : List TankIx)) ∧
      s.ss.duty = [] ++ 0 :: s.ss.duty.tail ∧ 11 ∉ s.ss.duty :=
  ⟨⟨fun u => decide (_ ∧ _), fun _ => decide_eq_true_iff⟩, by decide +kernel, by decide +kernel⟩

/-- R150: the current tank is below its L threshold, and the next tank of the list is opened beside it. -/
theorem test_examine_low :
    let s := (supplyIn .supplying (some 0) none).updTank 0 fun r => { r with states := { r.states with l := .below } }
    let u := s.examine none
    u.ss.state = .changeover ∧ u.ss.next = some 1 ∧ lastReport u = some (.supply, 1, 3, 1) := by decide +kernel

theorem witness_ModesAreSet :
    ((inMode .commission).ready ∧ (inMode .commission).mode = .commission) ∧
    ((inMode .run).ready ∧ (inMode .run).mode ≠ .commission ∧ targetAt [1] 0 = none ∧ targetAt [7] 0 = none) ∧
    ((inMode .fallback).ready ∧ (inMode .fallback).mode = .fallback ∧ targetAt [6] 0 = some .layup ∧
      targetAt [4] 0 = some .run) ∧
    (pumpingState.ready ∧ pumpingState.anyActive = true ∧ targetAt [3] 0 = some .configure) ∧
    ((withOrder .run (orderOf .held none)).ready ∧ (withOrder .run (orderOf .held none)).layupBlocked = true) ∧
    ((inMode .run).mode = .run ∧ (inMode .run).layupBlocked = false ∧ (inMode .run).anyActive = false ∧
      ∀ x ∈ (inMode .run).msgs, x.wakes = false) := by decide +kernel

/-- The plant waking. -/
def wakingState (w : WakeRecord) (m : State) : State := { m with pmc := { m.pmc with mode := .waking, wake := some w } }

theorem witness_WakesBeginAndEnd :
    let warming : WakeRecord := ⟨.crossing 0 .l .falling, none, .warming, some 600, none⟩
    let confirming : WakeRecord := ⟨.crossing 0 .l .falling, none, .confirming, none, some 3000⟩
    let host : WakeRecord := ⟨.host, some .run, .warming, some 600, none⟩
    let unsettled := gaugeState .layup (gaugeIn .settling)
    (unsettled.ready ∧ targetAt [4] 0 = some .run ∧ unsettled.mode = .layup ∧ unsettled.gaugesSettled = false ∧
      ∀ x ∈ unsettled.msgs, x.wakes = false) ∧
    ((twoTanks .layup).ready ∧ (twoTanks .layup).mode = .layup ∧ (twoTanks .layup).gaugesSettled = true) ∧
    ((wakingState warming unsettled).ready ∧ (wakingState warming unsettled).mode = .waking ∧
      (wakingState warming unsettled).power = .on ∧ warming.limit.isSome ∧ warming.target = none) ∧
    ((wakingState confirming unsettled).ready ∧ (wakingState confirming unsettled).mode = .waking ∧
      confirming.confirm.isSome) ∧
    ((wakingState host unsettled).mode = .waking ∧ host.limit.isSome ∧ Mode.wakeTarget .run = true) ∧
    ((wakingState host (twoTanks .layup)).gaugesSettled = true ∧ (inMode .run).mode ≠ .layup) := by decide +kernel

/-- R165: a wake cause taken in LAYUP enters WAKING with the crossing and no target; with every gauge settled WARMING ends at
once. -/
theorem test_local_wake :
    (((gaugeState .layup (gaugeIn .settling)).take (.wake 0 .l .falling)).pmc.wake =
      some ⟨.crossing 0 .l .falling, none, .warming, some 600, none⟩) ∧
    lastReport ((twoTanks .layup).take (.wake 0 .l .falling)) = some (.plant, 1, 5, 2 * 65536 + 2 * 256 + 1) := by
  decide +kernel

theorem witness_SupervisionIsKeptByHeartbeats :
    let window (n : Nat) (x : Supervision) : State :=
      { inMode .run with clock := BitVec.ofNat 32 n, pmc := { (inMode .run).pmc with kind := .window, sup := x } }
    ((inMode .layup).ready ∧ (inMode .layup).pmc.sup = .off) ∧
    ((inMode .run).ready ∧ (inMode .run).pmc.sup = .watching ∧ (inMode .run).pmc.kind = .timeout ∧
      (inMode .run).power = .on ∧ (inMode .run).pmc.timer.isSome) ∧
    ((window 50 .warning).ready ∧ (window 50 .warning).pmc.timer = some ⟨0, 10, 100⟩ ∧
      10 * 5 ≤ elapsed (window 50 .warning).clock 0) ∧
    ((window 49 .watching).pmc.kind = .window ∧ elapsed (window 49 .watching).clock 0 < 10 * 5 ∧
      (window 49 .watching).pmc.sup = .watching) ∧
    ((window 49 .warning).ready ∧ (window 49 .warning).pmc.sup = .warning ∧ (window 49 .warning).power = .on ∧
      (∀ x ∈ (window 49 .warning).msgs, x.wakes = false)) := by decide +kernel

theorem witness_StepsKeepTheTankLaws :
    (twoTanks .run).momentLaw ∧ (twoTanks .run).entryLaw ∧ (twoTanks .run).scoreLaw ∧
      (twoTanks .run).msgs = [] ∧ (twoTanks .run).told.moment = (twoTanks .run).tt.moment ∧
      ∃ u, step { twoTanks .run with pending := [.sampleRequest 0] } = .next u ∧ u.msgs = [] := by
  refine ⟨by unfold State.momentLaw; decide +kernel, ?_, ?_, rfl, by decide +kernel, _, rfl, by decide +kernel⟩
  · unfold State.entryLaw; decide +kernel
  · intro t c h
    have hs : ∀ t : TankIx, (((twoTanks .run).gauge t).all fun c => decide (c.score ≤ 255)) = true := by decide +kernel
    have := hs t
    rw [h] at this
    exact of_decide_eq_true this

theorem witness_TankChangesAreTold :
    let r := (twoTanks .run).tank 0
    (r.service ≠ .isolated ∧ r.cls ≠ .technical ∧ r.states ≠ ThStates.unknown ∧ r.empty ≠ true) ∧
    (∃ n, r.notices = some n ∧ (twoTanks .run).mode ≠ .layup ∧ (n.get .hh).rising = true) ∧
    ((twoTanks .layup).mode = .layup ∧ ((twoTanks .run).tank 5).notices = none) ∧
    (twoTanks .run).momentLaw ∧
    (let s := (twoTanks .run).updTank 0 fun r => { r with volume := some 1 }; s.tt.moment ≠ momentOf s.tt.tanks) ∧
    (ThStates.get ⟨.above, .below, .below, .below⟩ .ll = .above) := by
  refine ⟨by decide +kernel, ⟨_, rfl, by decide, by decide +kernel⟩, by decide +kernel, witness_StepsKeepTheTankLaws.1,
    by decide +kernel, rfl⟩

theorem witness_TankChangesAreTold_second :
    let m : Limits := ⟨600, 2000, 7500, 9000, 150⟩
    let new := evalStates m 7350 ⟨.above, .below, .above, .unknown⟩
    (m.h, ThState.above, new.h) ∈ [(m.ll, ThState.above, new.ll), (m.l, .below, new.l), (m.h, .above, new.h),
      (m.hh, .unknown, new.hh)] ∧ ¬7350 + m.hysteresis < m.h ∧ 7349 + m.hysteresis < m.h ∧
    (tankOf .potable 5000).limits = some m ∧ (tankOf .potable 5000).volume ≠ none ∧
    { tankOf .potable 5000 with volume := none }.volume = none ∧ TankRecord.limits (TankRecord.blank .quarantine) = none := by
  decide +kernel

theorem witness_NoticesReachTheBlocks :
    (∀ one : Source → State → State,
      (∀ x y, (y.source x).state ∈ [.routing, .dumping, .opening, .filling, .paused] → one x y = y.decideFor x) →
      (∀ x y, (y.source x).state ∉ [.routing, .dumping, .opening, .filling, .paused] → one x y = y) →
      ∀ y, State.decideAll y = one .shore (one .wm2 (one .wm1 y))) ∧
    (∃ arbitrateIf : Prop → State → State,
      (∀ p y, p → arbitrateIf p y = y.arbitrate) ∧ (∀ p y, ¬p → arbitrateIf p y = y)) ∧
    (((twoTanks .run).tank 0).service ≠ .undefined ∧ ((twoTanks .run).tank 5).service = .undefined) ∧
    (∃ l, pumpingState.runLeg .tc1 = some l ∧ 0 ∈ l.tanks ∧ 1 ∈ l.tanks ∧ 5 ∉ l.tanks) ∧
    (pumpingState.runLeg .tc2 = none ∧ pumpingState.told.moment = -3150000) ∧
    (let s := ({ onMain .delivering (some 0) none [.shore] with pmc := (inMode .harbour).pmc }).updSource .shore fun r =>
        { r with state := .opening };
      s.ir.shore.state = .opening ∧ s.ir.main.state = .delivering) := by
  refine ⟨fun one h1 h2 y => ?_, ?_, by decide +kernel, ⟨legT1T2, by decide +kernel⟩, by decide +kernel, by decide +kernel⟩
  · have h : ∀ x y, one x y = y.decideIf x := by
      intro x y
      unfold State.decideIf
      cases hs : (y.source x).state <;> simp [h1, h2, hs, SourceState.decides]
    simp [State.decideAll, h]
  · classical
    exact ⟨fun p y => if p then y.arbitrate else y, fun p y h => if_pos h, fun p y h => if_neg h⟩

theorem witness_NoticesReachTheBlocks_modes :
    ((pumpingState.chan .tc1).running = true ∧ (pumpingState.chan .tc2).running = false ∧
      (∃ l, pumpingState.runLeg .tc1 = some l ∧ l.dest ≠ .overboard) ∧
      (pumpingState.updLeg 310 1 fun l => { l with dest := .overboard }).runLeg .tc1 =
        some { legT1T2 with dest := .overboard }) ∧
    ∀ new : Mode, ∃ stop : Channel → State → State,
      (∀ c y, (y.chan c).running = true → new = .fallback → stop c y = y.stopRun c (.back .fallback)) ∧
      (∀ c y, (y.chan c).running = true → new = .harbour → ∀ l, y.runLeg c = some l →
        (l.dest = .overboard → stop c y = y.stopRun c (.result .modeForbids)) ∧ (l.dest ≠ .overboard → stop c y = y)) ∧
      (∀ c y, new = .harbour → y.runLeg c = none → stop c y = y) ∧
      (∀ c y, (y.chan c).running = false → new = .fallback → stop c y = y.updChan c fun r =>
        { r with stop := r.stop.map fun k => match k with
          | .result x => .result x
          | .back _ => .back .fallback }) ∧
      (∀ c y, (y.chan c).running = false → new ≠ .fallback → stop c y = y) ∧
      (∀ c y, new ≠ .fallback → new ≠ .harbour → stop c y = y) := by
  refine ⟨⟨by decide +kernel, by decide +kernel, ⟨legT1T2, by decide +kernel⟩, by decide +kernel⟩, fun new =>
    ⟨fun c y => y.channelMode new c, ?_⟩⟩
  refine ⟨?_, ?_, ?_, fun c y hr hf => ?_, ?_, ?_⟩
  case refine_4 =>
    subst hf
    show (if (y.chan c).running = true then _ else _) = _
    refine (if_neg (by rw [hr]; decide)).trans ?_
    exact congrArg (fun f => y.updChan c fun r => { r with stop := r.stop.map f }) (funext fun k => by cases k <;> rfl)
  all_goals intro c y; cases new <;> simp +contextual [State.channelMode]

theorem witness_StepsKeepTheOrderLaws :
    pumpingState.storeLaw ∧ pumpingState.runLaw ∧ pumpingState.claimLaw ∧
      ∃ u, step { pumpingState with pending := [.channelPulse .tc1] } = .next u := by
  refine ⟨witness_StopAllCancelsEveryOrder.2.1, witness_StopAllCancelsEveryOrder.2.2, ⟨?_, by decide +kernel⟩, _, rfl⟩
  intro c h
  cases c
  · rcases h with h | h <;> cases h
  · rfl

theorem witness_StepsKeepTheUnitLaws :
    State.reset.actuatorLaw ∧ State.reset.ss.lawful ∧ State.reset.modeLaw ∧ State.reset.dumpTimerLaw ∧
      State.reset.queueLaw ∧ ∃ u, step { State.reset with pending := [.loadEnd] } = .next u := by
  refine ⟨⟨fun v => ?_, ?_, ?_⟩, ?_, ?_, ?_, ?_, _, rfl⟩
  · have h : ∀ i : Fin 77, State.reset.au.valves[i] = ValveRecord.start ⟨true, false⟩ := by decide +kernel
    exact (congrArg ValveRecord.lawful (h v.ix)).mpr ⟨by decide, by decide⟩
  · exact ⟨by decide, by decide, by decide⟩
  · exact ⟨by decide, by decide, by decide⟩
  · exact ⟨rfl, rfl, rfl⟩
  · exact ⟨by decide, (fun _ _ h => nomatch h), by decide, (by decide), (by decide +kernel), fun _ h => nomatch h⟩
  · intro w; cases w <;> decide +kernel
  · unfold State.queueLaw; decide

/-- TC1 pumps with its lined valves at OPEN. -/
def linedState : State :=
  (pumpingState.updValve (.tank 0 .suctionA) fun _ => { valveIn .atB .b with demand := .b }).updValve (.tank 1 .fillA)
    fun _ => { valveIn .atB .b with demand := .b }

theorem witness_StepsKeepTheIntakeValveLaw :
    (let s := valveState .run .movingToB .mid; { s with ir := { s.ir with
      main := ⟨.opening, some .wm1, [], some .potable, none, some 0, []⟩ } }).intakeValveLaw ∧
      ∃ u, step { valveState .run .movingToB .mid with pending := [.valveFeedback in1 false true] } = .next u :=
  ⟨by unfold State.intakeValveLaw ValveRecord.obedient; decide +kernel, _, rfl⟩

theorem witness_StepsKeepTheSupplyValveLaw :
    (supplyIn .supplying (some 0) none).supplyValveLaw ∧
      ∃ u, step { supplyIn .supplying (some 0) none with pending := [.sampleRequest 0] } = .next u := by
  refine ⟨⟨⟨rfl, rfl, rfl⟩, ?_⟩, _, rfl⟩
  unfold ValveRecord.obedient
  decide +kernel

theorem witness_StepsKeepThePumpLaw :
    linedState.msgs = [] ∧ linedState.pumpLaw ∧ linedState.pumpRun .tc1 = true ∧
      ∃ u, step { linedState with pending := [.channelPulse .tc1] } = .next u ∧ u.msgs = [] := by
  refine ⟨rfl, fun c => ?_, by decide +kernel, _, rfl, by decide +kernel⟩
  cases c <;> decide +kernel

/-- Both watermakers are permitted. -/
def permittedState : State :=
  (maker .run fun r => { r with permit := .permitted }).updSource .wm2 fun r => { r with permit := .permitted }

theorem witness_StepsKeepThePermitLaw :
    permittedState.msgs = [] ∧ permittedState.permitLaw ∧ permittedState.wmRun .wm1 = true ∧
      ∃ u, step { permittedState with pending := [.sourcePulse .wm1] } = .next u ∧ u.msgs = [] := by
  refine ⟨rfl, fun w => ?_, by decide +kernel, _, rfl, by decide +kernel⟩
  cases w <;> decide +kernel

theorem witness_StepsKeepThePublishedRanges :
    (twoTanks .run).publishedLaw ∧ ∃ u, step { twoTanks .run with pending := [.sampleRequest 0] } = .next u := by
  refine ⟨?_, _, rfl⟩
  unfold State.publishedLaw ImageTank.lawful GaugeChannel.inRange
  decide +kernel

end Sys2Proof.Tests
end

section
/-!
PROOF. What every operation of a block adds to the notices, the reports and the entries, as one relation between the state
before and the state after. Beside it stand the frames of Laws/ (`State.beyondActuators` and the others), which say what an
operation cannot touch; this relation says of what it can touch how it may change: notices and reports are only added,
no added notice carries M or can wake the plant, M and the sum behind it stay, and the laws of entries and scores are kept.
-/
namespace Sys2Proof.Machine

/-- A notice that neither carries M (R22) nor can wake the plant (R17). -/
def Msg.plain : Msg → Bool
  | .moment _ => false
  | .wake _ _ _ => false
  | _ => true

/-- What a state has grown into by operations of the blocks. -/
structure State.Grows (b s : State) : Prop where
  msgs : ∃ l, s.msgs = b.msgs ++ l ∧ ∀ m ∈ l, m.plain = true
  queue : b.lu.queue <+: s.lu.queue
  told : s.told.moment = b.told.moment
  moment : s.tt.moment = b.tt.moment
  sum : momentOf s.tt.tanks = momentOf b.tt.tanks
  entry : b.entryLaw → s.entryLaw
  score : b.scoreLaw → s.scoreLaw

namespace State.Grows

variable {b s u : State}

/-! ### How the relation is built up -/

theorem refl (s : State) : s.Grows s :=
  ⟨⟨[], by simp, by simp⟩, List.prefix_refl _, rfl, rfl, rfl, id, id⟩

theorem trans (h : b.Grows s) (k : s.Grows u) : b.Grows u := by
  obtain ⟨l, hl, hp⟩ := h.msgs
  obtain ⟨l', hl', hp'⟩ := k.msgs
  refine ⟨⟨l ++ l', by simp [hl, hl'], fun m hm => ?_⟩, h.queue.trans k.queue, k.told.trans h.told,
    k.moment.trans h.moment, k.sum.trans h.sum, k.entry ∘ h.entry, k.score ∘ h.score⟩
  exact (List.mem_append.mp hm).elim (hp m) (hp' m)

/-- A change beyond notices, reports, tanks, gauges and the M that is told. -/
theorem of_same (h : b.Grows s) (hm : u.msgs = s.msgs) (hq : u.lu.queue = s.lu.queue) (ht : u.told.moment = s.told.moment)
    (htt : u.tt = s.tt) (hg : u.gu = s.gu) : b.Grows u :=
  h.trans ⟨⟨[], by simp [hm], by simp⟩, by rw [hq], ht, by rw [htt], by rw [htt],
    by simp only [State.entryLaw, State.tank, htt]; exact id, by simp only [State.scoreLaw, State.gauge, hg]; exact id⟩

/-- Operations one after another, each of which grows the state. -/
theorem foldl {α : Type} {f : State → α → State} (hf : ∀ x a, b.Grows x → b.Grows (f x a)) (l : List α) (h : b.Grows s) :
    b.Grows (l.foldl f s) := by
  induction l generalizing s with
  | nil => exact h
  | cons a l ih => exact ih (hf _ _ h)

/-! ### The updates of the records -/

theorem emit (h : b.Grows s) (m : Msg) (hm : m.plain = true := by rfl) : b.Grows (s.emit m) :=
  h.trans ⟨⟨[m], rfl, by simpa using hm⟩, List.prefix_refl _, rfl, rfl, rfl, id, id⟩

theorem tell (h : b.Grows s) (ms : List Msg) (hm : ∀ m ∈ ms, m.plain = true) : b.Grows (s.tell ms) :=
  h.trans ⟨⟨_, rfl, fun m k => hm m ((permute_perm _ ms).mem_iff.mp k)⟩, List.prefix_refl _, rfl, rfl, rfl, id, id⟩

theorem append (h : b.Grows s) (r : Report) : b.Grows (s.append r) :=
  h.trans ⟨⟨[], by simp [State.append], by simp⟩, s.lu.append_prefix r, rfl, rfl, rfl, id, id⟩

theorem report (h : b.Grows s) (k : ReportKind) (x y z : Nat) : b.Grows (s.report k x y z) := h.append _

theorem updValve (h : b.Grows s) (v : Valve) (f : ValveRecord → ValveRecord) : b.Grows (s.updValve v f) :=
  h.of_same rfl rfl rfl rfl rfl

theorem setPump (h : b.Grows s) (c : Channel) (p : PumpRecord) : b.Grows (s.setPump c p) := by
  cases c <;> exact h.of_same rfl rfl rfl rfl rfl

theorem updSource (h : b.Grows s) (x : Source) (f : SourceRecord → SourceRecord) : b.Grows (s.updSource x f) := by
  cases x <;> exact h.of_same rfl rfl rfl rfl rfl

theorem setMainRaw (h : b.Grows s) (m : ProductMain) : b.Grows (s.setMainRaw m) := h.of_same rfl rfl rfl rfl rfl

theorem updChan (h : b.Grows s) (c : Channel) (f : ChannelRecord → ChannelRecord) : b.Grows (s.updChan c f) := by
  cases c <;> exact h.of_same rfl rfl rfl rfl rfl

theorem setTransfer (h : b.Grows s) (e : TransferEngine) : b.Grows { s with te := e } := h.of_same rfl rfl rfl rfl rfl

theorem updOrder (h : b.Grows s) (id : Nat) (f : Order → Order) : b.Grows (s.updOrder id f) := h.setTransfer _

theorem updLeg (h : b.Grows s) (id k : Nat) (f : Leg → Leg) : b.Grows (s.updLeg id k f) := h.updOrder _ _

theorem updSupply (h : b.Grows s) (f : SupplySelector → SupplySelector) : b.Grows (s.updSupply f) :=
  h.of_same rfl rfl rfl rfl rfl

theorem updMode (h : b.Grows s) (f : ModeController → ModeController) : b.Grows (s.updMode f) :=
  h.of_same rfl rfl rfl rfl rfl

theorem setTold (h : b.Grows s) (k : Block) (t : TankIx) (g : Option GaugeState) : b.Grows (s.setTold k t g) := by
  cases k <;> exact h.of_same rfl rfl rfl rfl rfl

end State.Grows
end Sys2Proof.Machine
end

section
/-!
PROOF. Which operations of the Tank Table and of the Actuator Unit grow the state (`State.Grows`), one lemma per operation.
-/
namespace Sys2Proof.Machine

/-- The law of the entries of one tank (R20). -/
def TankRecord.entryLaw (r : TankRecord) : Prop := ∀ e ∈ r.entries, e.ending = false → e.waterClass.worse r.cls = false

/-- A tank without entries meets their law. -/
theorem TankRecord.entryLaw_of_empty {r : TankRecord} (h : r.entries = []) : r.entryLaw := by
  simp [TankRecord.entryLaw, h]

@[simp] theorem QClass.worse_self (c : QClass) : c.worse c = false := by cases c <;> rfl

/-- A property of every tank's record survives the change of one record that keeps it. -/
theorem State.updTank_forall {P : TankRecord → Prop} {s : State} {t : TankIx} {f : TankRecord → TankRecord}
    (hf : P (f (s.tank t))) (h : ∀ u, P (s.tank u)) (u : TankIx) : P ((s.updTank t f).tank u) := by
  by_cases k : u = t
  · subst k
    simpa using hf
  · rw [State.updTank_tank_ne s f k]
    exact h u

/-- The sum of R22 is that of the moments, one by one. -/
theorem momentOf_updTank (s : State) (t : TankIx) (f : TankRecord → TankRecord)
    (h : (f (s.tank t)).moment = (s.tank t).moment) : momentOf (s.updTank t f).tt.tanks = momentOf s.tt.tanks := by
  have k := congrArg Vector.toList (map_set_same TankRecord.moment s.tt.tanks t.val t.isLt _ h)
  simp only [Vector.toList_map] at k
  exact congrArg List.sum k

namespace State.Grows

variable {b s : State}

/-! ### The Tank Table -/

/-- A change of a tank's record that leaves its part of M, and the law of its entries. -/
theorem updTank (h : b.Grows s) (t : TankIx) (f : TankRecord → TankRecord)
    (hm : (f (s.tank t)).moment = (s.tank t).moment)
    (he : (s.tank t).entryLaw → (f (s.tank t)).entryLaw) : b.Grows (s.updTank t f) :=
  h.trans ⟨⟨[], by simp, by simp⟩, List.prefix_refl _, rfl, rfl, momentOf_updTank s t f hm,
    fun k => State.updTank_forall (P := TankRecord.entryLaw) (he (k t)) k, id⟩

theorem tellTank (h : b.Grows s) (t : TankIx) (d : Bool) (c : ClassCause) (r : TankRecord) :
    b.Grows (s.tellTank t d c r) := by
  simp only [State.tellTank]
  split
  · refine h.tell _ fun m hm => ?_
    split at hm <;>
      simp only [List.append_nil, List.cons_append, List.nil_append, List.mem_cons, List.not_mem_nil, or_false] at hm
    · rcases hm with rfl | rfl | rfl | rfl <;> rfl
    · rcases hm with rfl | rfl | rfl <;> rfl
  · exact h

/-- An entry ends: what is left of a lawful list is lawful. -/
theorem entryEnd (h : b.Grows s) (t : TankIx) (e : Entrant) : b.Grows (s.entryEnd t e) :=
  h.updTank t _ rfl fun k x hx => k x (List.mem_filter.mp hx).1

/-- An entry is made where it is no worse than the tank, or where it gives an empty tank without entries its class (R20). -/
theorem entryNotice (h : b.Grows s) (t : TankIx) (e : Entrant) (c : QClass) : b.Grows (s.entryNotice t e c).2 := by
  simp only [State.entryNotice]
  split
  · exact h
  · split
    · rename_i hempty
      have hnil : (s.tank t).entries = [] := by simp_all
      have k : b.Grows (s.updTank t fun r => { r with cls := c, entries := r.entries ++ [⟨e, c, false⟩] }) :=
        h.updTank t _ rfl fun _ => by simp [TankRecord.entryLaw, hnil]
      split
      · exact k.tellTank _ _ _ _
      · exact (k.report _ _ _ _).tellTank _ _ _ _
    · split
      · rename_i hworse
        refine h.updTank t (fun r => { r with entries := r.entries ++ [⟨e, c, false⟩] }) rfl fun k x hx hend => ?_
        rcases List.mem_append.mp hx with hx | hx
        · exact k x hx hend
        · obtain rfl := List.mem_singleton.mp hx
          simpa using hworse
      · exact h

/-! ### Valves -/

theorem arrive (h : b.Grows s) (v : Valve) (e : ValveEnd) : b.Grows (s.arrive v e) := by
  simp only [State.arrive]
  split
  · exact (h.updValve _ _).emit _
  · exact (h.updValve _ _).tell _ (by simp [Msg.plain])
  · exact h.updValve _ _

theorem startMove (h : b.Grows s) (v : Valve) (e : ValveEnd) : b.Grows (s.startMove v e) := by
  simp only [State.startMove]
  split
  · exact (h.updValve _ _).arrive _ _
  · exact h.updValve _ _

theorem valveFault (h : b.Grows s) (v : Valve) (f : ValveFault) : b.Grows (s.valveFault v f) :=
  (h.updValve _ _).tell _ (by simp [Msg.plain])

theorem drive (h : b.Grows s) (v : Valve) (e : ValveEnd) : b.Grows (s.drive v e) := by
  simp only [State.drive]
  split
  · exact h
  · exact h.startMove _ _

theorem returnValve (h : b.Grows s) (v : Valve) : b.Grows (s.returnValve v) := by
  simp only [State.returnValve]
  split
  · split
    · exact h.updValve _ _
    · exact (h.updValve _ _).drive _ _
  · exact h

theorem returnAll (h : b.Grows s) : b.Grows s.returnAll := foldl (fun _ v k => k.returnValve v) _ h

theorem command (h : b.Grows s) (v : Valve) (e : ValveEnd) : b.Grows (s.command v e) := by
  have k : b.Grows (((v.owner.valves.filter (· ≠ v)).foldl State.returnValve s).updValve v
      fun r => { r with hostMark := false, demand := e }) :=
    (foldl (fun _ v k => k.returnValve v) _ h).updValve _ _
  simp only [State.command]
  split
  · exact k.emit _
  · split
    · exact (k.updValve _ _).emit _
    · exact (k.updValve _ _).drive _ _

theorem hostCommand (h : b.Grows s) (v : Valve) (e : ValveEnd) : b.Grows (s.hostCommand v e) :=
  (h.updValve _ _).drive _ _

theorem resetValve (h : b.Grows s) (v : Valve) : b.Grows (s.resetValve v) := (h.updValve _ _).startMove _ _

theorem feedback (h : b.Grows s) (v : Valve) (p : Position) : b.Grows (s.feedback v p) := by
  have k := h.updValve v fun r => { r with reported := p }
  simp only [State.feedback]
  split
  · split
    · exact k.arrive _ _
    · exact k
  · split
    · exact k.arrive _ _
    · exact k
  · split
    · exact k
    · exact k.valveFault _ _
  · split
    · exact k
    · exact k.valveFault _ _
  · exact k

/-! ### Pumps -/

theorem pumpFault (h : b.Grows s) (c : Channel) (f : PumpFault) : b.Grows (s.pumpFault c f) :=
  (h.setPump _ _).tell _ (by simp [Msg.plain])

theorem pumpRunning (h : b.Grows s) (c : Channel) : b.Grows (s.pumpRunning c) := (h.setPump _ _).emit _

theorem pumpStopped (h : b.Grows s) (c : Channel) : b.Grows (s.pumpStopped c) := (h.setPump _ _).emit _

theorem resetPump (h : b.Grows s) (c : Channel) : b.Grows (s.resetPump c) := (h.setPump _ _).emit _

theorem pumpStart (h : b.Grows s) (c : Channel) : b.Grows (s.pumpStart c) := by
  have k (p : PumpRecord) (x : Bool) : b.Grows (if x = true then (s.setPump c p).pumpRunning c else s.setPump c p) := by
    split
    · exact (h.setPump _ _).pumpRunning _
    · exact h.setPump _ _
  simp only [State.pumpStart]
  split
  · exact k _ _
  · exact k _ _
  · exact h
  · exact h.emit _
  · exact h.emit _

theorem pumpStop (h : b.Grows s) (c : Channel) : b.Grows (s.pumpStop c) := by
  have k (p : PumpRecord) (x : Bool) : b.Grows (if x = true then s.setPump c p else (s.setPump c p).pumpStopped c) := by
    split
    · exact h.setPump _ _
    · exact (h.setPump _ _).pumpStopped _
  simp only [State.pumpStop]
  split
  · exact k _ _
  · exact k _ _
  · exact h
  · exact h.emit _
  · exact h.emit _

theorem pumpFeedback (h : b.Grows s) (c : Channel) (on : Bool) : b.Grows (s.pumpFeedback c on) := by
  have k := h.setPump c { s.pump c with feedback := on }
  simp only [State.pumpFeedback]
  split
  · split
    · exact k.pumpRunning _
    · exact k
  · split
    · exact k
    · exact k.pumpFault _ _
  · split
    · exact k
    · exact k.pumpStopped _
  · exact k

end State.Grows
end Sys2Proof.Machine
end

section
/-!
PROOF. Every operation of the Intake Router grows the state (`State.Grows`), one lemma per operation, in the order of
Machine/Intake.lean. No operation of the router touches the Plant Mode Controller.
-/
namespace Sys2Proof.Machine

/-! ### The parts of two long operations -/

/-- The next tank's intake valve is commanded CLOSED where it is not in FAULT (R87). -/
def State.closeNext (s : State) : State :=
  match s.ir.main.next with
  | some t => if (s.valve (.tank t .intake)).state = .fault then s else s.command (.tank t .intake) .a
  | none => s

/-- The choice that follows the loss of the next tank (R87). -/
def State.chooseAgain (s : State) : State × Bool :=
  match s.ir.main.cls with
  | none => (s.setMainRaw { s.ir.main with next := none }, false)
  | some c =>
    if s.ir.main.state = .changing ∧ s.ir.main.current.any (s.canAccept c) = true then
      ((s.setMain { s.ir.main with state := .delivering, next := none }).shedJoined, true)
    else
      match s.choose s.holderGroup c s.ir.main.current with
      | some t => (s.headFor t s.ir.main.state, true)
      | none => (s.setMainRaw { s.ir.main with next := none }, false)

theorem State.loseNext_eq (s : State) : s.loseNext = s.closeNext.chooseAgain := rfl

/-- What an interruption does to one source on the main (R88). -/
def State.interruptSource (s : State) (x : Source) : State :=
  match x with
  | .shore => if s.ir.shore.state = .filling then (s.command .shore .a).setShore .opening none else s
  | _ => s.closeOutlet x

/-- What an interruption does to the current tank (R88). -/
def State.interruptTank (s : State) (t : TankIx) : State :=
  (if (s.valve (.tank t .intake)).state = .fault then s else s.command (.tank t .intake) .a).entryEnd t .intake

/-- How the main of a water class goes on after an interruption: towards its next tank, or towards another one (R88). -/
def State.headAnew (next : Option TankIx) (cls : Option QClass) (s : State) : State :=
  match next with
  | some _ => s.setMain { s.ir.main with state := .opening, current := none }
  | none =>
    let s := s.setMainRaw { s.ir.main with state := .opening, current := none }
    match cls.bind fun c => s.choose s.holderGroup c none with
    | some t => s.headFor t .opening
    | none => s.holderOverflow

theorem State.interrupt_eq (s : State) :
    s.interrupt = State.headAnew s.ir.main.next s.ir.main.cls
      (s.ir.main.current.toList.foldl State.interruptTank (s.ir.main.sources.foldl State.interruptSource s)) := rfl

namespace State.Grows

variable {b s : State}

/-! ### State changes with their reports -/

theorem setMaker (h : b.Grows s) (w : Watermaker) (st : SourceState) (d : Option DumpReason) :
    b.Grows (s.setMaker w st d) := by
  simp only [State.setMaker]
  split
  · exact h
  · exact (h.updSource _ _).report _ _ _ _

theorem setShore (h : b.Grows s) (st : SourceState) (e : Option EndReason) : b.Grows (s.setShore st e) := by
  simp only [State.setShore]
  split
  · exact (h.updSource _ _).report _ _ _ _
  · exact h.updSource _ _

theorem setMain (h : b.Grows s) (m : ProductMain) : b.Grows (s.setMain m) := by
  simp only [State.setMain]
  split
  · exact h.setMainRaw _
  · exact (h.setMainRaw _).report _ _ _ _

theorem updatePermit (h : b.Grows s) (w : Watermaker) : b.Grows (s.updatePermit w) := by
  simp only [State.updatePermit]
  split
  · exact h
  · split
    · exact h.updSource _ _
    · exact (h.updSource _ _).report _ _ _ _

theorem inhibit (h : b.Grows s) (w : Watermaker) (c : InhibitCause) : b.Grows (s.inhibit w c) := by
  simp only [State.inhibit]
  split
  · exact h
  · exact ((h.updSource _ _).report _ _ _ _).updatePermit _

theorem keepDumpTimer (h : b.Grows s) (w : Watermaker) : b.Grows (s.keepDumpTimer w) := by
  simp only [State.keepDumpTimer]
  split
  · exact h.updSource _ _
  · exact h.updSource _ _
  · exact h

theorem keepDumpTimers (h : b.Grows s) : b.Grows s.keepDumpTimers := (h.keepDumpTimer _).keepDumpTimer _

/-! ### The product main -/

theorem closeOutlet (h : b.Grows s) (x : Source) : b.Grows (s.closeOutlet x) := by
  simp only [State.closeOutlet]
  split
  · exact h.command _ _
  · split
    · exact h
    · exact h.command _ _

theorem openOutlet (h : b.Grows s) (x : Source) : b.Grows (s.openOutlet x) := h.command _ _

theorem turnAway (h : b.Grows s) (x : Source) (d : DumpReason) : b.Grows (s.turnAway x d) := by
  simp only [State.turnAway]
  split
  · exact h.setMaker _ _ _
  · exact h.setMaker _ _ _
  · split <;> exact h.setShore _ _

theorem shedOne (h : b.Grows s) (x : Source) : b.Grows (s.shedOne x) := by
  simp only [State.shedOne]
  split
  · split
    · exact h
    · exact (((h.closeOutlet _).updSource _ _).setMainRaw _).turnAway _ _
  · exact h

theorem shedJoined (h : b.Grows s) : b.Grows s.shedJoined := foldl (fun _ x k => k.shedOne x) _ h

theorem headFor (h : b.Grows s) (t : TankIx) (st : MainState) : b.Grows (s.headFor t st) :=
  ((h.setMain _).command _ _).shedJoined

theorem changeover (h : b.Grows s) : b.Grows s.changeover.1 := by
  simp only [State.changeover]
  split
  · exact h.headFor _ _
  · exact h

theorem loseNext (h : b.Grows s) : b.Grows s.loseNext.1 := by
  have k : b.Grows s.closeNext := by
    unfold State.closeNext
    split
    · split
      · exact h
      · exact h.command _ _
    · exact h
  rw [State.loseNext_eq]
  generalize s.closeNext = x at k
  simp only [State.chooseAgain]
  split
  · exact k.setMainRaw _
  · split
    · exact (k.setMain _).shedJoined
    · split
      · exact k.headFor _ _
      · exact k.setMainRaw _

/-- Tanks whose intake valves are commanded CLOSED, one after another. -/
theorem closeIntakes (h : b.Grows s) (ts : List TankIx) :
    b.Grows (ts.foldl (fun (s : State) t => s.command (.tank t .intake) .a) s) := foldl (fun _ _ k => k.command _ _) _ h

/-- Tanks into which an entrant's entries end, one after another. -/
theorem endEntries (h : b.Grows s) (ts : List TankIx) (e : Entrant) :
    b.Grows (ts.foldl (fun (s : State) t => s.entryEnd t e) s) := foldl (fun _ _ k => k.entryEnd _ _) _ h

theorem release (h : b.Grows s) : b.Grows s.release :=
  ((((h.closeIntakes _).closeIntakes _).endEntries _ _).setMain _).emit _

theorem tankForHolder (h : b.Grows s) : b.Grows s.tankForHolder.1 := by
  have branches (keeps : Bool) :
      b.Grows (if keeps then (s, true) else if s.ir.main.state = .delivering then s.changeover else s.loseNext).1 := by
    split
    · exact h
    · split
      · exact h.changeover
      · exact h.loseNext
  exact branches _

theorem leaveMain (h : b.Grows s) (n : Nat) (x : Source) : b.Grows (s.leaveMain n x) := by
  induction n generalizing s x with
  | zero => exact h
  | succ n ih =>
    have k : b.Grows ((s.closeOutlet x).updSource x fun r => { r with route := none }) := (h.closeOutlet _).updSource _ _
    simp only [State.leaveMain]
    split
    · exact k.setMainRaw _
    · split
      · split
        · exact k.release
        · split
          · exact (k.setMainRaw _).tankForHolder
          · exact (ih (k.setMainRaw _).tankForHolder _).turnAway _ _
      · exact k

theorem holderOverflow (h : b.Grows s) : b.Grows s.holderOverflow := by
  simp only [State.holderOverflow]
  split
  · exact (h.leaveMain _ _).turnAway _ _
  · exact h

theorem orOverflow {r : State × Bool} (h : b.Grows r.1) : b.Grows (State.orOverflow r) := by
  simp only [State.orOverflow]
  split
  · exact h
  · exact h.holderOverflow

theorem interrupt (h : b.Grows s) : b.Grows s.interrupt := by
  have closed {y : State} (x : Source) (k : b.Grows y) : b.Grows (y.interruptSource x) := by
    unfold State.interruptSource
    split
    · split
      · exact (k.command _ _).setShore _ _
      · exact k
    · exact k.closeOutlet _
  have ended {y : State} (t : TankIx) (k : b.Grows y) : b.Grows (y.interruptTank t) := by
    unfold State.interruptTank
    split
    · exact k.entryEnd _ _
    · exact (k.command _ _).entryEnd _ _
  have k : b.Grows (s.ir.main.current.toList.foldl State.interruptTank (s.ir.main.sources.foldl State.interruptSource s)) :=
    foldl (fun _ => ended) _ (foldl (fun _ => closed) _ h)
  rw [State.interrupt_eq]
  generalize s.ir.main.current.toList.foldl State.interruptTank (s.ir.main.sources.foldl State.interruptSource s) = x at k
  simp only [State.headAnew]
  split
  · exact k.setMain _
  · split
    · exact (k.setMainRaw _).headFor _ _
    · exact (k.setMainRaw _).holderOverflow

theorem nextOpened (h : b.Grows s) (t : TankIx) : b.Grows (s.nextOpened t) := by
  have left (ts : List TankIx) {y : State} (hy : b.Grows y) :
      b.Grows (ts.foldl (fun (s : State) u => (s.command (.tank u .intake) .a).entryEnd u .intake) y) :=
    foldl (fun _ _ k => (k.command _ _).entryEnd _ _) _ hy
  simp only [State.nextOpened]
  split
  · exact h
  · have k := h.entryNotice t .intake
    split
    · exact orOverflow ((k _).setMainRaw _).loseNext
    · split
      · exact (left _ (k _)).setMain _
      · exact foldl (fun _ x k => k.openOutlet x) _ ((k _).setMain _)

/-! ### Decisions -/

theorem keepOff (h : b.Grows s) (x : Source) (d : DumpReason) : b.Grows (s.keepOff x d) := by
  simp only [State.keepOff]
  split
  · split
    · exact h.turnAway _ _
    · exact (h.command _ _).turnAway _ _
  · split
    · exact h
    · exact (h.turnAway _ _).command _ _

theorem setOnMain (h : b.Grows s) (x : Source) : b.Grows (s.setOnMain x) := by
  cases x
  · exact h.setMaker _ _ _
  · exact h.setMaker _ _ _
  · exact h.setShore _ _

theorem ask (h : b.Grows s) (x : Source) (rt : Route) : b.Grows (s.ask x rt) := by
  have k := h.updSource x fun r => { r with route := some rt }
  simp only [State.ask]
  split
  · split
    · exact ((k.setMainRaw _).headFor _ _).setOnMain _
    · exact h.keepOff _ _
  · split
    · have k' := (k.setOnMain x).setMainRaw
        { s.ir.main with joined := s.ir.main.joined ++ [x] }
      split
      · exact k'.openOutlet _
      · exact k'
    · exact h.keepOff _ _

theorem endShore (h : b.Grows s) (e : EndReason) : b.Grows (s.endShore e) := by
  simp only [State.endShore]
  split
  · exact h
  · refine (updSource ?_ _ _).setShore _ _
    split
    · exact h.leaveMain _ _
    · exact h.command _ _

theorem decideFor (h : b.Grows s) (x : Source) : b.Grows (s.decideFor x) := by
  have k := h.updSource x fun r => { r with rule := (s.outcome x).1 }
  simp only [State.decideFor]
  split
  · split
    · exact (k.leaveMain _ _).turnAway _ _
    · exact k.keepOff _ _
  · exact k.endShore _
  · split
    · split
      · exact k.updSource _ _
      · exact (k.leaveMain _ _).ask _ _
    · split
      · exact (k.setShore _ _).ask _ _
      · exact k.ask _ _

theorem decideIf (h : b.Grows s) (x : Source) : b.Grows (s.decideIf x) := by
  simp only [State.decideIf]
  split
  · exact h.decideFor _
  · exact h

theorem decideAll (h : b.Grows s) : b.Grows s.decideAll := foldl (fun _ x k => k.decideIf x) _ h

/-! ### Notices and answers -/

theorem mainOnTank (h : b.Grows s) (t : TankIx) : b.Grows (s.mainOnTank t) := by
  simp only [State.mainOnTank]
  split
  · exact h
  · split
    · exact h.interrupt
    · split
      · exact orOverflow h.loseNext
      · split
        · exact orOverflow h.changeover
        · exact h

theorem intakeTank (h : b.Grows s) (t : TankIx) : b.Grows (s.intakeTank t) :=
  ((h.setMainRaw _).mainOnTank _).decideAll

theorem intakeConflict (h : b.Grows s) (t : TankIx) : b.Grows (s.intakeConflict t) := by
  refine decideAll ?_
  split
  · exact h.interrupt
  · exact h

theorem intakeValve (h : b.Grows s) (v : Valve) (a : ValveAnswer) : b.Grows (s.intakeValve v a) := by
  refine decideAll ?_
  split
  · split
    · exact h.nextOpened _
    · exact h
  · split
    · exact orOverflow h.loseNext
    · split
      · exact h.interrupt
      · exact h
  · exact h.inhibit _ _
  · split
    · exact h.setShore _ _
    · exact h
  · exact h.endShore _
  · exact h

/-! ### Run signals, grading, checks, pulses -/

theorem setGrade (h : b.Grows s) (x : Source) (g : Grade) : b.Grows (s.setGrade x g) := by
  simp only [State.setGrade]
  split
  · exact h.updSource _ _
  · exact (h.updSource _ _).report _ _ _ _

theorem makerRise (h : b.Grows s) (w : Watermaker) : b.Grows (s.makerRise w) := by
  have k := (((h.setMaker w .flushing none).setGrade w.source .bad).command (.diverter w) .a).updSource w.source
  simp only [State.makerRise]
  split
  · split
    · exact k _
    · exact (k _).decideAll
  · exact h

theorem makerFall (h : b.Grows s) (w : Watermaker) : b.Grows (s.makerFall w) := by
  have k := (h.setMaker w .stopped none).updSource w.source fun r => { r with flush := none, dump := none, rule := none }
  simp only [State.makerFall]
  split
  · split
    · exact k.leaveMain _ _
    · exact k.command _ _
  · exact h

theorem conductivity (h : b.Grows s) (x : Source) (v : Nat) : b.Grows (s.conductivity x v) := by
  simp only [State.conductivity]
  split
  · exact h.updSource _ _
  · split
    · exact h.updSource _ _
    · exact ((h.updSource _ _).report _ _ _ _).decideAll

theorem endCheck (h : b.Grows s) (x : Source) : b.Grows (s.endCheck x) :=
  ((h.updSource _ _).report _ _ _ _).decideAll

theorem sourcePulse (h : b.Grows s) (x : Source) : b.Grows (s.sourcePulse x) := by
  simp only [State.sourcePulse]
  split
  · exact h
  · exact h.updSource _ _

theorem dumpExpired (h : b.Grows s) (w : Watermaker) : b.Grows (s.dumpExpired w) := by
  simp only [State.dumpExpired]
  split
  · exact h.inhibit _ _
  · exact h

theorem intakeMode (h : b.Grows s) (old new : Mode) : b.Grows (s.intakeMode old new) := by
  have ended : b.Grows (if old = .harbour then s.endShore (if new = .fallback then .fallback else .mode) else s) := by
    split
    · exact h.endShore _
    · exact h
  have rise {y : State} (hy : b.Grows y) (w : Watermaker) (c : Bool) : b.Grows (if c = true then y.makerRise w else y) := by
    split
    · exact hy.makerRise _
    · exact hy
  refine decideAll ?_
  split
  · exact rise (rise ((ended.updatePermit _).updatePermit _) _ _) _ _
  · exact (ended.updatePermit _).updatePermit _

theorem setSource (h : b.Grows s) (x : Source) (v : SourceSettings) : b.Grows (s.setSource x v) := by
  have k := h.updSource x fun r => { r with settings := v, counter := 0, worst := none }
  have overrun {y : State} (hy : b.Grows y) (w : Watermaker) : b.Grows (match (y.source w.source).dump with
      | some t => if v.dumpLimit * 10 ≤ elapsed y.clock t then y.dumpExpired w else y
      | none => y) := by
    split
    · split
      · exact hy.dumpExpired _
      · exact hy
    · exact hy
  refine decideAll ?_
  cases x
  · exact overrun k .wm1
  · exact overrun k .wm2
  · exact k

theorem endFlush (h : b.Grows s) (w : Watermaker) : b.Grows (s.endFlush w) := by
  simp only [State.endFlush]
  split
  · exact (h.updSource _ _).decideFor _
  · exact h

theorem permitSwitch (h : b.Grows s) (w : Watermaker) (give : Bool) : b.Grows (s.permitSwitch w give) :=
  (h.updSource _ _).updatePermit _

theorem openShore (h : b.Grows s) : b.Grows s.openShore := (h.setShore _ _).decideFor _

theorem beginCheck (h : b.Grows s) (x : Source) : b.Grows (s.beginCheck x) := (h.updSource _ _).decideAll

end State.Grows
end Sys2Proof.Machine
end

section
/-!
PROOF. Every operation of the Supply Selector and of the Plant Mode Controller, and the Gauging Unit's change of schedule,
grows the state (`State.Grows`), one lemma per operation.
-/
namespace Sys2Proof.Machine.State.Grows

variable {b s : State}

/-! ### The Supply Selector -/

theorem reportSupply (h : b.Grows s) (old : SupplySelector) : b.Grows (s.reportSupply old) := by
  simp only [State.reportSupply]
  split
  · exact h
  · exact h.report _ _ _ _

theorem closeSupply (h : b.Grows s) (t : TankIx) : b.Grows (s.closeSupply t) := by
  simp only [State.closeSupply]
  split
  · exact h
  · exact h.command _ _

theorem openSupply (h : b.Grows s) (t : TankIx) : b.Grows (s.openSupply t) := h.command _ _

theorem switchTo (h : b.Grows s) (t : TankIx) : b.Grows (s.switchTo t) := (h.updSupply _).openSupply _

theorem changeTo (h : b.Grows s) (t : TankIx) (c : SoftReason) : b.Grows (s.changeTo t c) := (h.updSupply _).openSupply _

theorem noSupply (h : b.Grows s) : b.Grows s.noSupply := h.updSupply _

theorem findSupply (h : b.Grows s) : b.Grows s.findSupply := by
  simp only [State.findSupply]
  split
  · exact h.switchTo _
  · exact h

theorem giveUpSwitch (h : b.Grows s) (t : TankIx) : b.Grows (s.giveUpSwitch t) := by
  have k := (h.closeSupply t).updSupply fun x => { x with next := none }
  simp only [State.giveUpSwitch]
  split
  · exact k.switchTo _
  · exact k.noSupply

theorem giveUpChange (h : b.Grows s) (cur t : TankIx) : b.Grows (s.giveUpChange cur t) := by
  have k := (h.closeSupply t).updSupply fun x => { x with next := none }
  simp only [State.giveUpChange]
  split
  · exact (k.updSupply _).openSupply _
  · exact k.updSupply _

theorem breakSupply (h : b.Grows s) (t : TankIx) (r : SupplyReason) : b.Grows (s.breakSupply t r) := by
  have k := (h.closeSupply t).updSupply fun x => { x with current := none, last := some r }
  simp only [State.breakSupply]
  split
  · exact k.switchTo _
  · exact k.updSupply _

theorem examineCore (h : b.Grows s) (o : Option TankIx) : b.Grows (s.examineCore o) := by
  simp only [State.examineCore]
  split
  case h_1 => exact h.findSupply
  case h_2 => exact h.findSupply
  case h_3 =>
    split
    · exact h.giveUpSwitch _
    · split
      · exact h.updSupply _
      · exact h
  case h_4 =>
    split
    · exact h.breakSupply _ _
    · split
      · split
        · exact h.changeTo _ _
        · exact h.updSupply _
      · exact h
  case h_5 =>
    split
    · exact h.breakSupply _ _
    · split
      · exact h.updSupply _
      · split
        · exact h.changeTo _ _
        · exact h
  case h_6 =>
    split
    · exact (h.closeSupply _).updSupply _
    · split
      · exact (h.closeSupply _).updSupply _
      · split
        · exact h.giveUpChange _ _
        · exact h
  case h_7 => exact h

theorem examine (h : b.Grows s) (o : Option TankIx) : b.Grows (s.examine o) := by
  simp only [State.examine]
  split
  · exact h
  · exact (h.examineCore _).reportSupply _

theorem supplyValve (h : b.Grows s) (v : Valve) (a : ValveAnswer) : b.Grows (s.supplyValve v a) := by
  simp only [State.supplyValve]
  split <;> exact h.examine _

theorem actOnDuty (h : b.Grows s) : b.Grows s.actOnDuty := by
  have away (t : TankIx) : b.Grows (if s.ss.duty.contains t && s.eligible t then s
      else match s.firstEligible [t] with
        | some u => s.changeTo u .duty
        | none => s) := by
    split
    · exact h
    · split
      · exact h.changeTo _ _
      · exact h
  unfold State.actOnDuty
  dsimp only
  split
  · exact away _
  · exact away _
  · split
    · exact h
    · exact h.giveUpChange _ _
  · split
    · exact h
    · exact h.giveUpSwitch _
  · exact h.findSupply
  · exact h.findSupply
  · exact h

theorem setDuty (h : b.Grows s) (l : List TankIx) : b.Grows (s.setDuty l) := ((h.updSupply _).actOnDuty).reportSupply _

theorem advance (h : b.Grows s) (t : TankIx) : b.Grows (s.advance t) := (h.changeTo _ _).reportSupply _

/-! ### The Plant Mode Controller -/

theorem reportPlant (h : b.Grows s) (x y z : Nat) : b.Grows (s.reportPlant x y z) := h.report _ _ _ _

theorem changeMode (h : b.Grows s) (new : Mode) (w : Option WakeRecord) : b.Grows (s.changeMode new w) :=
  ((h.updMode _).reportPlant _ _ _).tell _ (by simp [Msg.plain])

theorem completeWarming (h : b.Grows s) (way : Nat) (w : WakeRecord) : b.Grows (s.completeWarming way w) := by
  have k : b.Grows (match w.cause with
      | .crossing t th d => s.reportPlant (tankCode t) 5 (th.code * 65536 + d.code * 256 + way)
      | .host => s) := by
    split
    · exact h.reportPlant _ _ _
    · exact h
  unfold State.completeWarming
  dsimp only
  split
  · exact k.changeMode _ _
  · exact k.updMode _

theorem examineWarming (h : b.Grows s) : b.Grows s.examineWarming := by
  simp only [State.examineWarming]
  split
  · split
    · exact h.completeWarming _ _
    · exact h
  · exact h

theorem enterWaking (h : b.Grows s) (c : WakeCause) (m : Option Mode) : b.Grows (s.enterWaking c m) :=
  (h.changeMode _ _).examineWarming

theorem takeWake (h : b.Grows s) (t : TankIx) (th : Threshold) (d : Direction) : b.Grows (s.takeWake t th d) := by
  simp only [State.takeWake]
  split
  · exact h.enterWaking _ _
  · exact h

theorem wakeLimitExpires (h : b.Grows s) : b.Grows s.wakeLimitExpires := by
  simp only [State.wakeLimitExpires]
  split
  · split
    · exact h.completeWarming _ _
    · exact h
  · exact h

theorem confirmExpires (h : b.Grows s) : b.Grows s.confirmExpires := by
  simp only [State.confirmExpires]
  split
  · split
    · exact (h.reportPlant _ _ _).changeMode _ _
    · exact h
  · exact h

theorem setMode (h : b.Grows s) (m : Mode) : b.Grows (s.setMode m) := by
  simp only [State.setMode]
  split
  · exact h
  · split
    · exact h.enterWaking _ _
    · split
      · split
        · exact h.changeMode _ _
        · split
          · exact h.updMode _
          · exact h.changeMode _ _
      · exact h.changeMode _ _
    · exact h.changeMode _ _

theorem lapse (h : b.Grows s) (c : SupCause) : b.Grows (s.lapse c) := by
  simp only [State.lapse]
  split
  · exact (h.updMode _).reportPlant _ _ _
  · exact (h.reportPlant _ _ _).changeMode _ _
  · exact h

theorem supervisionExpires (h : b.Grows s) : b.Grows s.supervisionExpires := by
  simp only [State.supervisionExpires]
  split
  · exact h.lapse _
  · exact h

theorem takeHeartbeat (h : b.Grows s) : b.Grows s.takeHeartbeat := by
  simp only [State.takeHeartbeat]
  split
  · exact h
  · exact h.lapse _
  · split
    · exact (h.updMode _).reportPlant _ _ _
    · exact h.updMode _

/-! ### The Gauging Unit -/

/-- A change of every channel that leaves its score. -/
theorem mapGauges (h : b.Grows s) (f : GaugeChannel → GaugeChannel) (hf : ∀ c, (f c).score = c.score) :
    b.Grows (s.mapGauges f) := by
  refine h.trans ⟨⟨[], by simp [State.mapGauges], by simp⟩, List.prefix_refl _, rfl, rfl, rfl, id, fun k t c hc => ?_⟩
  simp only [State.gauge, State.mapGauges, Fin.getElem_fin, Vector.tabulate_getElem, Option.map_eq_some_iff] at hc
  obtain ⟨c', hc', rfl⟩ := hc
  rw [hf]
  exact k t c' hc'

theorem gaugeMode (h : b.Grows s) (old : Mode) : b.Grows (s.gaugeMode old) := by
  simp only [State.gaugeMode]
  split
  · exact h.mapGauges _ fun _ => rfl
  · exact h.mapGauges _ fun _ => rfl
  · exact h

end Sys2Proof.Machine.State.Grows
end

section
/-!
PROOF. Every operation of the Transfer Engine grows the state (`State.Grows`), one lemma per operation, in the order of
Machine/Transfer.lean.
-/
namespace Sys2Proof.Machine

/-! ### The parts of two long operations -/

/-- The entry that a run has made ends (R134, step 2). -/
def State.endRunEntry (made : Bool) (c : Channel) (dest : Option TankIx) (s : State) : State :=
  if made then (dest.toList.foldl (fun s t => s.entryEnd t c.entrant) s).updChan c fun r => { r with entryMade := false }
  else s

/-- The pump of a run is stopped, or where it stands already the valves are closed (R134, steps 3 and 4). -/
def State.stopPumpOrClose (told : PumpState) (c : Channel) (s : State) : State :=
  match told with
  | .starting | .running => (s.updChan c fun r => { r with pumpTold := .stopping }).pumpStop c
  | .stopping => s
  | .stopped | .fault => s.closeValves c

theorem State.stopRun_eq (c : Channel) (cause : StopCause) (s : State) :
    s.stopRun c cause = State.stopPumpOrClose (s.chan c).pumpTold c
      (State.endRunEntry (s.chan c).entryMade c ((s.runLeg c).bind Leg.destTank)
        (s.updChan c fun r => { r with stop := some cause, phase := some .stopping, noFlow := none })) := rfl

/-- A channel whose pump has failed is out of service, or will be when its run has stopped (R133). -/
def State.failChannel (st : ChannelState) (c : Channel) (s : State) : State :=
  match st with
  | .idle => s.setChannel c .out
  | .busy => s.setChannel c .stoppingForOut
  | _ => s

/-- The store takes the outcome of the run that a channel holds, if it holds one (R106, R107). -/
def State.storeOutcome (run : Option (Nat × Nat)) (cause : StopCause) (s : State) : State :=
  match run, cause with
  | some (id, k), .result r => s.takeLegEnd id k r
  | some (id, k), .back b => s.takeReturn id k b
  | none, _ => s

namespace State.Grows

variable {b s : State}

/-! ### Orders and legs -/

theorem reportOrder (h : b.Grows s) (id : Nat) : b.Grows (s.reportOrder id) := by
  simp only [State.reportOrder]
  split
  · exact h.report _ _ _ _
  · exact h

theorem enterOrder (h : b.Grows s) (id : Nat) (st : OrderState) (f : Order → Order) : b.Grows (s.enterOrder id st f) := by
  refine reportOrder ?_ _
  split
  · exact h.updOrder _ _
  · exact (h.updOrder _ _).setTransfer _

theorem endLeg (h : b.Grows s) (id k : Nat) (r : LegResult) : b.Grows (s.endLeg id k r) := (h.updLeg _ _ _).report _ _ _ _

theorem takeLegEnd (h : b.Grows s) (id k : Nat) (r : LegResult) : b.Grows (s.takeLegEnd id k r) := by
  simp only [State.takeLegEnd]
  split
  · exact h.endLeg _ _ _
  · exact (h.endLeg _ _ _).enterOrder _ _ _

theorem takeReturn (h : b.Grows s) (id k : Nat) (c : ReturnCause) : b.Grows (s.takeReturn id k c) := by
  simp only [State.takeReturn]
  split
  · exact h
  · split
    · exact (h.endLeg _ _ _).enterOrder _ _ _
    · split
      · exact h.enterOrder _ _ _
      · exact h.enterOrder _ _ _
      · exact (h.enterOrder _ _ _).setTransfer _

/-! ### Channel states -/

theorem setChannel (h : b.Grows s) (c : Channel) (st : ChannelState) : b.Grows (s.setChannel c st) :=
  (h.updChan _ _).report _ _ _ _

theorem releaseClaims (h : b.Grows s) (c : Channel) : b.Grows (s.releaseClaims c) :=
  foldl (fun _ _ k => k.updTank _ _ rfl id) _ h

theorem closeRun (h : b.Grows s) (c : Channel) (cause : StopCause) : b.Grows (s.closeRun c cause) := by
  have k : b.Grows (State.storeOutcome (s.chan c).order cause s) := by
    unfold State.storeOutcome
    split
    · exact h.takeLegEnd _ _ _
    · exact h.takeReturn _ _ _
    · exact h
  exact ((k.releaseClaims _).updChan _ _).setChannel _ _

/-! ### Stopping a run -/

theorem closeValves (h : b.Grows s) (c : Channel) : b.Grows (s.closeValves c) := foldl (fun _ _ k => k.command _ _) _ h

theorem endRunEntry (h : b.Grows s) (made : Bool) (c : Channel) (dest : Option TankIx) :
    b.Grows (s.endRunEntry made c dest) := by
  unfold State.endRunEntry
  split
  · exact (h.endEntries _ _).updChan _ _
  · exact h

theorem stopPumpOrClose (h : b.Grows s) (told : PumpState) (c : Channel) : b.Grows (s.stopPumpOrClose told c) := by
  unfold State.stopPumpOrClose
  split
  · exact (h.updChan _ _).pumpStop _
  · exact (h.updChan _ _).pumpStop _
  · exact h
  · exact h.closeValves _
  · exact h.closeValves _

theorem stopRun (h : b.Grows s) (c : Channel) (cause : StopCause) : b.Grows (s.stopRun c cause) := by
  rw [State.stopRun_eq]
  exact ((h.updChan _ _).endRunEntry _ _ _).stopPumpOrClose _ _

theorem evaluate (h : b.Grows s) (c : Channel) (e : Evaluation) : b.Grows (s.evaluate c e) := by
  simp only [State.evaluate]
  split
  · split
    · split
      · exact h.stopRun _ _
      · exact h
    · exact h
  · exact h

theorem beginRun (h : b.Grows s) (c : Channel) (id k : Nat) (l : Leg) : b.Grows (s.beginRun c id k l) :=
  ((((h.updLeg _ _ _).updChan _ _).command _ _).command _ _).evaluate _ _

/-! ### The arbiter -/

theorem weigh (h : b.Grows s) (c : Channel) (os : List Order) : b.Grows (State.weigh c os s).1 := by
  induction os generalizing s with
  | nil => exact h
  | cons o os ih =>
    simp only [State.weigh]
    split
    · exact ih h
    · split
      · exact ih (h.setTransfer _)
      · split
        · exact ih (h.setTransfer _)
        · exact h.setTransfer _

theorem give (h : b.Grows s) (c : Channel) (o : Order) (l : Leg) : b.Grows (s.give c o l) := by
  have k {y : State} (ts : List TankIx) (hy : b.Grows y) :
      b.Grows (ts.foldl (fun (s : State) t => s.updTank t fun r => { r with claim := some c }) y) :=
    foldl (fun _ _ k => k.updTank _ _ rfl id) _ hy
  simp only [State.give]
  split
  · exact (k _ ((((h.enterOrder _ _ _).updChan _ _).setChannel _ _).updChan _ _)).closeRun _ _
  · exact (k _ ((((h.enterOrder _ _ _).updChan _ _).setChannel _ _).updChan _ _)).beginRun _ _ _ _

theorem tryGive (h : b.Grows s) (c : Channel) : b.Grows (s.tryGive c).1 := by
  have k := h.weigh c s.waiting
  simp only [State.tryGive]
  split
  · split <;> rename_i hw <;> rw [hw] at k
    · exact k.give _ _ _
    · exact k
  · exact h

theorem passes (h : b.Grows s) (n : Nat) : b.Grows (State.passes n s) := by
  induction n generalizing s with
  | zero => exact h
  | succ n ih =>
    simp only [State.passes]
    split
    · exact ih ((h.tryGive _).tryGive _)
    · exact (h.tryGive _).tryGive _

theorem arbitrate (h : b.Grows s) : b.Grows s.arbitrate := by
  simp only [State.arbitrate]
  split
  · exact (h.setTransfer _).passes _
  · exact h.setTransfer _

theorem closeIfOver (h : b.Grows s) (c : Channel) : b.Grows (s.closeIfOver c).1 := by
  simp only [State.closeIfOver]
  split
  · exact h.closeRun _ _
  · exact h

theorem settle (h : b.Grows s) : b.Grows s.settle := by
  simp only [State.settle]
  split
  · exact ((h.closeIfOver _).closeIfOver _).arbitrate
  · exact (h.closeIfOver _).closeIfOver _

/-! ### Answers of the Actuator Unit -/

theorem channelValve (h : b.Grows s) (c : Channel) (v : Valve) (a : ValveAnswer) : b.Grows (s.channelValve c v a) := by
  simp only [State.channelValve]
  split
  · split
    · split
      · split
        · exact (((h.updChan _ _).updChan _ _).pumpStart _).evaluate _ _
        · exact h.updChan _ _
      · exact h
    · exact h.updChan _ _
    · split
      · exact (h.updChan _ _).stopRun _ _
      · exact (h.updChan _ _).updChan _ _
    · exact h
  · exact h

theorem enterPumping (h : b.Grows s) (c : Channel) : b.Grows (s.enterPumping c) := by
  have k := h.updChan c fun r =>
    { r with phase := some .pumping, noFlow := some (after s.clock ((r.runNoFlow.getD r.noFlowTime) * 10)) }
  simp only [State.enterPumping]
  split
  · exact k
  · split
    · exact k.evaluate _ _
    · refine evaluate ?_ _ _
      split
      · exact k.entryNotice _ _ _
      · exact (k.entryNotice _ _ _).updChan _ _

theorem failChannel (h : b.Grows s) (st : ChannelState) (c : Channel) : b.Grows (s.failChannel st c) := by
  unfold State.failChannel
  split
  · exact h.setChannel _ _
  · exact h.setChannel _ _
  · exact h

theorem channelPumpFault (h : b.Grows s) (c : Channel) : b.Grows (s.channelPumpFault c) := by
  have k : b.Grows (State.failChannel (s.chan c).state c
      (s.updChan c fun r => { r with pumpTold := .fault, outReason := some .pumpFault })) :=
    (h.updChan _ _).failChannel _ _
  unfold State.channelPumpFault
  dsimp only
  split
  · exact k.stopRun _ _
  · split
    · split
      · exact k.updChan _ _
      · exact (k.updChan _ _).closeValves _
    · exact k

theorem channelPump (h : b.Grows s) (c : Channel) (a : PumpAnswer) : b.Grows (s.channelPump c a) := by
  simp only [State.channelPump]
  split
  · split
    · exact (h.updChan _ _).enterPumping _
    · exact h.updChan _ _
  · split
    · exact (h.updChan _ _).closeValves _
    · exact h.updChan _ _
  · exact h.channelPumpFault _
  · exact h.channelPumpFault _

/-! ### Notices -/

theorem evaluateTank (h : b.Grows s) (t : TankIx) (e : Evaluation) (c : Channel) : b.Grows (s.evaluateTank t e c) := by
  simp only [State.evaluateTank]
  split
  · exact h.evaluate _ _
  · exact h

theorem transferTank (h : b.Grows s) (t : TankIx) (e : Evaluation) : b.Grows (s.transferTank t e) :=
  (((h.evaluateTank _ _ _).evaluateTank _ _ _).settle).arbitrate

theorem transferConflict (h : b.Grows s) (c : Channel) : b.Grows (s.transferConflict c) := (h.evaluate _ _).settle

theorem transferMoment (h : b.Grows s) : b.Grows s.transferMoment := by
  have k : b.Grows (s.evaluateBoth fun _ => { guard := true }).settle := ((h.evaluate _ _).evaluate _ _).settle
  simp only [State.transferMoment]
  split
  · exact k.arbitrate
  · exact k

theorem channelMode (h : b.Grows s) (new : Mode) (c : Channel) : b.Grows (s.channelMode new c) := by
  simp only [State.channelMode]
  split
  · split
    · exact h.stopRun _ _
    · exact h.updChan _ _
  · split
    · exact h.stopRun _ _
    · exact h
  · exact h

theorem transferMode (h : b.Grows s) (new : Mode) : b.Grows (s.transferMode new) := by
  have k := ((h.channelMode new .tc1).channelMode new .tc2).settle
  simp only [State.transferMode]
  split
  · exact k.arbitrate
  · exact k

/-! ### Flow -/

theorem channelPulse (h : b.Grows s) (c : Channel) : b.Grows (s.channelPulse c) := by
  simp only [State.channelPulse]
  split
  · refine (evaluate ?_ _ _).settle
    split
    · exact ((h.updChan _ _).updChan _ _).updLeg _ _ _
    · exact (h.updChan _ _).updChan _ _
  · exact h.updChan _ _

theorem flowLost (h : b.Grows s) (c : Channel) : b.Grows (s.flowLost c) := by
  simp only [State.flowLost]
  split
  · exact (h.stopRun _ _).settle
  · exact h

/-! ### Requests -/

theorem submit (h : b.Grows s) (id priority : Nat) (policy : Policy) (legs : List Leg) :
    b.Grows (s.submit id priority policy legs) := by
  have k : b.Grows s.renumber := by
    unfold State.renumber
    split
    · exact h
    · exact h.setTransfer _
  exact ((k.setTransfer _).reportOrder _).arbitrate

theorem cancel (h : b.Grows s) (id : Nat) : b.Grows (s.cancel id) := by
  have cancelWaiting (o : Order) : b.Grows ((if o.leg.any (fun l => 0 < l.runs) = true then
      s.endLeg id o.current .cancelled else s).enterOrder id .cancelled fun o => { o with heldByFallback := false }) := by
    refine enterOrder ?_ _ _ _
    split
    · exact h.endLeg _ _ _
    · exact h
  simp only [State.cancel]
  split
  · exact h
  · split
    · exact cancelWaiting _
    · exact cancelWaiting _
    · split
      · exact h
      · split
        · split
          · exact (h.updOrder _ _).stopRun _ _
          · exact h.updOrder _ _
        · exact h.updOrder _ _
    · exact h

theorem resume (h : b.Grows s) (id : Nat) : b.Grows (s.resume id) := (h.enterOrder _ _ _).arbitrate

theorem takeOut (h : b.Grows s) (c : Channel) : b.Grows (s.takeOut c) := by
  simp only [State.takeOut]
  split
  · exact (h.updChan _ _).setChannel _ _
  · split
    · exact (((h.updChan _ _).setChannel _ _).stopRun _ _).settle
    · exact (h.updChan _ _).setChannel _ _
  · exact h

theorem takeIn (h : b.Grows s) (c : Channel) : b.Grows (s.takeIn c) := by
  simp only [State.takeIn]
  split
  · exact ((h.updChan _ _).setChannel _ _).arbitrate
  · exact h

end State.Grows
end Sys2Proof.Machine
end

section
/-!
PROOF. What the delivery of the notices keeps: the standing part of the state, the reports queued so far, and, without a wake
cause, the Plant Mode Controller (O4).
-/
namespace Sys2Proof.Machine

/-! ### The standing part -/

theorem State.standing_of_actuators {s u : State} (h : u.beyondActuators = s.beyondActuators) : u.standing = s.standing := by
  rw [← u.beyondActuators_standing, h, s.beyondActuators_standing]

theorem State.standing_of_intake {s u : State} (h : u.beyondIntake = s.beyondIntake) : u.standing = s.standing := by
  rw [← u.beyondIntake_standing, h, s.beyondIntake_standing]

theorem State.standing_of_transfer {s u : State} (h : u.beyondTransfer = s.beyondTransfer) : u.standing = s.standing := by
  rw [← u.beyondTransfer_standing, h, s.beyondTransfer_standing]

theorem State.standing_of_supply {s u : State} (h : u.beyondSupply = s.beyondSupply) : u.standing = s.standing := by
  rw [← u.beyondSupply_standing, h, s.beyondSupply_standing]

theorem State.standing_of_modes {s u : State} (h : u.beyondModes = s.beyondModes) : u.standing = s.standing := by
  rw [← u.beyondModes_standing, h, s.beyondModes_standing]

@[simp] theorem State.setTold_standing (s : State) (k : Block) (t : TankIx) (g : Option GaugeState) :
    (s.setTold k t g).standing = s.standing := by cases k <;> rfl

@[simp] theorem State.gaugeMode_standing (s : State) (old : Mode) : (s.gaugeMode old).standing = s.standing := by
  have hidden (v : Vector (Option GaugeChannel) 12) :
      (v.map (Option.map GaugeChannel.standing)).toList.map (Option.map GaugeChannel.standing) =
        v.toList.map (Option.map GaugeChannel.standing) :=
    map_hidden _ _ (fun c => by cases c <;> rfl) v
  have k := congrArg State.standing (s.gaugeMode_gauges old)
  simpa only [State.standing, hidden] using k

@[simp] theorem State.keepDumpTimers_standing (s : State) : s.keepDumpTimers.standing = s.standing :=
  State.standing_of_intake s.keepDumpTimers_beyondIntake

@[simp] theorem State.settle_standing (s : State) : s.settle.standing = s.standing :=
  State.standing_of_transfer s.settle_beyondTransfer

@[simp] theorem State.intakeTank_standing (s : State) (t : TankIx) : (s.intakeTank t).standing = s.standing :=
  State.standing_of_intake (s.intakeTank_beyondIntake t)

@[simp] theorem State.transferTank_standing (s : State) (t : TankIx) (e : Evaluation) :
    (s.transferTank t e).standing = s.standing :=
  State.standing_of_transfer (s.transferTank_beyondTransfer t e)

@[simp] theorem State.transferMoment_standing (s : State) : s.transferMoment.standing = s.standing :=
  State.standing_of_transfer s.transferMoment_beyondTransfer

@[simp] theorem State.examine_standing (s : State) (o : Option TankIx) : (s.examine o).standing = s.standing :=
  State.standing_of_supply (s.examine_beyondSupply o)

@[simp] theorem State.examineWarming_standing (s : State) : s.examineWarming.standing = s.standing :=
  State.standing_of_modes s.examineWarming_beyondModes

@[simp] theorem State.setToldMoment_standing (s : State) (m : Int) : (s.setToldMoment m).standing = s.standing := rfl

@[simp] theorem State.append_standing (s : State) (r : Report) : (s.append r).standing = s.standing :=
  State.standing_of_actuators (s.append_beyondActuators r)

theorem State.takeTank_standing (s : State) (k : Block) (t : TankIx) (c : TankChange) :
    (s.takeTank k t c).standing = s.standing := by
  have told : (if (s.tank t).service = .undefined then s.setTold k t none else s).standing = s.standing := by
    split
    · exact s.setTold_standing _ _ _
    · rfl
  unfold State.takeTank
  cases k <;> simpa using told

theorem State.takeGauge_standing (s : State) (k : Block) (t : TankIx) (g : GaugeState) :
    (s.takeGauge k t g).standing = s.standing := by
  unfold State.takeGauge
  cases k <;> simp

theorem State.takeMode_standing (s : State) (k : Block) (old new : Mode) : (s.takeMode k old new).standing = s.standing := by
  cases k
  · exact s.gaugeMode_standing old
  · simp only [State.takeMode, State.actuatorMode]
    split
    · exact State.standing_of_actuators s.returnAll_beyondActuators
    · rfl
  · exact State.standing_of_intake (s.intakeMode_beyondIntake old new)
  · exact State.standing_of_transfer (s.transferMode_beyondTransfer new)
  · simp only [State.takeMode]
    split
    · exact s.examine_standing none
    · rfl
  · rfl

theorem State.takeValve_standing (s : State) (v : Valve) (a : ValveAnswer) : (s.takeValve v a).standing = s.standing := by
  simp only [State.takeValve]
  split
  · exact State.standing_of_intake (s.intakeValve_beyondIntake v a)
  · simpa using State.standing_of_transfer (s.channelValve_beyondTransfer .tc1 v a)
  · simpa using State.standing_of_transfer (s.channelValve_beyondTransfer .tc2 v a)
  · exact State.standing_of_supply (s.supplyValve_beyondSupply v a)

theorem State.takeConflict_standing (s : State) (t : TankIx) (e : Entrant) : (s.takeConflict t e).standing = s.standing := by
  cases e
  · exact State.standing_of_intake (s.intakeConflict_beyondIntake t)
  · exact State.standing_of_transfer (s.transferConflict_beyondTransfer .tc1)
  · exact State.standing_of_transfer (s.transferConflict_beyondTransfer .tc2)

/-- Whatever notice is taken, the standing part stays. -/
theorem State.take_standing (m : Msg) (s : State) : (State.take m s).standing = s.standing := by
  cases m with
  | tank k t c => exact s.takeTank_standing k t c
  | gauge k t g => exact s.takeGauge_standing k t g
  | mode k old new => exact s.takeMode_standing k old new
  | moment m => exact (s.setToldMoment m).transferMoment_standing
  | balance => exact s.transferMoment_standing
  | conflict t e => exact s.takeConflict_standing t e
  | wake t th d => exact State.standing_of_modes (s.takeWake_beyondModes t th d)
  | valve v a => exact s.takeValve_standing v a
  | pump c a => simpa [State.take] using State.standing_of_transfer (s.channelPump_beyondTransfer c a)
  | decide => exact State.standing_of_intake s.decideAll_beyondIntake
  | report r => exact s.append_standing r

/-! ### The notices and the reports -/

theorem State.Grows.takeTank {b s : State} (h : b.Grows s) (k : Block) (t : TankIx) (c : TankChange) :
    b.Grows (s.takeTank k t c) := by
  have told : b.Grows (if (s.tank t).service = .undefined then s.setTold k t none else s) := by
    split
    · exact h.setTold _ _ _
    · exact h
  cases k
  · exact told
  · exact told
  · exact told.intakeTank _
  · exact told.transferTank _ _
  · exact told.examine _
  · exact told.examineWarming

theorem State.Grows.takeGauge {b s : State} (h : b.Grows s) (k : Block) (t : TankIx) (g : GaugeState) :
    b.Grows (s.takeGauge k t g) := by
  have told := h.setTold k t (some g)
  cases k
  · exact told
  · exact told
  · exact told.intakeTank _
  · exact told.transferTank _ _
  · exact told.examine _
  · exact told.examineWarming

theorem State.Grows.takeMode {b s : State} (h : b.Grows s) (k : Block) (old new : Mode) :
    b.Grows (s.takeMode k old new) := by
  cases k
  · exact h.gaugeMode _
  · simp only [State.takeMode, State.actuatorMode]
    split
    · exact h.returnAll
    · exact h
  · exact h.intakeMode _ _
  · exact h.transferMode _
  · simp only [State.takeMode]
    split
    · exact h.examine _
    · exact h
  · exact h

theorem State.Grows.takeValve {b s : State} (h : b.Grows s) (v : Valve) (a : ValveAnswer) : b.Grows (s.takeValve v a) := by
  simp only [State.takeValve]
  split
  · exact h.intakeValve _ _
  · exact (h.channelValve _ _ _).settle
  · exact (h.channelValve _ _ _).settle
  · exact h.supplyValve _ _

theorem State.Grows.takeConflict {b s : State} (h : b.Grows s) (t : TankIx) (e : Entrant) :
    b.Grows (s.takeConflict t e) := by
  cases e
  · exact h.intakeConflict _
  · exact h.transferConflict _
  · exact h.transferConflict _

/-- What the Transfer Engine knows of M once a notice is taken (R22). -/
def Msg.toldMoment (m : Int) : Msg → Int
  | .moment n => n
  | _ => m

/-- Taking a notice grows the state in which the Transfer Engine knows the M of that notice. -/
theorem State.Grows.take (m : Msg) (s : State) : (s.setToldMoment (m.toldMoment s.told.moment)).Grows (State.take m s) := by
  have h : s.Grows s := refl s
  cases m with
  | tank k t c => exact h.takeTank k t c
  | gauge k t g => exact h.takeGauge k t g
  | mode k old new => exact h.takeMode k old new
  | moment m => exact (refl (s.setToldMoment m)).transferMoment
  | balance => exact h.transferMoment
  | conflict t e => exact h.takeConflict t e
  | wake t th d => exact h.takeWake t th d
  | valve v a => exact h.takeValve v a
  | pump c a => exact (h.channelPump c a).settle
  | decide => exact h.decideAll
  | report r => exact h.append r

/-! ### What stands in a state -/

theorem State.standsIn_refl (s : State) : s.standsIn s := ⟨rfl, List.prefix_refl _⟩

theorem State.standsIn_trans {a b c : State} (h : a.standsIn b) (k : b.standsIn c) : a.standsIn c :=
  ⟨k.1.trans h.1, h.2.trans k.2⟩

/-- Delivery takes nothing away of what stands. -/
theorem State.standsIn_deliver (s : State) : s.standsIn s.deliver := by
  refine State.deliver_induction s.standsIn s s.standsIn_refl (fun m rest x hx _ => ?_) fun x hx => ?_
  · exact State.standsIn_trans hx
      ⟨State.take_standing m { x with msgs := rest }, (State.Grows.take m { x with msgs := rest }).queue⟩
  · exact State.standsIn_trans hx ⟨x.keepDumpTimers_standing, (State.Grows.refl x).keepDumpTimers.queue⟩

/-! ### The Plant Mode Controller -/

/-- What stands of a tank. -/
theorem State.tank_of_standing {s u : State} (h : u.standing = s.standing) (t : TankIx) :
    (u.tank t).standing = (s.tank t).standing := by
  have k := congrArg (fun x : Standing => x.tanks[t.val]?) h
  simpa [State.standing, State.tank] using k

/-- What stands of a level channel. -/
theorem State.gauge_of_standing {s u : State} (h : u.standing = s.standing) (t : TankIx) :
    (u.gauge t).map GaugeChannel.standing = (s.gauge t).map GaugeChannel.standing := by
  have k := congrArg (fun x : Standing => x.gauges[t.val]?) h
  simpa [State.standing, State.gauge] using k

/-- Whether the gauges have settled is read from what stands (R164). -/
theorem State.gaugesSettled_of_standing {s u : State} (h : u.standing = s.standing) : u.gaugesSettled = s.gaugesSettled := by
  have service (t : TankIx) : (u.tank t).service = (s.tank t).service := by
    simpa [TankRecord.standing] using congrArg TankRecord.service (State.tank_of_standing h t)
  have hidden (g : Option GaugeChannel) :
      ((g.map GaugeChannel.standing).any fun c => c.state = .settling) = g.any fun c => c.state = .settling := by
    cases g <;> rfl
  have settling (t : TankIx) :
      ((u.gauge t).any fun c => c.state = .settling) = (s.gauge t).any fun c => c.state = .settling := by
    rw [← hidden, State.gauge_of_standing h, hidden]
  simp only [State.gaugesSettled, service, settling]

theorem State.pmc_of_intake {s u : State} (h : u.beyondIntake = s.beyondIntake) : u.pmc = s.pmc := by
  simpa [State.beyondIntake] using congrArg State.pmc h

theorem State.pmc_of_transfer {s u : State} (h : u.beyondTransfer = s.beyondTransfer) : u.pmc = s.pmc := by
  simpa [State.beyondTransfer] using congrArg State.pmc h

theorem State.pmc_of_supply {s u : State} (h : u.beyondSupply = s.beyondSupply) : u.pmc = s.pmc := by
  simpa [State.beyondSupply] using congrArg State.pmc h

/-- A wake that could complete: it warms up, and the gauges have settled (R164). -/
theorem State.examineWarming_of_wakeless {s : State} (h : s.wakeless) : s.examineWarming = s := by
  have hw := h.2
  simp only [State.examineWarming]
  split
  · rename_i w hs
    rw [if_neg]
    rintro ⟨hp, hg⟩
    simp [hs, hp, hg] at hw
  · rfl

theorem State.takeTank_pmc {s : State} (h : s.wakeless) (k : Block) (t : TankIx) (c : TankChange) :
    (s.takeTank k t c).pmc = s.pmc := by
  have told : (if (s.tank t).service = .undefined then s.setTold k t none else s).pmc = s.pmc := by
    split
    · exact s.setTold_pmc _ _ _
    · rfl
  cases k
  case pmc =>
    have same : (if (s.tank t).service = .undefined then s.setTold .pmc t none else s) = s := ite_self s
    exact congrArg State.pmc ((congrArg State.examineWarming same).trans (State.examineWarming_of_wakeless h))
  case ir => exact (State.pmc_of_intake (State.intakeTank_beyondIntake _ t)).trans told
  case te => exact (State.pmc_of_transfer (State.transferTank_beyondTransfer _ t _)).trans told
  case ss => exact (State.pmc_of_supply (State.examine_beyondSupply _ none)).trans told
  all_goals exact told

theorem State.takeGauge_pmc {s : State} (h : s.wakeless) (k : Block) (t : TankIx) (g : GaugeState) :
    (s.takeGauge k t g).pmc = s.pmc := by
  have told := s.setTold_pmc k t (some g)
  cases k
  case pmc => exact congrArg State.pmc (State.examineWarming_of_wakeless h)
  case ir => exact (State.pmc_of_intake (State.intakeTank_beyondIntake _ t)).trans told
  case te => exact (State.pmc_of_transfer (State.transferTank_beyondTransfer _ t _)).trans told
  case ss => exact (State.pmc_of_supply (State.examine_beyondSupply _ none)).trans told
  all_goals exact told

theorem State.takeMode_pmc (s : State) (k : Block) (old new : Mode) : (s.takeMode k old new).pmc = s.pmc := by
  cases k
  · simp only [State.takeMode, State.gaugeMode]
    split <;> rfl
  · simp only [State.takeMode, State.actuatorMode]
    split
    · simpa [State.beyondActuators] using congrArg State.pmc s.returnAll_beyondActuators
    · rfl
  · exact State.pmc_of_intake (s.intakeMode_beyondIntake old new)
  · exact State.pmc_of_transfer (s.transferMode_beyondTransfer new)
  · simp only [State.takeMode]
    split
    · exact State.pmc_of_supply (s.examine_beyondSupply none)
    · rfl
  · rfl

theorem State.takeValve_pmc (s : State) (v : Valve) (a : ValveAnswer) : (s.takeValve v a).pmc = s.pmc := by
  simp only [State.takeValve]
  split
  · exact State.pmc_of_intake (s.intakeValve_beyondIntake v a)
  · exact State.pmc_of_transfer ((State.settle_beyondTransfer _).trans (s.channelValve_beyondTransfer .tc1 v a))
  · exact State.pmc_of_transfer ((State.settle_beyondTransfer _).trans (s.channelValve_beyondTransfer .tc2 v a))
  · exact State.pmc_of_supply (s.supplyValve_beyondSupply v a)

theorem State.takeConflict_pmc (s : State) (t : TankIx) (e : Entrant) : (s.takeConflict t e).pmc = s.pmc := by
  cases e
  · exact State.pmc_of_intake (s.intakeConflict_beyondIntake t)
  · exact State.pmc_of_transfer (s.transferConflict_beyondTransfer .tc1)
  · exact State.pmc_of_transfer (s.transferConflict_beyondTransfer .tc2)

/-- Only a wake touches the Plant Mode Controller. -/
theorem State.take_pmc {m : Msg} {s : State} (hm : m.wakes = false) (h : s.wakeless) : (State.take m s).pmc = s.pmc := by
  cases m with
  | tank k t c => exact State.takeTank_pmc h k t c
  | gauge k t g => exact State.takeGauge_pmc h k t g
  | mode k old new => exact s.takeMode_pmc k old new
  | moment m => exact (State.pmc_of_transfer (s.setToldMoment m).transferMoment_beyondTransfer).trans rfl
  | balance => exact State.pmc_of_transfer s.transferMoment_beyondTransfer
  | conflict t e => exact s.takeConflict_pmc t e
  | wake t th d => simp [Msg.wakes] at hm
  | valve v a => exact s.takeValve_pmc v a
  | pump c a => exact State.pmc_of_transfer ((State.settle_beyondTransfer _).trans (s.channelPump_beyondTransfer c a))
  | decide => exact State.pmc_of_intake s.decideAll_beyondIntake
  | report r => rfl

theorem Msg.wakes_of_plain {m : Msg} (h : m.plain = true) : m.wakes = false := by
  cases m with
  | wake t th d => cases h
  | _ => rfl

/-- A state stays wakeless when its notices grow by plain ones and its controller and what stands stay. -/
theorem State.wakeless_of_grows {b s : State} (hs : s.standing = b.standing) (hp : s.pmc = b.pmc)
    (hm : ∃ l, s.msgs = b.msgs ++ l ∧ ∀ m ∈ l, m.plain = true) (h : b.wakeless) : s.wakeless := by
  obtain ⟨l, hl, hplain⟩ := hm
  refine ⟨fun m hm => ?_, ?_⟩
  · rw [hl, List.mem_append] at hm
    exact hm.elim (h.1 m) fun k => Msg.wakes_of_plain (hplain m k)
  · rw [hp, State.gaugesSettled_of_standing hs]
    exact h.2

/-- Without a wake cause in flight and a wake that could complete, delivery leaves the Plant Mode Controller as it is. -/
theorem State.deliver_pmc {s : State} (h : s.wakeless) : s.deliver.pmc = s.pmc := by
  refine (State.deliver_induction (fun x => x.wakeless ∧ x.pmc = s.pmc) s ⟨h, rfl⟩ (fun m rest x hx hmsgs => ?_)
    fun x hx => ?_).2
  · obtain ⟨hw, hp⟩ := hx
    have hall : ∀ m' ∈ m :: rest, m'.wakes = false := by rw [← hmsgs]; exact hw.1
    have hw' : ({ x with msgs := rest } : State).wakeless := ⟨fun m' hm' => hall m' (List.mem_cons_of_mem m hm'), hw.2⟩
    have htake := State.take_pmc (hall m List.mem_cons_self) hw'
    exact ⟨State.wakeless_of_grows (State.take_standing m _) htake (State.Grows.take m { x with msgs := rest }).msgs hw',
      htake.trans hp⟩
  · obtain ⟨hw, hp⟩ := hx
    have hkeep : x.keepDumpTimers.pmc = x.pmc := State.pmc_of_intake x.keepDumpTimers_beyondIntake
    exact ⟨State.wakeless_of_grows x.keepDumpTimers_standing hkeep (State.Grows.refl x).keepDumpTimers.msgs hw,
      hkeep.trans hp⟩

/-! ### One notice after another -/

/-- The oldest notice is taken, and the rest go on (log entry 6). -/
theorem State.drain_succ {s : State} {m : Msg} {rest : List Msg} (n : Nat) (h : s.msgs = m :: rest) :
    State.drain (n + 1) s = State.drain n (State.take m { s with msgs := rest }).keepDumpTimers := by
  simp [State.drain, h]

/-- Delivery that leaves nothing in flight is that of the state in which the oldest notice has been taken. -/
theorem State.deliver_cons {s : State} {m : Msg} {rest : List Msg} (hm : s.msgs = m :: rest) (hd : s.deliver.msgs = []) :
    s.deliver = (State.take m { s.keepDumpTimers with msgs := rest }).deliver := by
  have k : s.deliver = State.drain 4095 (State.take m { s.keepDumpTimers with msgs := rest }).keepDumpTimers :=
    State.drain_succ 4095 (s.keepDumpTimers_msgs.trans hm)
  rw [k] at hd ⊢
  exact (State.drain_enough _ 4095 hd).symm

end Sys2Proof.Machine
end

section
open Sys2Proof Sys2Proof.Machine

/-- Settles O4: by induction on the notices delivered, each of which keeps what stands. -/
theorem deliveryKeepsWhatStands : Obligations.DeliveryKeepsWhatStands := by
  refine ⟨fun s => ⟨s.standsIn_deliver, State.deliver_pmc⟩, fun s => ⟨fun h => ?_, fun m rest => State.deliver_cons⟩,
    fun s => ⟨rfl, rfl, fun n => ⟨State.drain_calm s n, fun m rest => State.drain_succ n⟩⟩⟩
  exact State.drain_calm _ _ (s.keepDumpTimers_msgs.trans h)
end

section
/-!
PROOF. The laws of tanks and gauges (R20, R22, R36) and what the Transfer Engine has been told of M, as one predicate, and the
operations that keep it. An operation that changes a published volume or an arm leaves M to be worked out anew, so
the predicate says by a parameter whether the sum of R22 is to hold just now.
-/
namespace Sys2Proof.Machine

/-- M as the Transfer Engine knows it once the notices in flight have been taken (R22). -/
def State.toldAtLast (s : State) : Int := s.msgs.foldl Msg.toldMoment s.told.moment

/-- The laws of the tanks and the gauges; the sum of R22 where `sum` holds, the told M where `told` holds. -/
structure State.TankLaws (sum told : Prop) (s : State) : Prop where
  moment : sum → s.momentLaw
  entry : s.entryLaw
  score : s.scoreLaw
  told : told → s.toldAtLast = s.tt.moment

/-- The enable that lets a crossing in a direction be reported (R17). -/
def ThEnables.notice (e : ThEnables) : Direction → Bool
  | .rising => e.rising
  | .falling => e.falling

/-- A crossing is reported where its notice enable is set (R17). -/
def State.noteCrossing (t : TankIx) (vol : Nat) (n : NoticeEnables) (x : Threshold × Direction) (s : State) : State :=
  if (n.get x.1).notice x.2 then s.report .level (tankCode t) (x.1.code * 16 + x.2.code) vol else s

/-- A crossing is reported, and then passed on as a wake cause (R16, R17). -/
theorem State.takeCrossing_eq (t : TankIx) (vol : Nat) (n : NoticeEnables) (s : State) (x : Threshold × Direction) :
    State.takeCrossing t vol n s x =
      if (n.get x.1).wake && decide ((s.noteCrossing t vol n x).mode = .layup) then
        (s.noteCrossing t vol n x).emit (.wake t x.1 x.2)
      else s.noteCrossing t vol n x := by
  obtain ⟨th, d⟩ := x
  cases d <;> rfl

theorem Msg.toldMoment_of_plain {m : Msg} (h : m.plain = true) (x : Int) : m.toldMoment x = x := by
  cases m with
  | moment m => cases h
  | _ => rfl

/-- Notices that do not carry M leave the M that will have been told. -/
theorem foldl_toldMoment {l : List Msg} (h : ∀ m ∈ l, ∀ x, m.toldMoment x = x) (x : Int) : l.foldl Msg.toldMoment x = x := by
  induction l with
  | nil => rfl
  | cons m l ih =>
    rw [List.foldl_cons, h m List.mem_cons_self]
    exact ih fun m' hm' => h m' (List.mem_cons_of_mem m hm')

namespace State.TankLaws

variable {q p : Prop} {b s u : State}

/-! ### How the laws are kept -/

/-- Whatever a block does in its own records keeps the laws. -/
theorem grows (h : b.TankLaws q p) (k : b.Grows s) : s.TankLaws q p := by
  obtain ⟨l, hl, hplain⟩ := k.msgs
  have hlast : s.toldAtLast = b.toldAtLast := by
    rw [State.toldAtLast, State.toldAtLast, hl, k.told, List.foldl_append,
      foldl_toldMoment fun m hm => Msg.toldMoment_of_plain (hplain m hm)]
  refine ⟨fun hq => ?_, k.entry h.entry, k.score h.score, fun hp => ?_⟩
  · rw [State.momentLaw, k.moment, k.sum]
    exact h.moment hq
  · rw [hlast, k.moment]
    exact h.told hp

/-- A change that touches no tank, no gauge, no notice and nothing that has been told. -/
theorem of_same (h : s.TankLaws q p) (htt : u.tt = s.tt) (hg : u.gu.channels = s.gu.channels) (hm : u.msgs = s.msgs)
    (ht : u.told = s.told) : u.TankLaws q p := by
  refine ⟨fun hq => ?_, ?_, ?_, fun hp => ?_⟩
  · simpa only [State.momentLaw, htt] using h.moment hq
  · simpa only [State.entryLaw, State.tank, htt] using h.entry
  · simpa only [State.scoreLaw, State.gauge, hg] using h.score
  · simpa only [State.toldAtLast, hm, ht, htt] using h.told hp

theorem weaken (h : s.TankLaws q p) : s.TankLaws False p := ⟨False.elim, h.entry, h.score, h.told⟩

/-- A tank's record is replaced by one with lawful entries; M is to be worked out anew. -/
theorem updTank (h : s.TankLaws q p) (t : TankIx) (f : TankRecord → TankRecord)
    (he : (s.tank t).entryLaw → (f (s.tank t)).entryLaw) : (s.updTank t f).TankLaws False p :=
  ⟨False.elim, State.updTank_forall (P := TankRecord.entryLaw) (he (h.entry t)) h.entry, h.score, h.told⟩

theorem setGauge (h : s.TankLaws q p) (t : TankIx) (c : Option GaugeChannel) (hc : ∀ x ∈ c, x.score ≤ 255) :
    (s.setGauge t c).TankLaws q p := by
  refine ⟨h.moment, h.entry, fun t' c' hc' => ?_, h.told⟩
  by_cases k : t' = t
  · subst k
    rw [State.setGauge_gauge_self] at hc'
    exact hc c' hc'
  · rw [State.setGauge_gauge_ne s c k] at hc'
    exact h.score t' c' hc'

/-- A notice that does not carry M. -/
theorem emit (h : s.TankLaws q p) (m : Msg) (hm : ∀ x, m.toldMoment x = x) : (s.emit m).TankLaws q p := by
  refine ⟨h.moment, h.entry, h.score, fun hp => (Eq.trans ?_ (h.told hp) : (s.emit m).toldAtLast = s.tt.moment)⟩
  simp [State.toldAtLast, State.emit, hm]

/-- M is worked out anew, and told where it has changed (R22). -/
theorem reMoment (h : s.TankLaws q p) : s.reMoment.TankLaws True p := by
  unfold State.reMoment
  dsimp only
  split
  · rename_i heq
    exact ⟨fun _ => heq.symm, h.entry, h.score, h.told⟩
  · exact ⟨fun _ => rfl, h.entry, h.score, fun _ => by simp [State.toldAtLast, State.emit, Msg.toldMoment]⟩

theorem foldl {α : Type} {f : State → α → State} (hf : ∀ x a, State.TankLaws q p x → (f x a).TankLaws q p) (l : List α)
    (h : s.TankLaws q p) : (l.foldl f s).TankLaws q p := by
  induction l generalizing s with
  | nil => exact h
  | cons a l ih => exact ih (hf _ _ h)

theorem tellTank (h : s.TankLaws q p) (t : TankIx) (d : Bool) (c : ClassCause) (r : TankRecord) :
    (s.tellTank t d c r).TankLaws q p :=
  h.grows ((Grows.refl s).tellTank t d c r)

/-! ### The Tank Table -/

theorem takeCrossing (h : s.TankLaws q p) (t : TankIx) (vol : Nat) (n : NoticeEnables) (x : Threshold × Direction) :
    (State.takeCrossing t vol n s x).TankLaws q p := by
  have noted : (s.noteCrossing t vol n x).TankLaws q p := by
    unfold State.noteCrossing
    split
    · exact h.grows ((Grows.refl s).report _ _ _ _)
    · exact h
  rw [State.takeCrossing_eq]
  split
  · exact noted.emit (.wake t x.1 x.2) fun _ => rfl
  · exact noted

theorem takeStates (h : s.TankLaws q p) (t : TankIx) (vol : Nat) (new : ThStates) :
    (s.takeStates t vol new).TankLaws q p := by
  have k := h.grows ((Grows.refl s).updTank t (fun r => { r with states := new }) rfl id)
  unfold State.takeStates
  dsimp only
  split
  · exact foldl (fun _ x hx => hx.takeCrossing t vol _ x) _ k
  · exact k

theorem publish (h : s.TankLaws True p) (t : TankIx) (level vol : Nat) (g : GaugeState) :
    (s.publish t level vol g).TankLaws True p := by
  unfold State.publish
  dsimp only
  split
  · exact h
  · exact (((h.updTank t _ id).takeStates _ _ _).tellTank _ _ _ _).reMoment

theorem hold (h : s.TankLaws q p) (t : TankIx) : (s.hold t).TankLaws q p := h.grows ((Grows.refl s).updTank t _ rfl id)

theorem dropPublished (h : s.TankLaws q p) (t : TankIx) : (s.dropPublished t).TankLaws True p :=
  ((h.updTank t _ id).tellTank _ _ _ _).reMoment

theorem setLimits (h : s.TankLaws q p) (t : TankIx) (m : Limits) : (s.setLimits t m).TankLaws q p := by
  have k := h.grows ((Grows.refl s).updTank t (fun r => { r with limits := some m }) rfl id)
  unfold State.setLimits
  dsimp only
  split
  · split
    · exact k
    · exact (k.takeStates _ _ _).tellTank _ _ _ _
  · exact k

/-- A class change marks as ending what is worse than the new class, so what still counts is not (R11, R20). -/
theorem entryLaw_reclassed (c : QClass) (r : TankRecord) : TankRecord.entryLaw { r with
    cls := c, entries := r.entries.map fun x => if x.waterClass.worse c then { x with ending := true } else x } := by
  intro e he hend
  obtain ⟨x, -, rfl⟩ := List.mem_map.mp he
  cases hw : x.waterClass.worse c <;> simp_all

theorem changeClass (h : s.TankLaws q p) (t : TankIx) (c : QClass) : (s.changeClass t c).TankLaws q p := by
  have k := h.grows ((Grows.refl s).updTank t (fun r => { r with
    cls := c, entries := r.entries.map fun x => if x.waterClass.worse c then { x with ending := true } else x }) rfl
    fun _ => entryLaw_reclassed c _)
  unfold State.changeClass
  dsimp only
  split
  · exact h
  · exact (foldl (fun _ x hx => hx.emit _ fun _ => rfl) _ k).tellTank _ _ _ _

theorem setService (h : s.TankLaws q p) (t : TankIx) (v : Service) : (s.setService t v).TankLaws q p :=
  (h.grows ((Grows.refl s).updTank t _ rfl id)).tellTank _ _ _ _

/-! ### The gauges -/

theorem score_enter (c : GaugeChannel) (level : Nat) : (c.enter level).score = c.score := by
  unfold GaugeChannel.enter
  dsimp only
  split <;> rfl

theorem score_sampled (c : GaugeChannel) (a : Attitude) (raw : Option Nat) (h : c.score ≤ 255) :
    (c.sampled a raw).score ≤ 255 := by
  unfold GaugeChannel.sampled
  split
  · exact Nat.min_le_right _ _
  · dsimp only
    split
    · rw [score_enter]
      exact (Nat.sub_le _ _).trans h
    · exact Nat.min_le_right _ _

/-- The score never leaves its range 0 to 255 (R36). -/
theorem score_handled (c : GaugeChannel) (a : Attitude) (raw : Option Nat) (h : c.score ≤ 255) :
    (c.handled a raw).score ≤ 255 := by
  have k := score_sampled c a raw h
  unfold GaugeChannel.handled
  dsimp only
  split <;> exact k

theorem publishChannel (h : s.TankLaws True p) (t : TankIx) (c : GaugeChannel) (hc : c.score ≤ 255) :
    (s.publishChannel t c).TankLaws True p := by
  unfold State.publishChannel
  split
  · exact (h.setGauge t _ (by simpa using hc)).publish _ _ _ _
  · exact h.setGauge t _ (by simpa using hc)

theorem tellGauge (h : s.TankLaws q p) (t : TankIx) (g : GaugeState) : (s.tellGauge t g).TankLaws q p :=
  h.grows ((Grows.refl s).tell _ (by simp [Msg.plain]))

theorem report (h : s.TankLaws q p) (k : ReportKind) (x y z : Nat) : (s.report k x y z).TankLaws q p :=
  h.grows ((Grows.refl s).report k x y z)

theorem takeSample (h : s.TankLaws True p) (t : TankIx) (c : GaugeChannel) (raw : Option Nat) (hc : c.score ≤ 255) :
    (s.takeSample t c raw).TankLaws True p := by
  have handled : (GaugeChannel.handled { c with inFlight := none, lastSample := some s.clock } s.gu.attitude raw).score ≤ 255 :=
    score_handled _ _ _ hc
  have published := h.publishChannel t _ handled
  unfold State.takeSample
  dsimp only
  split
  · exact h.setGauge t _ (by simpa using hc)
  · split
    · exact published
    · split
      · exact ((published.hold t).report _ _ _ _).tellGauge _ _
      · exact (published.report _ _ _ _).tellGauge _ _

theorem restartChannel (h : s.TankLaws q p) (t : TankIx) : (s.restartChannel t).TankLaws q p := by
  unfold State.restartChannel
  split
  · exact (((h.setGauge t _ (by simp [GaugeChannel.fresh])).hold t).report _ _ _ _).tellGauge _ _
  · exact h

/-! ### Definition, removal, strapping, readmission -/

theorem defineTank (h : s.TankLaws q p) (t : TankIx) (d : TankDef) : (s.defineTank t d).TankLaws True p := by
  unfold State.defineTank
  refine (((h.updTank t _ fun k => ?_).tellTank _ _ _ _).reMoment).restartChannel t
  split
  · exact TankRecord.entryLaw_of_empty rfl
  · unfold TankRecord.redefine
    dsimp only
    split <;> exact k

theorem removeTank (h : s.TankLaws q p) (t : TankIx) : (s.removeTank t).TankLaws True p :=
  (((h.updTank t _ fun _ => TankRecord.entryLaw_of_empty rfl).setGauge t none (by simp)).tellTank _ _ _ _).reMoment

theorem loadStrap (h : s.TankLaws q p) (t : TankIx) (tb : List StrapPoint) : (s.loadStrap t tb).TankLaws True p :=
  (((h.updTank t _ id).tellTank _ _ _ _).reMoment).restartChannel t

theorem readmit (h : s.TankLaws q p) (t : TankIx) (c : GaugeChannel) : (s.readmit t c).TankLaws True p :=
  (((h.setGauge t (some c.readmitted) (by simp [GaugeChannel.readmitted])).dropPublished t).report _ _ _ _).tellGauge _ _

/-! ### Starts and the load -/

/-- Without a published volume M is 0 (R22). -/
theorem momentOf_noVolume {v : Vector TankRecord 12} (h : ∀ t : TankIx, v[t].volume = none) : momentOf v = 0 := by
  have zero : ∀ x ∈ v.toList.map TankRecord.moment, x = 0 := by
    intro x hx
    obtain ⟨r, hr, rfl⟩ := List.mem_map.mp hx
    obtain ⟨i, hi, rfl⟩ := Vector.mem_iff_getElem.mp (Vector.mem_toList_iff.mp hr)
    have hv : v[i].volume = none := h ⟨i, hi⟩
    unfold TankRecord.moment
    rw [hv]
    split <;> simp_all
  exact List.sum_eq_zero zero

theorem begin (c : ResetCause) (k : Kept) (s : State) : (s.begin c k).TankLaws True p := by
  refine ⟨fun _ => ?_, fun t => ?_, fun t x hx => ?_, fun _ => rfl⟩
  · exact (momentOf_noVolume fun t => by simp [State.begin, TankTable.start, TankRecord.blank]).symm
  · exact TankRecord.entryLaw_of_empty (by simp [State.tank, State.begin, TankTable.start, TankRecord.blank])
  · simp [State.gauge, State.begin, GaugingUnit.start] at hx

theorem load_volume (i : ImageTank) (c : QClass) : (i.load c).volume = none := by
  unfold ImageTank.load
  split <;> rfl

theorem load_entries (i : ImageTank) (c : QClass) : (i.load c).entries = [] := by
  unfold ImageTank.load
  split <;> rfl

/-- The load publishes nothing and makes no entry, so M is 0; it is told so where nothing else is in flight. -/
theorem takeImage (im : Image) (s : State) (hm : p → s.msgs = []) : (s.takeImage im).TankLaws True p := by
  refine ⟨fun _ => ?_, fun t => ?_, fun t x hx => ?_, fun hp => ?_⟩
  · exact (momentOf_noVolume fun t => by simp [State.takeImage, load_volume]).symm
  · exact TankRecord.entryLaw_of_empty (by simp [State.tank, State.takeImage, load_entries])
  · simp only [State.gauge, State.takeImage, Fin.getElem_fin, Vector.tabulate_getElem, Option.map_eq_some_iff] at hx
    obtain ⟨d, -, rfl⟩ := hx
    exact Nat.zero_le _
  · simp [State.toldAtLast, State.takeImage, hm hp, Image.told]

theorem load (s : State) (hm : p → s.msgs = []) : s.load.TankLaws True p := by
  have k : State.TankLaws True p { s.takeImage s.sts.toLoad with
      sts := { (s.takeImage s.sts.toLoad).sts with
        workingFlag := s.sts.toLoad.commissioning, storeValid := s.sts.checksumAgrees } } :=
    (takeImage s.sts.toLoad s hm).of_same rfl rfl rfl rfl
  exact k.grows ((Grows.refl _).changeMode _ _)

/-! ### Delivery -/

/-- A notice is taken: what it says of M is what has been told. -/
theorem take {m : Msg} {rest : List Msg} (h : s.TankLaws q p) (hm : s.msgs = m :: rest) :
    (State.take m { s with msgs := rest }).TankLaws q p := by
  refine grows (b := State.setToldMoment (m.toldMoment s.told.moment) { s with msgs := rest }) ?_ (Grows.take m _)
  refine ⟨h.moment, h.entry, h.score, fun hp => (h.told hp ▸ ?_ : _ = s.tt.moment)⟩
  simp [State.toldAtLast, hm, State.setToldMoment]

theorem deliver (h : s.TankLaws q p) : s.deliver.TankLaws q p :=
  State.deliver_induction (State.TankLaws q p) s h (fun _ _ _ hx hm => hx.take hm)
    fun x hx => hx.grows (Grows.refl x).keepDumpTimers

end State.TankLaws
end Sys2Proof.Machine
end

section
/-!
PROOF. What the answers to the requests keep: the requests of the Actuator Unit, the Intake Router, the Supply Selector, the
Transfer Engine and the Plant Mode Controller grow the state; the others keep the laws of tanks and gauges.
-/
namespace Sys2Proof.Machine

namespace State.Grows

variable {b s : State}

/-- A check that refuses leaves the state as it is; what follows it decides. -/
theorem check {c : Prop} [Decidable c] {st : Status} {a : Answer × State} (h : b.Grows s) (k : b.Grows a.2) :
    b.Grows (if c then refuse st s else a).2 := by
  split
  · exact h
  · exact k

/-- An accepted request leaves the state that its effect makes. -/
theorem accepted (h : b.Grows s) {l : List Byte} : b.Grows (accept l s).2 := h

theorem answerValveSet (h : b.Grows s) (l : List Byte) : b.Grows (answerValveSet l s).2 := by
  refine check h (check h ?_)
  split
  · exact check h (check h (check h (h.hostCommand _ _)))
  · exact h

theorem answerValveReset (h : b.Grows s) (l : List Byte) : b.Grows (answerValveReset l s).2 := by
  refine check h ?_
  split
  · split
    · exact h.resetValve _
    · exact h
  · exact h

theorem answerActuatorSet (h : b.Grows s) (l : List Byte) : b.Grows (answerActuatorSet l s).2 := by
  refine check h (check h (check h ?_))
  split
  · exact h.of_same rfl rfl rfl rfl rfl
  · exact h

theorem answerPumpReset (h : b.Grows s) (l : List Byte) : b.Grows (answerPumpReset l s).2 := by
  refine check h ?_
  split
  · split
    · exact h.resetPump _
    · exact h
  · exact h

theorem answerSourceSet (h : b.Grows s) (l : List Byte) : b.Grows (answerSourceSet l s).2 := by
  refine check h (check h (check h ?_))
  split
  · exact h.setSource _ _
  · exact h

theorem answerSourcePermit (h : b.Grows s) (l : List Byte) : b.Grows (answerSourcePermit l s).2 := by
  refine check h ?_
  split
  · exact h.permitSwitch _ _
  · exact h

theorem answerRuleSet (h : b.Grows s) (l : List Byte) : b.Grows (answerRuleSet l s).2 := by
  refine check h (check h (check h ?_))
  split
  · refine accepted (decideAll ?_)
    exact h.of_same rfl rfl rfl rfl rfl
  · exact h

theorem answerShoreOpen (h : b.Grows s) (l : List Byte) : b.Grows (answerShoreOpen l s).2 :=
  check h (check h (check h (check h h.openShore)))

theorem answerShoreClose (h : b.Grows s) (l : List Byte) : b.Grows (answerShoreClose l s).2 := check h (h.endShore _)

theorem answerProbeCheck (h : b.Grows s) (l : List Byte) : b.Grows (answerProbeCheck l s).2 := by
  refine check h ?_
  split
  · exact h
  · exact check h (h.beginCheck _)

theorem answerOrderSubmit (h : b.Grows s) (l : List Byte) : b.Grows (answerOrderSubmit l s).2 := by
  refine check h (check h (check h (check h (check h ?_))))
  split
  · exact h
  · exact check h (h.submit _ _ _ _)

theorem answerOrderCancel (h : b.Grows s) (l : List Byte) : b.Grows (answerOrderCancel l s).2 := by
  refine check h ?_
  split
  · exact h
  · exact check h (h.cancel _).settle

theorem answerStopAll (h : b.Grows s) (l : List Byte) : b.Grows (answerStopAll l s).2 :=
  check h (foldl (fun _ _ k => k.cancel _) _ h).settle

theorem answerOrderResume (h : b.Grows s) (l : List Byte) : b.Grows (answerOrderResume l s).2 := by
  refine check h (check h ?_)
  split
  · exact h
  · split
    · exact h.resume _
    · exact h

theorem answerOrderRemove (h : b.Grows s) (l : List Byte) : b.Grows (answerOrderRemove l s).2 := by
  refine check h ?_
  split
  · exact h
  · exact check h (h.setTransfer _)

theorem answerChannelSet (h : b.Grows s) (l : List Byte) : b.Grows (answerChannelSet l s).2 := by
  refine check h (check h (check h ?_))
  split
  · exact accepted (h.updChan _ _)
  · exact h

theorem answerChannelOut (h : b.Grows s) (l : List Byte) : b.Grows (answerChannelOut l s).2 := by
  refine check h ?_
  split
  · exact h
  · exact h.takeOut _

theorem answerChannelIn (h : b.Grows s) (l : List Byte) : b.Grows (answerChannelIn l s).2 := by
  refine check h ?_
  split
  · exact h
  · exact check h (check h (h.takeIn _))

theorem answerDutySet (h : b.Grows s) (l : List Byte) : b.Grows (answerDutySet l s).2 := by
  refine check h (check h ?_)
  split
  · exact h
  · exact h.setDuty _

theorem answerSupplyAdvance (h : b.Grows s) (l : List Byte) : b.Grows (answerSupplyAdvance l s).2 := by
  refine check h (check h ?_)
  split
  · exact accepted (h.advance _)
  · exact h

theorem answerModeSet (h : b.Grows s) (l : List Byte) : b.Grows (answerModeSet l s).2 := by
  refine check h (check h ?_)
  split
  · exact h
  · exact check h (check h (check h (h.setMode _)))

theorem answerSupervisionSet (h : b.Grows s) (l : List Byte) : b.Grows (answerSupervisionSet l s).2 := by
  refine check h (check h (check h ?_))
  split
  · exact h
  · exact accepted (h.updMode _)

theorem answerHeartbeat (h : b.Grows s) (l : List Byte) : b.Grows (answerHeartbeat l s).2 := check h h.takeHeartbeat

theorem answerReportEnable (h : b.Grows s) (l : List Byte) : b.Grows (answerReportEnable l s).2 := by
  refine check h ?_
  split
  · exact h
  · exact h.of_same rfl rfl rfl rfl rfl

theorem answerRestart (h : b.Grows s) (l : List Byte) : b.Grows (answerRestart l s).2 :=
  check h (check h (h.of_same rfl rfl rfl rfl rfl))

theorem beginSave (h : b.Grows s) (m : Mode) : b.Grows (s.beginSave m) := h.of_same rfl rfl rfl rfl rfl

theorem answerSettingsSave (h : b.Grows s) (l : List Byte) : b.Grows (answerSettingsSave l s).2 := by
  refine check h (check h ?_)
  split
  · exact h
  · exact h.beginSave _

theorem answerCommissionEnd (h : b.Grows s) (l : List Byte) : b.Grows (answerCommissionEnd l s).2 := by
  refine check h (check h (check h ?_))
  split
  · exact h
  · refine check h (changeMode (beginSave ?_ _) _ _)
    exact h.of_same rfl rfl rfl rfl rfl

end State.Grows

/-! ### The queries -/

theorem answerTankGet_state (l : List Byte) (s : State) : (answerTankGet l s).2 = s := by
  unfold answerTankGet
  repeat' split
  all_goals rfl

theorem answerGaugeGet_state (l : List Byte) (s : State) : (answerGaugeGet l s).2 = s := by
  unfold answerGaugeGet
  repeat' split
  all_goals rfl

theorem answerValveGet_state (l : List Byte) (s : State) : (answerValveGet l s).2 = s := by
  unfold answerValveGet
  repeat' split
  all_goals rfl

theorem answerSourceGet_state (l : List Byte) (s : State) : (answerSourceGet l s).2 = s := by
  unfold answerSourceGet
  repeat' split
  all_goals rfl

theorem answerRuleGet_state (l : List Byte) (s : State) : (answerRuleGet l s).2 = s := by
  unfold answerRuleGet
  repeat' split
  all_goals rfl

theorem answerOrderGet_state (l : List Byte) (s : State) : (answerOrderGet l s).2 = s := by
  unfold answerOrderGet
  repeat' split
  all_goals rfl

theorem answerOrderList_state (l : List Byte) (s : State) : (answerOrderList l s).2 = s := by
  unfold answerOrderList
  split <;> rfl

theorem answerChannelGet_state (l : List Byte) (s : State) : (answerChannelGet l s).2 = s := by
  unfold answerChannelGet
  repeat' split
  all_goals rfl

theorem answerSupplyGet_state (l : List Byte) (s : State) : (answerSupplyGet l s).2 = s := by
  unfold answerSupplyGet
  split <;> rfl

theorem answerStatusGet_state (l : List Byte) (s : State) : (answerStatusGet l s).2 = s := by
  unfold answerStatusGet
  split <;> rfl

/-! ### The requests of the Tank Table and of the Gauging Unit -/

namespace State.TankLaws

variable {p : Prop} {s : State}

/-- A check that refuses leaves the state as it is; what follows it decides. -/
theorem check {c : Prop} [Decidable c] {st : Status} {a : Answer × State} (h : s.TankLaws True p)
    (k : a.2.TankLaws True p) : (if c then refuse st s else a).2.TankLaws True p := by
  split
  · exact h
  · exact k

/-- An accepted request leaves the state that its effect makes. -/
theorem accepted (h : s.TankLaws True p) {l : List Byte} : (accept l s).2.TankLaws True p := h

theorem answerTankDefine (h : s.TankLaws True p) (l : List Byte) : (answerTankDefine l s).2.TankLaws True p := by
  refine check h (check h (check h ?_))
  split
  · exact h.defineTank _ _
  · exact h

theorem answerTankRemove (h : s.TankLaws True p) (l : List Byte) : (answerTankRemove l s).2.TankLaws True p := by
  refine check h (check h (check h ?_))
  split
  · exact check h (h.removeTank _)
  · exact h

theorem answerStrapLoad (h : s.TankLaws True p) (l : List Byte) : (answerStrapLoad l s).2.TankLaws True p := by
  refine check h (check h (check h ?_))
  split
  · exact h
  · split
    · exact h
    · split
      · exact h
      · exact h.loadStrap _ _

theorem answerTankService (h : s.TankLaws True p) (l : List Byte) : (answerTankService l s).2.TankLaws True p := by
  refine check h (check h ?_)
  split
  · refine check h (check h ?_)
    split
    · exact h
    · exact h.setService _ _
  · exact h

theorem answerTankClass (h : s.TankLaws True p) (l : List Byte) : (answerTankClass l s).2.TankLaws True p := by
  refine check h ?_
  split
  · exact check h (h.changeClass _ _)
  · exact h

theorem answerTankLimits (h : s.TankLaws True p) (l : List Byte) : (answerTankLimits l s).2.TankLaws True p := by
  refine check h (check h ?_)
  split
  · refine check h ?_
    split
    · exact h
    · dsimp only
      split
      · exact h.setLimits _ _
      · exact h
  · exact h

theorem answerTankNotice (h : s.TankLaws True p) (l : List Byte) : (answerTankNotice l s).2.TankLaws True p := by
  refine check h ?_
  split
  · exact check h (accepted (h.grows ((Grows.refl s).updTank _ _ rfl id)))
  · exact h

theorem answerBalanceSet (h : s.TankLaws True p) (l : List Byte) : (answerBalanceSet l s).2.TankLaws True p := by
  refine check h (check h ?_)
  split
  · rename_i lim hys _
    have k : State.TankLaws True p { s with tt := { s.tt with mLim := lim, mHys := hys } } :=
      ⟨h.moment, h.entry, h.score, h.told⟩
    exact k.emit .balance fun _ => rfl
  · exact h

theorem answerGaugeReadmit (h : s.TankLaws True p) (l : List Byte) : (answerGaugeReadmit l s).2.TankLaws True p := by
  refine check h ?_
  split
  · exact h
  · split
    · exact h
    · split
      · exact h.readmit _ _
      · exact h

theorem answerFetchReports (h : s.TankLaws True p) (l : List Byte) : (answerFetchReports l s).2.TankLaws True p := by
  refine check h ?_
  split
  · exact h
  · exact h.of_same rfl rfl rfl rfl

/-- Whatever the owner of a request does, it keeps the laws. -/
theorem handler {kind : Byte} {f : Handler} (hf : handlerOf kind = some f) (h : s.TankLaws True p) (l : List Byte) :
    (f l s).2.TankLaws True p := by
  have g := Grows.refl s
  unfold handlerOf at hf
  split at hf <;> cases hf
  · exact h.answerTankDefine l
  · exact h.answerTankRemove l
  · exact h.answerStrapLoad l
  · exact h.answerTankService l
  · exact h.answerTankClass l
  · exact h.answerTankLimits l
  · exact h.answerTankNotice l
  · exact h.answerBalanceSet l
  · exact (answerTankGet_state l s).symm ▸ h
  · exact h.answerGaugeReadmit l
  · exact (answerGaugeGet_state l s).symm ▸ h
  · exact h.grows (g.answerValveSet l)
  · exact h.grows (g.answerValveReset l)
  · exact (answerValveGet_state l s).symm ▸ h
  · exact h.grows (g.answerActuatorSet l)
  · exact h.grows (g.answerPumpReset l)
  · exact h.grows (g.answerSourceSet l)
  · exact h.grows (g.answerSourcePermit l)
  · exact (answerSourceGet_state l s).symm ▸ h
  · exact h.grows (g.answerRuleSet l)
  · exact (answerRuleGet_state l s).symm ▸ h
  · exact h.grows (g.answerShoreOpen l)
  · exact h.grows (g.answerShoreClose l)
  · exact h.grows (g.answerProbeCheck l)
  · exact h.grows (g.answerOrderSubmit l)
  · exact h.grows (g.answerOrderCancel l)
  · exact h.grows (g.answerStopAll l)
  · exact h.grows (g.answerOrderResume l)
  · exact h.grows (g.answerOrderRemove l)
  · exact (answerOrderGet_state l s).symm ▸ h
  · exact (answerOrderList_state l s).symm ▸ h
  · exact h.grows (g.answerChannelSet l)
  · exact h.grows (g.answerChannelOut l)
  · exact h.grows (g.answerChannelIn l)
  · exact (answerChannelGet_state l s).symm ▸ h
  · exact h.grows (g.answerDutySet l)
  · exact h.grows (g.answerSupplyAdvance l)
  · exact (answerSupplyGet_state l s).symm ▸ h
  · exact h.grows (g.answerModeSet l)
  · exact h.grows (g.answerSupervisionSet l)
  · exact h.grows (g.answerHeartbeat l)
  · exact (answerStatusGet_state l s).symm ▸ h
  · exact h.answerFetchReports l
  · exact h.grows (g.answerReportEnable l)
  · exact h.grows (g.answerRestart l)
  · exact h.grows (g.answerSettingsSave l)
  · exact h.grows (g.answerCommissionEnd l)

theorem answer (h : s.TankLaws True p) (r : Request) : (s.answer r).2.TankLaws True p := by
  unfold State.answer
  split
  · exact h
  · exact check h (h.handler ‹_› _)

end State.TankLaws
end Sys2Proof.Machine
end

section
/-!
PROOF. Every command, and so every step, keeps the laws of tanks and gauges (O53).
-/
namespace Sys2Proof.Machine

/-- Every host request is the arrival of its frame (R173 to R175). -/
theorem exec_request {c : Sys2Proof.Instr} {r : Request} (h : c.request = some r) (s : State) :
    exec c s = .next (s.frame r) := by
  cases c <;> cases h <;> rfl

namespace State.TankLaws

variable {p : Prop} {s u : State}

/-! ### The control link -/

theorem serve (h : s.TankLaws True p) (r : Request) : (s.serve r).TankLaws True p := by
  have k : State.TankLaws True p { s with lu := { s.lu with intake := s.lu.intake ++ [r] } } := h.of_same rfl rfl rfl rfl
  exact (k.answer r).of_same rfl rfl rfl rfl

theorem receive (h : s.TankLaws True p) (r : Request) : (s.receive r).TankLaws True p := by
  unfold State.receive
  split
  · exact h
  · split
    · exact h.serve r
    · split
      · exact h.of_same rfl rfl rfl rfl
      · exact h

theorem setFramer (h : s.TankLaws True p) (f : Framer) : (s.setFramer f).TankLaws True p := h.of_same rfl rfl rfl rfl

theorem bytesIn (h : s.TankLaws True p) (bs : List Byte) : (s.bytesIn bs).TankLaws True p :=
  foldl (fun _ r k => (k.receive r).deliver) _ (h.setFramer _)

theorem sent (h : s.TankLaws True p) : s.sent.TankLaws True p := by
  unfold State.sent
  split
  · exact h
  · exact h.of_same rfl rfl rfl rfl

/-- An event happens to a part that runs, and its notices are delivered; nothing happens to any other. -/
theorem react {f : State → State} (h : s.TankLaws True p) (hf : (f s).TankLaws True p) : (s.react f).TankLaws True p := by
  unfold State.react
  split
  · exact hf.deliver
  · exact h

theorem frame (h : s.TankLaws True p) (r : Request) : (s.frame r).TankLaws True p :=
  h.react ((h.setFramer _).receive r)

/-! ### The gauges and the inclinometer -/

theorem gauge_score (h : s.TankLaws True p) {t : TankIx} {c : GaugeChannel} (hc : s.gauge t = some c) : c.score ≤ 255 :=
  h.score t c hc

theorem sampleRequest (h : s.TankLaws True p) {t : TankIx} (hu : execSampleRequest t s = .next u) :
    u.TankLaws True p := by
  cases hu
  refine h.react ?_
  split
  · rename_i c hc
    split
    · exact h
    · exact h.setGauge t _ (by simpa using h.gauge_score hc)
  · exact h

theorem sampleAnswer (h : s.TankLaws True p) {t : TankIx} {a : Sys2Proof.ConverterAnswer}
    (hu : execSampleAnswer t a s = .next u) : u.TankLaws True p := by
  cases hu
  refine h.react ?_
  split
  · rename_i c hc
    split
    · split
      · exact h.takeSample t c _ (h.gauge_score hc)
      · exact h
    · exact h
  · exact h

theorem sampleTimeout (h : s.TankLaws True p) {t : TankIx} (hu : execSampleTimeout t s = .next u) :
    u.TankLaws True p := by
  cases hu
  refine h.react ?_
  split
  · rename_i c hc
    split
    · exact h.takeSample t c _ (h.gauge_score hc)
    · exact h
  · exact h

theorem attitudeSample (h : s.TankLaws True p) {list trim : BitVec 16} (hu : execAttitudeSample list trim s = .next u) :
    u.TankLaws True p := by
  cases hu
  refine h.react ?_
  dsimp only
  split
  · exact h.of_same rfl rfl rfl rfl
  · refine report ?_ _ _ _ _
    exact h.of_same rfl rfl rfl rfl

theorem attitudeStale (h : s.TankLaws True p) (hu : execAttitudeStale s = .next u) : u.TankLaws True p := by
  cases hu
  refine h.react ?_
  split
  · refine report ?_ _ _ _ _
    exact h.of_same rfl rfl rfl rfl
  · exact h

/-! ### Field inputs and timers -/

theorem setPins (h : s.TankLaws True p) (x : Pins) : State.TankLaws True p { s with pins := x } := h.of_same rfl rfl rfl rfl

theorem valveFeedback (h : s.TankLaws True p) {v : Valve} {a b : Bool} (hu : execValveFeedback v a b s = .next u) :
    u.TankLaws True p := by
  cases hu
  refine (h.setPins _).react ?_
  split
  · exact h.setPins _
  · exact (h.setPins _).grows ((Grows.refl _).feedback _ _)

theorem travelTimeout (h : s.TankLaws True p) {v : Valve} (hu : execTravelTimeout v s = .next u) : u.TankLaws True p := by
  cases hu
  refine h.react ?_
  dsimp only
  split
  · exact h.grows ((Grows.refl s).valveFault _ _)
  · exact h

theorem pumpFeedback (h : s.TankLaws True p) {c : Channel} {b : Bool} (hu : execPumpFeedback c b s = .next u) :
    u.TankLaws True p := by
  cases hu
  refine (h.setPins _).react ?_
  split
  · exact h.setPins _
  · exact (h.setPins _).grows ((Grows.refl _).pumpFeedback _ _)

theorem startTimeout (h : s.TankLaws True p) {c : Channel} (hu : execStartTimeout c s = .next u) : u.TankLaws True p := by
  cases hu
  refine h.react ?_
  split
  · exact h.grows ((Grows.refl s).pumpFault _ _)
  · exact h

theorem stopTimeout (h : s.TankLaws True p) {c : Channel} (hu : execStopTimeout c s = .next u) : u.TankLaws True p := by
  cases hu
  refine h.react ?_
  split
  · exact h.grows ((Grows.refl s).pumpFault _ _)
  · exact h

theorem conductivitySample (h : s.TankLaws True p) {x : Source} {v : Nat} (hu : execConductivitySample x v s = .next u) :
    u.TankLaws True p := by
  cases hu
  refine h.react ?_
  split
  · exact h
  · exact h.grows ((Grows.refl s).conductivity _ _)

theorem runSignal (h : s.TankLaws True p) {w : Watermaker} {b : Bool} (hu : execRunSignal w b s = .next u) :
    u.TankLaws True p := by
  cases hu
  refine (h.setPins _).react ?_
  split
  · exact h.setPins _
  · split
    · exact (h.setPins _).grows ((Grows.refl _).makerRise _)
    · exact (h.setPins _).grows ((Grows.refl _).makerFall _)

theorem probeCheckEnd (h : s.TankLaws True p) {x : Source} (hu : execProbeCheckEnd x s = .next u) : u.TankLaws True p := by
  cases hu
  refine h.react ?_
  split
  · exact h.grows ((Grows.refl s).endCheck _)
  · exact h

/-! ### Power and store -/

theorem stopPart (h : s.TankLaws True p) (x : Power) : (s.stopPart x).TankLaws True p := h.of_same rfl rfl rfl rfl

theorem powerUp (hu : execPowerUp s = .next u) : u.TankLaws True p := by
  cases hu
  split
  · exact begin _ _ _
  · exact (begin _ _ _).stopPart _

theorem resetnHeld (h : s.TankLaws True p) (hu : execResetnHeld s = .next u) : u.TankLaws True p := by
  cases hu
  split
  · exact h.setPins _
  · exact (h.setPins _).stopPart _

theorem resetLine (h : s.TankLaws True p) (hu : execResetLine s = .next u) : u.TankLaws True p := by
  cases hu
  split
  · exact h.setPins _
  · exact begin _ _ _

theorem restartRequest (h : s.TankLaws True p) (hu : execRestartRequest s = .next u) : u.TankLaws True p := by
  cases hu
  split
  · exact begin _ _ _
  · exact h

theorem loadEnd (h : s.TankLaws True p) (hm : p → s.msgs = []) (hu : execLoadEnd s = .next u) : u.TankLaws True p := by
  cases hu
  refine h.react ?_
  split
  · exact load s hm
  · exact h

theorem saveEnd (h : s.TankLaws True p) (hu : execSaveEnd s = .next u) : u.TankLaws True p := by
  cases hu
  refine h.react ?_
  unfold State.endSave
  split
  · refine report ?_ _ _ _ _
    exact h.of_same rfl rfl rfl rfl
  · exact h

/-! ### Every command, every step -/

/-- Every command keeps the laws, and what has been told of M where nothing is in flight before it. -/
theorem exec (h : s.TankLaws True p) (hm : p → s.msgs = []) {i : Sys2Proof.Instr} (hu : exec i s = .next u) :
    u.TankLaws True p := by
  have g := Grows.refl s
  cases hr : i.request with
  | some r =>
    rw [exec_request hr] at hu
    cases hu
    exact h.frame r
  | none =>
    cases i with
    | frameDiscarded bs => cases hu; exact h.react (h.bytesIn _)
    | receiveGap bs b => cases hu; exact h.react (((h.bytesIn _).setFramer _).bytesIn _)
    | framingError bs => cases hu; exact h.react ((h.bytesIn _).setFramer _)
    | rxdBreak bs => cases hu; exact h.react ((h.bytesIn _).setFramer _)
    | replySent => cases hu; exact h.react h.sent
    | powerUp => exact powerUp hu
    | resetnHeld => exact h.resetnHeld hu
    | resetLine => exact h.resetLine hu
    | restartRequest => exact h.restartRequest hu
    | loadEnd => exact h.loadEnd hm hu
    | saveEnd => exact h.saveEnd hu
    | sampleRequest t => exact h.sampleRequest hu
    | sampleAnswer t a => exact h.sampleAnswer hu
    | sampleTimeout t => exact h.sampleTimeout hu
    | attitudeSample l t => exact h.attitudeSample hu
    | attitudeStale => exact h.attitudeStale hu
    | valveFeedback v a b => exact h.valveFeedback hu
    | travelTimeout v => exact h.travelTimeout hu
    | pumpFeedback c b => exact h.pumpFeedback hu
    | startTimeout c => exact h.startTimeout hu
    | stopTimeout c => exact h.stopTimeout hu
    | conductivitySample x v => exact h.conductivitySample hu
    | runSignal w b => exact h.runSignal hu
    | flushEnd w => cases hu; exact h.react (h.grows (g.endFlush w))
    | dumpLimit w => cases hu; exact h.react (h.grows (g.dumpExpired w))
    | sourcePulse x => cases hu; exact h.react (h.grows (g.sourcePulse x))
    | probeCheckEnd x => exact h.probeCheckEnd hu
    | channelPulse c => cases hu; exact h.react (h.grows (g.channelPulse c))
    | noFlow c => cases hu; exact h.react (h.grows (g.flowLost c))
    | wakeLimit => cases hu; exact h.react (h.grows g.wakeLimitExpires)
    | falseWake => cases hu; exact h.react (h.grows g.confirmExpires)
    | supervisionExpiry => cases hu; exact h.react (h.grows g.supervisionExpires)
    | powerLoss => cases hu; exact h.stopPart _
    | _ => cases hr

theorem idle (h : s.TankLaws True p) (hm : p → s.msgs = []) (hu : s.idle = .next u) : u.TankLaws True p := by
  unfold State.idle at hu
  split at hu
  · split at hu
    · exact h.exec hm hu
    · cases hu
      exact h.of_same rfl rfl rfl rfl
  · cases hu
    exact h

theorem step (h : s.TankLaws True p) (hm : p → s.msgs = []) (hu : step s = .next u) : u.TankLaws True p := by
  unfold Machine.step at hu
  split at hu
  · rename_i c rest _
    have k : State.TankLaws True p { s with pending := rest } := h.of_same rfl rfl rfl rfl
    exact k.exec hm hu
  · exact h.idle hm hu

end State.TankLaws
end Sys2Proof.Machine
end

section
open Sys2Proof Sys2Proof.Machine

/-- Settles O53: `State.TankLaws` holds before the step and every command keeps it. The M that has been told is that of the
notices in flight, of which there are none before and after. -/
theorem stepsKeepTheTankLaws : Obligations.StepsKeepTheTankLaws := by
  intro s u hmoment hentry hscore hstep
  have h : s.TankLaws True (s.msgs = [] ∧ s.told.moment = s.tt.moment) :=
    ⟨fun _ => hmoment, hentry, hscore, fun ⟨hm, ht⟩ => by simpa [State.toldAtLast, hm] using ht⟩
  have k := h.step And.left hstep
  refine ⟨⟨k.moment trivial, k.entry, k.score⟩, fun hm ht hum => ?_⟩
  simpa [State.toldAtLast, hum] using k.told ⟨hm, ht⟩
end

section
/-!
PROOF. The fields of payloads (R184, R185, R187): a field is read where it has been written. A reader that looks at a place
reads the front of what stands from there on, so the fields before it are passed over (`drop_u8` and the others), and the field
is read at the front.
-/
namespace Sys2Proof.Machine

/-! ### The place of a field -/

theorem drop_u8 (n i : Nat) (p : List Byte) : (u8 n ++ p).drop (i + 1) = p.drop i := rfl

theorem drop_u16 (n i : Nat) (p : List Byte) : (u16 n ++ p).drop (i + 2) = p.drop i := rfl

theorem drop_i16 (z : Int) (i : Nat) (p : List Byte) : (i16 z ++ p).drop (i + 2) = p.drop i := rfl

theorem drop_u32 (n i : Nat) (p : List Byte) : (u32 n ++ p).drop (i + 4) = p.drop i := rfl

theorem drop_mark (b : Bool) (i : Nat) (p : List Byte) : (mark b ++ p).drop (i + 1) = p.drop i := rfl

theorem drop_setBits (bs : List Bool) (i : Nat) (p : List Byte) : (setBits bs ++ p).drop (i + 1) = p.drop i := rfl

theorem drop_tankByte (t : TankIx) (i : Nat) (p : List Byte) : (tankByte t ++ p).drop (i + 1) = p.drop i := rfl

theorem byteAt_drop (p : List Byte) (i j : Nat) : byteAt (p.drop i) j = byteAt p (i + j) := by
  simp [byteAt, List.getD_eq_getElem?_getD]

theorem byteAt_place (p : List Byte) (i : Nat) : byteAt p (i + 1) = byteAt (p.drop (i + 1)) 0 := by
  rw [byteAt_drop, Nat.add_zero]

theorem u16At_drop (p : List Byte) (i j : Nat) : u16At (p.drop i) j = u16At p (i + j) := by
  simp only [u16At, byteAt_drop, Nat.add_assoc]

theorem u32At_drop (p : List Byte) (i j : Nat) : u32At (p.drop i) j = u32At p (i + j) := by
  simp only [u32At, u16At_drop, Nat.add_assoc]

theorem markAt_drop (p : List Byte) (i j : Nat) : markAt (p.drop i) j = markAt p (i + j) := by
  simp only [markAt, byteAt_drop]

theorem u16At_place (p : List Byte) (i : Nat) : u16At p (i + 1) = u16At (p.drop (i + 1)) 0 := by
  rw [u16At_drop, Nat.add_zero]

theorem u32At_place (p : List Byte) (i : Nat) : u32At p (i + 1) = u32At (p.drop (i + 1)) 0 := by
  rw [u32At_drop, Nat.add_zero]

theorem i16At_place (p : List Byte) (i : Nat) : i16At p (i + 1) = i16At (p.drop (i + 1)) 0 := by
  rw [i16At, u16At_place, i16At]

theorem markAt_place (p : List Byte) (i : Nat) : markAt p (i + 1) = markAt (p.drop (i + 1)) 0 := by
  rw [markAt_drop, Nat.add_zero]

theorem permsAt_place (p : List Byte) (i : Nat) : permsAt p (i + 1) = permsAt (p.drop (i + 1)) 0 := by
  rw [permsAt, byteAt_place, permsAt]

/-- The elements of a list whose elements have one size, from one on. -/
theorem drop_flatMap {α : Type} {f : α → List Byte} {k : Nat} (hf : ∀ x, (f x).length = k) (l : List α) (i : Nat) :
    (l.flatMap f).drop (k * i) = (l.drop i).flatMap f := by
  induction l generalizing i with
  | nil => simp
  | cons x l ih =>
    cases i with
    | zero => simp
    | succ i => rw [List.drop_succ_cons, ← ih, List.flatMap_cons, Nat.mul_succ, Nat.add_comm, ← List.drop_drop,
        List.drop_left' (hf x)]

theorem length_flatMap {α : Type} {f : α → List Byte} {k : Nat} (hf : ∀ x, (f x).length = k) (l : List α) :
    (l.flatMap f).length = k * l.length := by
  simp [List.length_flatMap, hf, Nat.mul_comm]

/-! ### The value of a field -/

theorem byteAt_front {n : Nat} (h : n < 256) (p : List Byte) : byteAt (u8 n ++ p) 0 = n := by
  rw [byteAt_u8, Nat.mod_eq_of_lt h]

theorem u16At_front {n : Nat} (h : n < 65536) (p : List Byte) : u16At (u16 n ++ p) 0 = n := by
  rw [u16At_u16, Nat.mod_eq_of_lt h]

theorem u32At_front {n : Nat} (h : n < 4294967296) (p : List Byte) : u32At (u32 n ++ p) 0 = n := by
  rw [u32At_u32, Nat.mod_eq_of_lt h]

/-- Two's complement keeps every number of its range. -/
theorem i16At_front {z : Int} (h : -32768 ≤ z ∧ z < 32768) (p : List Byte) : i16At (i16 z ++ p) 0 = z := by
  rw [i16At, i16, u16At_front (BitVec.isLt _), BitVec.ofNat_toNat, BitVec.setWidth_eq]
  exact BitVec.toInt_ofInt_eq_self (by decide) h.1 h.2

theorem markAt_front (b : Bool) (p : List Byte) : markAt (mark b ++ p) 0 = some b := by
  cases b <;> rfl

/-- The number whose bits are the marks of a set's members (R187). -/
def setNumber (bs : List Bool) : Nat := bs.foldr (fun b n => (if b then 1 else 0) + 2 * n) 0

theorem setNumber_lt (bs : List Bool) : setNumber bs < 2 ^ bs.length := by
  induction bs with
  | nil => decide
  | cons b bs ih =>
    simp only [setNumber, List.foldr_cons, List.length_cons, Nat.pow_succ] at ih ⊢
    split <;> omega

/-- Bit i of the set's number is the mark of its i-th member. -/
theorem bitOf_setNumber (bs : List Bool) (i : Nat) : bitOf (setNumber bs) i = bs.getD i false := by
  induction bs generalizing i with
  | nil => simp [setNumber, bitOf]
  | cons b bs ih =>
    cases i with
    | zero =>
      cases b <;> simp [bitOf, setNumber, Nat.add_mul_mod_self_left]
    | succ i =>
      have half : setNumber (b :: bs) / 2 = setNumber bs := by
        simp only [setNumber, List.foldr_cons]
        split <;> omega
      have k := ih i
      rw [bitOf] at k
      rw [bitOf, Nat.pow_succ', ← Nat.div_div_eq_div_mul, half, k, List.getD_cons_succ]

theorem byteAt_setBits {bs : List Bool} (h : bs.length ≤ 8) (p : List Byte) :
    byteAt (setBits bs ++ p) 0 = setNumber bs :=
  byteAt_front ((setNumber_lt bs).trans_le (Nat.pow_le_pow_right (by decide) h)) p

theorem permsAt_front (q : Perms) (p : List Byte) : permsAt (q.bytes ++ p) 0 = some q := by
  have hlt : setNumber [q.intake, q.transferFrom, q.transferTo, q.supply] < 16 := setNumber_lt _
  unfold permsAt Perms.bytes
  simp only [byteAt_setBits (bs := [q.intake, q.transferFrom, q.transferTo, q.supply]) (by simp),
    if_pos hlt, bitOf_setNumber, List.getD_cons_zero, List.getD_cons_succ]

theorem tankOfCode_tankCode (t : TankIx) : tankOfCode (tankCode t) = some t := by
  have h := t.isLt
  simp [tankOfCode, tankCode]

theorem tankCode_lt (t : TankIx) : tankCode t < 256 := by
  have h := t.isLt
  simp only [tankCode]
  omega

theorem tankAt_tankByte (t : TankIx) (p : List Byte) : tankAt (tankByte t ++ p) 0 = some t := by
  rw [tankAt, tankByte, byteAt_front (tankCode_lt t), tankOfCode_tankCode]

theorem readTanks_flatMap (l : List TankIx) : readTanks (l.flatMap tankByte) = some l := by
  induction l with
  | nil => rfl
  | cons t l ih =>
    have ht : (BitVec.ofNat 8 (tankCode t)).toNat = tankCode t := by
      rw [BitVec.toNat_ofNat, Nat.mod_eq_of_lt (tankCode_lt t)]
    simp [tankByte, u8, readTanks, tankOfCode_tankCode, ht] at ih ⊢
    simp [ih]

/-! ### Values of a range -/

theorem natIn_of_mem {lo hi n : Nat} (h1 : lo ≤ n) (h2 : n ≤ hi) : natIn lo hi n = some n := if_pos ⟨h1, h2⟩

theorem intIn_of_mem {lo hi z : Int} (h1 : lo ≤ z) (h2 : z ≤ hi) : intIn lo hi z = some z := if_pos ⟨h1, h2⟩

theorem lengthIn_of_mem {lo hi n : Nat} (h1 : lo ≤ n) (h2 : n ≤ hi) : lengthIn lo hi (n : Int) = some n := by
  simp [lengthIn, h1, h2]

theorem QClass.ofCode_code (c : QClass) : QClass.ofCode c.code = some c := by cases c <;> rfl

theorem Source.ofCode_code (x : Source) : Source.ofCode x.code = some x := by cases x <;> rfl

theorem Channel.ofCode_code (c : Channel) : Channel.ofCode c.code = some c := by cases c <;> rfl

theorem SupKind.ofCode_code (k : SupKind) : SupKind.ofCode k.code = some k := by cases k <;> rfl

theorem Policy.ofCode_code (x : Policy) : Policy.ofCode x.code = some x := by cases x <;> rfl

theorem EndCondition.ofCode_code (x : EndCondition) : EndCondition.ofCode x.code = some x := by cases x <;> rfl

theorem Dest.ofCode_code (d : Dest) : Dest.ofCode d.code = some d := by
  cases d with
  | tank t =>
    have h : tankCode t ≠ 255 := by
      have := t.isLt
      simp only [tankCode]
      omega
    simp [Dest.ofCode, Dest.code, h, tankOfCode_tankCode]
  | overboard => rfl

theorem Dest.code_lt (d : Dest) : d.code < 256 := by
  cases d with
  | tank t => exact tankCode_lt t
  | overboard => decide

end Sys2Proof.Machine
end

section
/-!
PROOF. The payloads of the requests that carry a structure, read back field by field (O10).
-/
namespace Sys2Proof.Machine

/-! ### Definitions, limits, enables, settings -/

theorem TankDef.bytes_length (d : TankDef) : d.bytes.length = 20 := rfl

theorem readDefinition_bytes (t : TankIx) {d : TankDef} (h : d.lawful) : readDefinition (tankByte t ++ d.bytes) = some d := by
  obtain ⟨hh, hh', hr, ha, ha', hs, hs', hz, hz', hl, hl', hw, hx, hx', hy, hy'⟩ := h
  have windowOk : windowLengthOk d.windowLength = some d.windowLength := by
    simp only [List.mem_cons, List.not_mem_nil, or_false] at hw
    exact if_pos hw
  have window : d.windowLength < 256 := by
    simp only [List.mem_cons, List.not_mem_nil, or_false] at hw
    omega
  have fields : tankByte t ++ d.bytes = tankByte t ++ (i16 d.height ++ (u32 d.residual ++ (i16 d.arm ++ (d.perms.bytes ++
      (i16 d.span ++ (i16 d.zeroOffset ++ (i16 d.stepLimit ++ (u8 d.windowLength ++ (i16 d.dx ++ (i16 d.dy ++ [])))))))))) := by
    simp [TankDef.bytes]
  rw [fields]
  have drop_perms (i : Nat) (p : List Byte) : (d.perms.bytes ++ p).drop (i + 1) = p.drop i := rfl
  simp (disch := omega) only [readDefinition, i16At_place, u32At_place, permsAt_place, byteAt_place, drop_tankByte, drop_i16,
    drop_u32, drop_u8, drop_perms, List.drop_zero, i16At_front, u32At_front, byteAt_front, permsAt_front, lengthIn_of_mem,
    natIn_of_mem, intIn_of_mem, windowOk, Option.bind_eq_bind, Option.bind_some, Option.pure_def]

theorem readLimits_bytes (t : TankIx) {m : Limits} (h1 : m.ll ≤ 99999) (h2 : m.l ≤ 99999) (h3 : m.h ≤ 99999)
    (h4 : m.hh ≤ 99999) (h5 : m.hysteresis ≤ 99999) : readLimits (tankByte t ++ m.bytes) = some m := by
  have fields : tankByte t ++ m.bytes =
      tankByte t ++ (u32 m.ll ++ (u32 m.l ++ (u32 m.h ++ (u32 m.hh ++ (u32 m.hysteresis ++ []))))) := by
    simp [Limits.bytes]
  rw [fields]
  simp (disch := omega) only [readLimits, u32At_place, drop_tankByte, drop_u32, List.drop_zero, u32At_front, natIn_of_mem,
    Option.bind_eq_bind, Option.bind_some, Option.pure_def]

theorem thEnablesAt_bytes (e : ThEnables) {p q : List Byte} {i : Nat} (h : p.drop (i + 1) = e.bytes ++ q) :
    thEnablesAt p (i + 1) = some e := by
  have first : markAt p (i + 1) = some e.rising := by
    rw [markAt_place, h]
    exact markAt_front _ _
  have second : markAt p (i + 1 + 1) = some e.falling := by
    rw [← markAt_drop, h]
    exact markAt_front e.falling (mark e.wake ++ q)
  have third : markAt p (i + 1 + 2) = some e.wake := by
    rw [← markAt_drop, h]
    exact markAt_front e.wake q
  simp only [thEnablesAt, first, second, third, Option.bind_eq_bind, Option.bind_some, Option.pure_def]

theorem readNotices_bytes (t : TankIx) (n : NoticeEnables) : readNotices (tankByte t ++ n.bytes) = some n := by
  have ll : thEnablesAt (tankByte t ++ n.bytes) 1 = some n.ll := thEnablesAt_bytes n.ll (i := 0) (q := _) rfl
  have l : thEnablesAt (tankByte t ++ n.bytes) 4 = some n.l := thEnablesAt_bytes n.l (i := 3) (q := _) rfl
  have h : thEnablesAt (tankByte t ++ n.bytes) 7 = some n.h := thEnablesAt_bytes n.h (i := 6) (q := _) rfl
  have hh : thEnablesAt (tankByte t ++ n.bytes) 10 = some n.hh :=
    thEnablesAt_bytes n.hh (i := 9) (q := []) rfl
  simp only [readNotices, ll, l, h, hh, Option.bind_eq_bind, Option.bind_some, Option.pure_def]

theorem readSourceSettings_bytes (x : Source) {v : SourceSettings} (h : v.lawful) :
    readSourceSettings (u8 x.code ++ v.bytes) = some v := by
  obtain ⟨hg, hg', hgf, hf, hi, hi', ht, ht', hd, hm, hm', hr, hp⟩ := h
  have dump : (if v.dumpLimit = 0 then some 0 else some v.dumpLimit) = some v.dumpLimit := by
    split
    · next hz => rw [hz]
    · rfl
  have fields : u8 x.code ++ v.bytes = u8 x.code ++ (u16 v.goodLimit ++ (u16 v.fairLimit ++ (u8 v.improvement ++
      (u16 v.flushTime ++ (u16 v.dumpLimit ++ (u16 v.meterFactor ++ (u16 v.probeReference ++
        (u16 v.probeTolerance ++ [])))))))) := by
    simp [SourceSettings.bytes]
  rw [fields]
  simp (disch := omega) only [readSourceSettings, u16At_place, byteAt_place, drop_u8, drop_u16, List.drop_zero, u16At_front,
    byteAt_front, natIn_of_mem, Option.bind_eq_bind, Option.bind_some, Option.pure_def]
  rw [dump, Option.bind_some]

theorem readEnables_bytes (e : ReportEnables) : readEnables e.bytes = some e := by
  have fields : e.bytes = mark e.level ++ (mark e.gauge ++ (mark e.tank ++ (mark e.order ++ (mark e.channel ++
      (mark e.intake ++ (mark e.probe ++ (mark e.supply ++ (mark e.actuator ++ (mark e.plant ++ []))))))))) := by
    simp [ReportEnables.bytes]
  rw [fields]
  simp only [readEnables, markAt_place, drop_mark, List.drop_zero, markAt_front, Option.bind_eq_bind, Option.bind_some,
    Option.pure_def]

/-! ### Strapping tables -/

/-- The levels and volumes of a lawful table end with its last point (R9). -/
theorem strap_le_last {tb : List StrapPoint}
    (h : tb.Pairwise fun p q => p.level < q.level ∧ p.volume ≤ q.volume) {x : StrapPoint} (hx : x ∈ tb) :
    x.level ≤ lastLevel tb ∧ x.volume ≤ fullVolume tb := by
  obtain ⟨init, last, rfl⟩ := List.eq_nil_or_concat tb |>.resolve_left (List.ne_nil_of_mem hx)
  rw [List.concat_eq_append] at h hx ⊢
  obtain ⟨-, -, hall⟩ := List.pairwise_append.mp h
  simp only [lastLevel, fullVolume, List.getLast?_append, List.getLast?_singleton, Option.some_or, Option.map_some,
    Option.getD_some]
  rcases List.mem_append.mp hx with hx | hx
  · obtain ⟨hl, hv⟩ := hall x hx last (List.mem_singleton_self last)
    exact ⟨hl.le, hv⟩
  · obtain rfl := List.mem_singleton.mp hx
    exact ⟨le_refl _, le_refl _⟩

theorem StrapPoint.bytes_length (x : StrapPoint) : x.bytes.length = 6 := rfl

/-- The points of a table as its payload carries them. -/
theorem rawPoints_strap (t : TankIx) {tb : List StrapPoint} (h : ∀ x ∈ tb, x.level < 32768 ∧ x.volume < 4294967296) :
    rawPoints (tankByte t ++ listField StrapPoint.bytes tb) tb.length = tb.map fun x => ((x.level : Int), x.volume) := by
  refine List.ext_getElem (by simp [rawPoints]) fun i hi hi' => ?_
  simp only [rawPoints, List.length_map, List.length_range] at hi
  obtain ⟨hl, hv⟩ := h _ (List.getElem_mem hi)
  have place : (tankByte t ++ listField StrapPoint.bytes tb).drop (2 + 6 * i) =
      i16 tb[i].level ++ (u32 tb[i].volume ++ (tb.drop (i + 1)).flatMap StrapPoint.bytes) := by
    rw [← List.drop_drop]
    have inner : (tankByte t ++ listField StrapPoint.bytes tb).drop 2 = tb.flatMap StrapPoint.bytes := rfl
    rw [inner, drop_flatMap StrapPoint.bytes_length, List.drop_eq_getElem_cons hi, List.flatMap_cons]
    simp [StrapPoint.bytes]
  have level : i16At (tankByte t ++ listField StrapPoint.bytes tb) (2 + 6 * i) = tb[i].level := by
    rw [Nat.add_comm 2, i16At_place, Nat.add_comm _ (1 + 1), place]
    exact i16At_front (by omega) _
  have volume : u32At (tankByte t ++ listField StrapPoint.bytes tb) (4 + 6 * i) = tb[i].volume := by
    rw [show 4 + 6 * i = 2 + 6 * i + 2 by omega, ← u32At_drop, place]
    exact u32At_front hv ((tb.drop (i + 1)).flatMap StrapPoint.bytes)
  simp [rawPoints, level, volume]

theorem pointsRise_map {tb : List StrapPoint} (h : tb.Pairwise fun p q => p.level < q.level ∧ p.volume ≤ q.volume) :
    pointsRise (tb.map fun x => ((x.level : Int), x.volume)) = true := by
  induction tb with
  | nil => rfl
  | cons x tb ih =>
    obtain ⟨hx, htb⟩ := List.pairwise_cons.mp h
    cases tb with
    | nil => rfl
    | cons y tb =>
      have k := ih htb
      have hxy := hx y List.mem_cons_self
      simp only [List.map_cons, pointsRise, Bool.and_eq_true, decide_eq_true_eq] at k ⊢
      exact ⟨⟨by omega, hxy.2⟩, k⟩

theorem byteAt_listField {α : Type} {f : α → List Byte} {l : List α} (t : TankIx) (h : l.length < 256) :
    byteAt (tankByte t ++ listField f l) 1 = l.length := by
  rw [byteAt_place, drop_tankByte]
  exact byteAt_front h _

theorem readStrap_strap (t : TankIx) {height : Nat} {tb : List StrapPoint} (hh : height ≤ 8000)
    (h : strapLawful height tb) : readStrap height (tankByte t ++ listField StrapPoint.bytes tb) = some tb := by
  obtain ⟨hlen, hlen', hfirst, hrise, hlast, hfull, hfull'⟩ := h
  have bounds : ∀ x ∈ tb, x.level < 32768 ∧ x.volume < 4294967296 := by
    intro x hx
    obtain ⟨hl, hv⟩ := strap_le_last hrise hx
    omega
  have raw := rawPoints_strap t bounds
  obtain ⟨first, hf⟩ := Option.map_eq_some_iff.mp hfirst
  have hne : tb ≠ [] := List.ne_nil_of_length_pos (by omega)
  have hl := List.getLast?_eq_some_getLast hne
  simp only [lastLevel, fullVolume, hl, Option.map_some, Option.getD_some] at hlast hfull hfull'
  unfold readStrap
  simp only [byteAt_listField t (by omega : tb.length < 256), raw, List.head?_map, hf.1, List.getLast?_map, hl, Option.map_some]
  rw [if_pos]
  · simp [Function.comp_def]
  · exact ⟨by simpa using hlen, by simpa using hlen', by simp [hf.2], pointsRise_map hrise, by simp [hlast], hfull, hfull'⟩

theorem strapSizeOk_strap (t : TankIx) {tb : List StrapPoint} (h : tb.length < 256) :
    strapSizeOk (tankByte t ++ listField StrapPoint.bytes tb) = true := by
  have hlen : (tankByte t ++ listField StrapPoint.bytes tb).length = 2 + 6 * tb.length := by
    simp only [List.length_append, tankByte, listField, u8_length, length_flatMap StrapPoint.bytes_length]
    omega
  simp only [strapSizeOk, hlen, byteAt_listField t h, decide_eq_true_eq]
  exact ⟨by omega, trivial⟩

/-! ### Rules -/

/-- The action of a rule as RULE_SET carries it. -/
def RuleAction.bytes : RuleAction → List Byte
  | .dump => u8 1 ++ u8 0 ++ u8 0
  | .route rt => u8 2 ++ rt.bytes

theorem Rule.bytes_eq (r : Rule) : r.bytes = mark r.enabled ++ (setBits [r.sources.wm1, r.sources.wm2, r.sources.shore] ++
    (setBits [r.grades.good, r.grades.fair, r.grades.bad] ++ r.action.bytes)) := by
  obtain ⟨e, x, g, a⟩ := r
  cases a <;> simp [Rule.bytes, RuleAction.bytes]

/-- The fields of a rule before its action. -/
theorem readRule_head (k : Nat) (r : Rule) (q : List Byte) (hq : q = r.action.bytes) :
    markAt (u8 k ++ r.bytes) 1 = some r.enabled ∧
      byteAt (u8 k ++ r.bytes) 2 = setNumber [r.sources.wm1, r.sources.wm2, r.sources.shore] ∧
      byteAt (u8 k ++ r.bytes) 3 = setNumber [r.grades.good, r.grades.fair, r.grades.bad] ∧
      (u8 k ++ r.bytes).drop 4 = q := by
  subst hq
  rw [Rule.bytes_eq]
  refine ⟨?_, ?_, ?_, rfl⟩
  · rw [markAt_place, drop_u8, List.drop_zero, markAt_front]
  · rw [byteAt_place, drop_u8, drop_mark, List.drop_zero, byteAt_setBits (by simp)]
  · rw [byteAt_place, drop_u8, drop_mark, drop_setBits, List.drop_zero, byteAt_setBits (by simp)]

theorem slotAt_front (k : Fin 8) (p : List Byte) : slotAt (u8 (k.val + 1) ++ p) 0 = some k := by
  have hk := k.isLt
  have hb := byteAt_front (by omega : k.val + 1 < 256) p
  have hk' : 1 ≤ k.val + 1 ∧ k.val + 1 ≤ 8 := by omega
  simp [slotAt, hb, hk']

theorem Rule.sources_bits (x : SourceSet) :
    SourceSet.mk (bitOf (setNumber [x.wm1, x.wm2, x.shore]) 0) (bitOf (setNumber [x.wm1, x.wm2, x.shore]) 1)
      (bitOf (setNumber [x.wm1, x.wm2, x.shore]) 2) = x := by
  simp [bitOf_setNumber]

theorem Rule.grades_bits (x : GradeSet) :
    GradeSet.mk (bitOf (setNumber [x.good, x.fair, x.bad]) 0) (bitOf (setNumber [x.good, x.fair, x.bad]) 1)
      (bitOf (setNumber [x.good, x.fair, x.bad]) 2) = x := by
  simp [bitOf_setNumber]

theorem Rule.bytes_length (r : Rule) : r.bytes.length = 3 + r.action.bytes.length := by
  rw [Rule.bytes_eq]
  simp [mark, setBits]
  omega

/-- The action's own fields: its code, its class and its group. -/
theorem readRule_of_action {k : Nat} {r : Rule} {code cls : Nat} {group : List TankIx}
    (h : r.action.bytes = u8 code ++ (u8 cls ++ listField tankByte group)) (hcode : code < 256) (hcls : cls < 256)
    (hgroup : group.length < 256) :
    byteAt (u8 k ++ r.bytes) 4 = code ∧ byteAt (u8 k ++ r.bytes) 5 = cls ∧
      readTanks ((u8 k ++ r.bytes).drop 7) = some group ∧ payloadSizeOk 0x33 (u8 k ++ r.bytes) = true := by
  obtain ⟨-, -, -, hdrop⟩ := readRule_head k r _ rfl
  have place (i : Nat) : byteAt (u8 k ++ r.bytes) (4 + i) = byteAt (u8 code ++ (u8 cls ++ listField tankByte group)) i := by
    rw [← byteAt_drop, hdrop, h]
  have hcount : byteAt (u8 k ++ r.bytes) 6 = group.length := by
    rw [place 2, byteAt_place, drop_u8, drop_u8, List.drop_zero]
    exact byteAt_front hgroup _
  have hlen : (u8 k ++ r.bytes).length = 7 + group.length := by
    have h1 : ∀ t, (tankByte t).length = 1 := fun _ => rfl
    simp only [List.length_append, Rule.bytes_length, h, u8_length, listField, length_flatMap h1]
    omega
  refine ⟨?_, ?_, ?_, ?_⟩
  · rw [place 0, byteAt_front hcode]
  · rw [place 1, byteAt_place, drop_u8, List.drop_zero, byteAt_front hcls]
  · have inner : (u8 k ++ r.bytes).drop 7 = group.flatMap tankByte := by
      rw [show 7 = 4 + 3 from rfl, ← List.drop_drop, hdrop, h]
      rfl
    rw [inner, readTanks_flatMap]
  · change ruleSizeOk _ = true
    simp only [ruleSizeOk, hlen, hcount, decide_eq_true_eq]
    exact ⟨by omega, trivial⟩

theorem readRule_bytes (k : Nat) {r : Rule} (h : r.lawful = true) :
    readRule (u8 k ++ r.bytes) = some r ∧ payloadSizeOk 0x33 (u8 k ++ r.bytes) = true := by
  obtain ⟨enabled, sources, grades, action⟩ := r
  obtain ⟨hmark, hsources, hgrades, -⟩ := readRule_head k ⟨enabled, sources, grades, action⟩ _ rfl
  have hs : setNumber [sources.wm1, sources.wm2, sources.shore] < 8 := setNumber_lt _
  have hg : setNumber [grades.good, grades.fair, grades.bad] < 8 := setNumber_lt _
  cases action with
  | dump =>
    obtain ⟨hcode, hcls, hgroup, hsize⟩ :=
      readRule_of_action (k := k) (r := ⟨enabled, sources, grades, .dump⟩) (code := 1) (cls := 0) (group := []) rfl
        (by decide) (by decide) (by decide)
    refine ⟨?_, hsize⟩
    unfold readRule
    simp [hmark, hsources, hgrades, hs, hg, hcode, hcls, hgroup, Rule.sources_bits, Rule.grades_bits]
  | route x =>
    simp only [Rule.lawful, decide_eq_true_eq] at h
    obtain ⟨hlen, hlen', hnodup⟩ := h
    have hlt : x.cls.code < 256 := by cases x.cls <;> decide
    obtain ⟨hcode, hcls, hgroup, hsize⟩ :=
      readRule_of_action (k := k) (r := ⟨enabled, sources, grades, .route x⟩) (code := 2) (cls := x.cls.code)
        (group := x.group) rfl (by decide) hlt (by omega)
    refine ⟨?_, hsize⟩
    unfold readRule
    simp [hmark, hsources, hgrades, hs, hg, hcode, hcls, hgroup, Rule.sources_bits, Rule.grades_bits, hnodup, hlen, hlen',
      QClass.ofCode_code]

/-! ### Orders and the duty list -/

/-- A leg as ORDER_SUBMIT carries it: the first 7 bytes of its record. -/
theorem Leg.bytes_take (l : Leg) :
    l.bytes.take 7 = tankByte l.source ++ (u8 l.dest.code ++ (u8 l.condition.code ++ u32 l.volume)) := rfl

/-- A leg is read where its 7 bytes stand. -/
theorem readLeg_of_drop {p q : List Byte} {i : Nat} {l : Leg} (h : p.drop i = l.bytes.take 7 ++ q) (hl : l.submitted) :
    readLeg p i = some l := by
  obtain ⟨hdest, hfill, hvol, hvol', hmoved, hruns, hresult, hlast⟩ := hl
  have hcond : l.condition.code < 256 := by cases l.condition <;> decide
  rw [Leg.bytes_take] at h
  have source : tankAt p i = some l.source := by
    have k := tankAt_tankByte l.source (u8 l.dest.code ++ (u8 l.condition.code ++ u32 l.volume) ++ q)
    rwa [← List.append_assoc, ← h, tankAt, byteAt_drop] at k
  have dest : byteAt p (i + 1) = l.dest.code := by
    rw [← byteAt_drop, h]
    exact byteAt_front l.dest.code_lt (u8 l.condition.code ++ u32 l.volume ++ q)
  have condition : byteAt p (i + 2) = l.condition.code := by
    rw [← byteAt_drop, h]
    exact byteAt_front hcond (u32 l.volume ++ q)
  have volume : u32At p (i + 3) = l.volume := by
    rw [← u32At_drop, h]
    exact u32At_front (by omega) q
  simp only [readLeg, source, dest, condition, volume, Dest.ofCode_code, EndCondition.ofCode_code, natIn_of_mem hvol hvol',
    Option.bind_eq_bind, Option.bind_some, hdest, hfill, or_self, if_false]
  obtain ⟨x, d, c, v, m, n, r, ch⟩ := l
  simp_all

/-- The legs are read from the place where the first of them stands. -/
theorem readLegs_of_drop {p : List Byte} {legs : List Leg} (hl : ∀ l ∈ legs, l.submitted) (k : Nat)
    (h : p.drop (5 + 7 * k) = legs.flatMap fun l => l.bytes.take 7) : readLegs p legs.length k = some legs := by
  induction legs generalizing k with
  | nil => rfl
  | cons l legs ih =>
    rw [List.flatMap_cons] at h
    have rest : p.drop (5 + 7 * (k + 1)) = legs.flatMap fun l => l.bytes.take 7 := by
      rw [show 5 + 7 * (k + 1) = 5 + 7 * k + 7 by omega, ← List.drop_drop, h]
      rfl
    simp only [List.length_cons, readLegs, readLeg_of_drop h (hl l List.mem_cons_self),
      ih (fun l h => hl l (List.mem_cons_of_mem _ h)) (k + 1) rest, Option.bind_eq_bind, Option.bind_some, Option.pure_def]

theorem submitPayload_eq (id priority : Nat) (policy : Policy) (legs : List Leg) :
    submitPayload id priority policy legs =
      u16 id ++ (u8 priority ++ (u8 policy.code ++ (u8 legs.length ++ legs.flatMap fun l => l.bytes.take 7))) := by
  simp [submitPayload]

theorem readOrder_submitPayload {id priority : Nat} {policy : Policy} {legs : List Leg} (hid : id < 65536)
    (hpriority : priority ≤ 3) (hlen : 1 ≤ legs.length) (hlen' : legs.length ≤ 8) (hl : ∀ l ∈ legs, l.submitted) :
    u16At (submitPayload id priority policy legs) 0 = id ∧
      readOrder (submitPayload id priority policy legs) = some (priority, policy, legs) ∧
      payloadSizeOk 0x40 (submitPayload id priority policy legs) = true := by
  have hpolicy : policy.code < 256 := by cases policy <;> decide
  have legsRead := readLegs_of_drop (p := submitPayload id priority policy legs) hl 0 rfl
  have hseven : ∀ l : Leg, (l.bytes.take 7).length = 7 := fun _ => rfl
  rw [submitPayload_eq] at legsRead ⊢
  have count : byteAt (u16 id ++ (u8 priority ++ (u8 policy.code ++ (u8 legs.length ++
      legs.flatMap fun l => l.bytes.take 7)))) 4 = legs.length := by
    rw [byteAt_place, drop_u16, drop_u8, drop_u8, List.drop_zero, byteAt_front (by omega)]
  refine ⟨u16At_front hid _, ?_, ?_⟩
  · simp (disch := omega) only [readOrder, count, legsRead, byteAt_place, drop_u16, drop_u8, List.drop_zero, byteAt_front,
      natIn_of_mem, Policy.ofCode_code, Option.bind_eq_bind, Option.bind_some, Option.pure_def]
  · change submitSizeOk _ = true
    simp only [submitSizeOk, count, List.length_append, u8_length, length_flatMap hseven, decide_eq_true_eq]
    have h2 : (u16 id).length = 2 := rfl
    omega

theorem readDuty_listField {l : List TankIx} (h : l.Nodup) : readDuty (listField tankByte l) = some l := by
  have inner : (listField tankByte l).drop 1 = l.flatMap tankByte := rfl
  simp [readDuty, inner, readTanks_flatMap, h]

end Sys2Proof.Machine

section
open Sys2Proof Sys2Proof.Machine

/-- Settles O10: every reader looks at the places where the payload's fields have been written. -/
theorem payloadsReadBack : Obligations.PayloadsReadBack := by
  unfold Obligations.PayloadsReadBack
  refine ⟨?_, ?_, ?_, ?_, ?_, ?_, ?_, ?_, ?_⟩
  · intro t d hd
    exact ⟨tankAt_tankByte t _, readDefinition_bytes t hd, rfl⟩
  · intro t height tb _ hh htb
    have ⟨_, hlen, _⟩ := htb
    exact ⟨tankAt_tankByte t _, readStrap_strap t hh htb, strapSizeOk_strap t (by omega)⟩
  · intro t m h1 h2 h3 h4 h5
    exact readLimits_bytes t h1 h2 h3 h4 h5
  · exact readNotices_bytes
  · intro x v hv
    have hx : byteAt (u8 x.code ++ v.bytes) 0 = x.code := byteAt_front (by cases x <;> decide) _
    exact ⟨by rw [hx, Source.ofCode_code], readSourceSettings_bytes x hv⟩
  · intro k r hr
    exact ⟨slotAt_front k _, readRule_bytes _ hr⟩
  · intro id priority policy legs hid hpriority hlen hlen' hl
    exact readOrder_submitPayload hid hpriority hlen hlen' hl
  · intro l _ hl
    exact readDuty_listField hl
  · exact readEnables_bytes

end
end

section
/-!
PROOF. The reset state, block by block, and the laws there (O16).
-/
namespace Sys2Proof.Machine

theorem ImageTank.lawful_blank : ImageTank.blank.lawful :=
  ⟨fun _ h => (by cases h), fun _ h => (by cases h)⟩

namespace State

theorem tank_reset (t : TankIx) : reset.tank t = TankRecord.blank .quarantine := by
  simp [tank, reset, TankTable.start]

theorem gauge_reset (t : TankIx) : reset.gauge t = none := by
  simp [gauge, reset, GaugingUnit.start]

theorem valve_reset (v : Valve) : reset.valve v = ValveRecord.start ⟨true, false⟩ := by
  simp [valve, reset, ActuatorUnit.start, Pins.unconnected]

theorem pump_reset (c : Channel) : reset.pump c = PumpRecord.start false := by
  cases c <;> rfl

theorem chan_reset (c : Channel) : reset.chan c = ChannelRecord.start .stopped 0 := by
  cases c <;> rfl

/-- A source at reset stands in a state in which it neither produces nor dumps. -/
theorem source_reset (x : Source) :
    ∃ st, (st = .stopped ∨ st = .closed) ∧ reset.source x = SourceRecord.start st 0 0 := by
  cases x
  · exact ⟨.stopped, .inl rfl, rfl⟩
  · exact ⟨.stopped, .inl rfl, rfl⟩
  · exact ⟨.closed, .inr rfl, rfl⟩

theorem commandedOpen_reset (v : Valve) : reset.commandedOpen v = false := by
  simp [commandedOpen, valve_reset, ValveRecord.start]

theorem obedient_reset (v : Valve) : (reset.valve v).obedient := by
  rw [valve_reset]
  exact ⟨fun _ => rfl, fun h => by rcases h with h | h <;> cases h⟩

theorem momentLaw_reset : reset.momentLaw :=
  (TankLaws.momentOf_noVolume fun t => by simp [reset, TankTable.start, TankRecord.blank]).symm

theorem runLaw_reset : reset.runLaw := by
  refine ⟨fun c id k h => ?_, fun o ho => (List.not_mem_nil ho).elim, fun c _ => ?_⟩
  · rw [chan_reset] at h
    cases h
  · rw [chan_reset]
    rfl

theorem claimLaw_reset : reset.claimLaw :=
  ⟨fun c _ => by rw [chan_reset]; rfl, fun _ h => (List.not_mem_nil h).elim⟩

theorem modeLaw_reset : reset.modeLaw :=
  ⟨rfl, fun _ _ h => (by cases h), rfl, fun h => (h rfl).elim, rfl, fun _ h => (by cases h)⟩

theorem actuatorLaw_reset : reset.actuatorLaw := by
  refine ⟨fun v => ?_, ⟨rfl, rfl, rfl⟩, ⟨rfl, rfl, rfl⟩⟩
  rw [valve_reset]
  exact ⟨rfl, rfl⟩

theorem dumpTimerLaw_reset : reset.dumpTimerLaw := by
  intro w
  cases w <;> rfl

theorem intakeValveLaw_reset : reset.intakeValveLaw := by
  refine ⟨fun t h => ?_, fun _ => rfl, fun _ => rfl, fun _ => rfl, List.nodup_nil, fun t => obedient_reset _⟩
  rw [commandedOpen_reset] at h
  cases h

theorem supplyValveLaw_reset : reset.supplyValveLaw := by
  refine ⟨⟨rfl, rfl, rfl⟩, fun t h => ?_, fun t => obedient_reset _⟩
  rw [commandedOpen_reset] at h
  cases h

theorem pumpLaw_reset : reset.pumpLaw := by
  intro c
  rw [chan_reset, pump_reset]
  refine ⟨.inl rfl, fun h => (by cases h), fun h => ?_, fun h => (by cases h), fun _ => rfl⟩
  rcases h with h | h <;> cases h

theorem permitLaw_reset : reset.permitLaw := by
  intro w
  cases w <;> rfl

theorem publishedLaw_reset : reset.publishedLaw := by
  refine ⟨fun t => ⟨?_, fun v h => ?_, fun l h => ?_, fun c h => ?_⟩, fun t => ?_, fun im h => (by cases h)⟩
  · rw [tank_reset]
    exact ImageTank.lawful_blank
  · rw [tank_reset] at h
    cases h
  · rw [tank_reset] at h
    cases h
  · rw [gauge_reset] at h
    cases h
  · have blank : reset.sts.stored.tanks[t] = ImageTank.blank := by
      simp [reset, SettingsStore.new, Image.factory]
    rw [blank]
    exact ImageTank.lawful_blank

end State
end Sys2Proof.Machine

section
open Sys2Proof Sys2Proof.Machine

/-- Settles O16: the records at reset are the start records of their blocks, and each law is read off them. -/
theorem resetStateHasResetValues : Obligations.ResetStateHasResetValues := by
  refine ⟨fun t => ?_, rfl, rfl, fun v => ?_, rfl, rfl, rfl, rfl, fun x => ?_, rfl, rfl, rfl, fun c => ?_, rfl, rfl, rfl, rfl,
    rfl, ?_, fun t c h => ?_, State.momentLaw_reset, fun t => ?_, ⟨by decide, List.nodup_nil⟩, State.runLaw_reset,
    State.claimLaw_reset, ⟨rfl, rfl, rfl⟩, State.modeLaw_reset, State.actuatorLaw_reset, State.dumpTimerLaw_reset,
    State.intakeValveLaw_reset, State.supplyValveLaw_reset, State.pumpLaw_reset, State.permitLaw_reset,
    State.publishedLaw_reset⟩
  · rw [State.tank_reset, State.gauge_reset]
    exact ⟨rfl, rfl, rfl, rfl, rfl, rfl⟩
  · rw [State.valve_reset]
    exact ⟨rfl, rfl, rfl, rfl⟩
  · obtain ⟨st, -, hx⟩ := State.source_reset x
    rw [hx]
    exact ⟨rfl, rfl, rfl, rfl⟩
  · rw [State.chan_reset]
    exact ⟨rfl, rfl, rfl⟩
  · exact Nat.zero_le _
  · rw [State.gauge_reset] at h
    cases h
  · rw [State.tank_reset]
    exact fun e h => (List.not_mem_nil h).elim

end
end

section
/-!
PROOF. How a request is answered (R175 to R177): the link takes it, its owner answers, and the reply is queued. A request that
its owner answers without a look at the link's own record of it is answered as if that record were put down afterwards.
-/
namespace Sys2Proof.Machine

/-- A request that the link takes and an owner answers with a state in which the request stands as taken. -/
theorem exec_answered {c : Sys2Proof.Instr} {r : Request} {f : Handler} {s u : State} {a : Answer}
    (hc : c.request = some r) (hf : handlerOf r.kind = some f) (hs : s.listening)
    (hm : s.mode ≠ .start ∨ r.kind = statusGetKind) (ha : f r.payload (s.taken r) = (a, u.taken r)) :
    exec c s = .next (u.answered r.kind r.tag r.payload a.status a.payload).deliver := by
  have answer : (s.taken r).answer r = (a, u.taken r) := by
    rw [State.answer_handler (s.taken r) r f hf (by rwa [State.taken_mode]), ha]
  rw [exec_request hc, State.frame_listening s r hs, answer]
  rfl

/-- The same outside START, for an accepted request. -/
theorem exec_accepted {c : Sys2Proof.Instr} {r : Request} {f : Handler} {s u : State} {q : List Byte}
    (hc : c.request = some r) (hf : handlerOf r.kind = some f) (hs : s.ready)
    (ha : f r.payload (s.taken r) = accept q (u.taken r)) :
    exec c s = .next (u.answered r.kind r.tag r.payload .ok q).deliver :=
  exec_answered (u := u) (a := ⟨.ok, q⟩) hc hf hs.1 (.inl hs.2) ha

/-- A refused request leaves its reply and nothing else. -/
theorem exec_refused {c : Sys2Proof.Instr} {r : Request} {f : Handler} {s : State} {st : Status}
    (hc : c.request = some r) (hf : handlerOf r.kind = some f) (hs : s.ready)
    (ha : f r.payload (s.taken r) = refuse st (s.taken r)) :
    exec c s = .next (s.answered r.kind r.tag r.payload st []).deliver :=
  exec_answered (u := s) (a := ⟨st, []⟩) hc hf hs.1 (.inl hs.2) ha

/-! ### Numbers that name a valve, a pump, an order -/

theorem Valve.ofNumber_number (v : Valve) : Valve.ofNumber v.number = some v := by
  cases v with
  | tank t fn =>
    have ht := t.isLt
    have hf : fn.ix.val < 6 := fn.ix.isLt
    have hn : 1 ≤ t.val * 6 + fn.ix.val + 1 ∧ t.val * 6 + fn.ix.val + 1 ≤ 72 := by omega
    have hdiv : (t.val * 6 + fn.ix.val + 1 - 1) / 6 = t.val := by omega
    have hmod : (t.val * 6 + fn.ix.val + 1 - 1) % 6 = fn.ix.val := by omega
    have hfn : ValveFn.ofIx fn.ix.val = fn := by cases fn <;> rfl
    have known : ∀ n, n = t.val * 6 + fn.ix.val + 1 → Valve.ofNumber n = some (.tank t fn) := by
      rintro n rfl
      rw [Valve.ofNumber, dif_pos hn]
      simp only [hdiv, hmod, hfn]
    exact known _ rfl
  | diverter w => cases w <;> rfl
  | shore => rfl
  | overboard c => cases c <;> rfl

theorem Valve.number_lt (v : Valve) : v.number < 256 := by
  have := v.ix.isLt
  unfold Valve.number
  omega

theorem Channel.ofPumpNumber_pumpNumber (c : Channel) : Channel.ofPumpNumber c.pumpNumber = some c := by
  cases c <;> rfl

theorem Valve.ofNumber_pumpNumber (c : Channel) : Valve.ofNumber c.pumpNumber = none := by
  cases c <;> rfl

theorem State.order_id {s : State} {id : Nat} {o : Order} (h : s.order id = some o) : o.id = id := by
  simpa using List.find?_some h

/-- A byte alone in a payload. -/
theorem byteAt_u8_alone {n : Nat} (h : n < 256) : byteAt (u8 n) 0 = n := by
  simpa using byteAt_front h []

theorem u16At_alone {n : Nat} (h : n < 65536) : u16At (u16 n) 0 = n := by
  simpa using u16At_front h []

theorem tankAt_tankByte_alone (t : TankIx) : tankAt (tankByte t) 0 = some t := by
  simpa using tankAt_tankByte t []

theorem slotAt_alone (k : Fin 8) : slotAt (u8 (k.val + 1)) 0 = some k := by
  simpa using slotAt_front k []

theorem Source.code_lt (x : Source) : x.code < 256 := by cases x <;> decide

theorem Channel.code_lt (c : Channel) : c.code < 256 := by cases c <;> decide

theorem QClass.code_lt (c : QClass) : c.code < 256 := by cases c <;> decide

theorem SupKind.code_lt (k : SupKind) : k.code < 256 := by cases k <;> decide

end Sys2Proof.Machine

section
open Sys2Proof Sys2Proof.Machine

/-- Settles O7: each query's owner accepts it in the state as it is taken, and its reply reads no part of the link's record. -/
theorem queriesChangeNothing : Obligations.QueriesChangeNothing := by
  intro s tag hs
  refine ⟨exec_answered (r := ⟨0x60, tag, []⟩) (f := answerStatusGet) (a := ⟨.ok, s.statusReply⟩) rfl rfl hs (.inr rfl) rfl,
    fun hm => ?_⟩
  have ready : s.ready := ⟨hs, hm⟩
  refine ⟨fun t => ?_, fun t g hg => ?_, fun v => ?_, fun c => ?_, fun x => ?_, fun k => ?_, fun id o hid ho => ?_, ?_,
    fun c => ?_, ?_⟩
  · refine exec_accepted (r := ⟨0x18, tag, tankByte t⟩) (f := answerTankGet) rfl rfl ready ?_
    simp only [answerTankGet, tankAt_tankByte_alone]
    rfl
  · refine exec_accepted (r := ⟨0x21, tag, tankByte t⟩) (f := answerGaugeGet) rfl rfl ready ?_
    have hg' : (s.taken ⟨0x21, tag, tankByte t⟩).gauge t = some g := hg
    simp only [answerGaugeGet, tankAt_tankByte_alone, hg']
    rfl
  · refine exec_accepted (r := ⟨0x2A, tag, u8 v.number⟩) (f := answerValveGet) rfl rfl ready ?_
    simp only [answerValveGet, byteAt_u8_alone (Valve.number_lt v), Valve.ofNumber_number]
    rfl
  · refine exec_accepted (r := ⟨0x2A, tag, u8 c.pumpNumber⟩) (f := answerValveGet) rfl rfl ready ?_
    have hc : c.pumpNumber < 256 := by cases c <;> decide
    simp only [answerValveGet, byteAt_u8_alone hc, Valve.ofNumber_pumpNumber, Channel.ofPumpNumber_pumpNumber]
    rfl
  · refine exec_accepted (r := ⟨0x32, tag, u8 x.code⟩) (f := answerSourceGet) rfl rfl ready ?_
    simp only [answerSourceGet, byteAt_u8_alone (Source.code_lt x), Source.ofCode_code]
    rfl
  · refine exec_accepted (r := ⟨0x34, tag, u8 (k.val + 1)⟩) (f := answerRuleGet) rfl rfl ready ?_
    simp only [answerRuleGet, slotAt_alone]
    rfl
  · refine exec_accepted (r := ⟨0x45, tag, u16 id⟩) (f := answerOrderGet) rfl rfl ready ?_
    have ho' : (s.taken ⟨0x45, tag, u16 id⟩).order id = some o := ho
    simp only [answerOrderGet, u16At_alone hid, ho', State.order_id ho]
    rfl
  · exact exec_accepted (r := ⟨0x46, tag, []⟩) (f := answerOrderList) rfl rfl ready rfl
  · refine exec_accepted (r := ⟨0x4B, tag, u8 c.code⟩) (f := answerChannelGet) rfl rfl ready ?_
    simp only [answerChannelGet, byteAt_u8_alone (Channel.code_lt c), Channel.ofCode_code]
    rfl
  · exact exec_accepted (r := ⟨0x52, tag, []⟩) (f := answerSupplyGet) rfl rfl ready rfl

end
end

section
/-!
PROOF. What the Tank Table and the Gauging Unit do to a request does not look at the link's own record of it, and what they tell
is notices alone: two facts that let a request's effect be stated on the state before it and compared with what stands after it.
-/
namespace Sys2Proof.Machine
namespace State

/-! ### Operations by the case they meet -/

section

variable {s : State} {t : TankIx}

theorem restartChannel_defined {d : TankDef} (h : (s.tank t).defn = some d) :
    s.restartChannel t =
      (((s.setGauge t (some (GaugeChannel.fresh d (s.tank t).strap s.clock ((s.gauge t).bind (·.lastSample))))).hold t).report
        .gauge (tankCode t) GaugeState.settling.code 0).tellGauge t .settling := by
  simp only [State.restartChannel, h]

theorem restartChannel_undefined (h : (s.tank t).defn = none) : s.restartChannel t = s := by
  simp only [State.restartChannel, h]

theorem takeStates_silent (h : (s.tank t).notices = none) (vol : Nat) (new : ThStates) :
    s.takeStates t vol new = s.updTank t fun r => { r with states := new } := by
  simp only [State.takeStates, h]

theorem takeStates_noticed {n : NoticeEnables} (h : (s.tank t).notices = some n) (vol : Nat) (new : ThStates) :
    s.takeStates t vol new = (crossings (s.tank t).states new).foldl (State.takeCrossing t vol n)
      (s.updTank t fun r => { r with states := new }) := by
  simp only [State.takeStates, h]

/-- Limits are only stored where there is no volume to evaluate them against (R18). -/
theorem setLimits_stored (h : (s.tank t).volume = none ∨ (s.tank t).held = true) (m : Limits) :
    s.setLimits t m = s.updTank t fun r => { r with limits := some m } := by
  unfold State.setLimits
  dsimp only
  split
  · next vol hv => exact if_pos (h.resolve_left (by rw [hv]; exact Option.some_ne_none vol))
  · rfl

theorem setLimits_evaluated {vol : Nat} (hv : (s.tank t).volume = some vol) (hh : (s.tank t).held = false) (m : Limits) :
    s.setLimits t m = ((s.updTank t fun r => { r with limits := some m }).takeStates t vol
      (evalStates m vol (s.tank t).states)).tellTank t false .hostRequest (s.tank t) := by
  simp only [State.setLimits, hv, hh, Bool.false_eq_true, if_false]

end

/-! ### The link's record of a request is not looked at -/

section

variable (s : State) (r : Request)

theorem ite_taken (c : Prop) [Decidable c] (x y : State) :
    (if c then x.taken r else y.taken r) = (if c then x else y).taken r := (apply_ite (State.taken r) c x y).symm

theorem tellTank_taken (t : TankIx) (d : Bool) (c : ClassCause) (old : TankRecord) :
    (s.taken r).tellTank t d c old = (s.tellTank t d c old).taken r :=
  ite_taken r _ (s.tell _) s

theorem reMoment_taken : (s.taken r).reMoment = s.reMoment.taken r := by
  unfold State.reMoment
  dsimp only
  rw [← ite_taken]
  rfl

theorem append_taken (x : Report) : (s.taken r).append x = (s.append x).taken r := by
  unfold State.append State.taken LinkUnit.append
  dsimp only
  split
  · split <;> rfl
  · rfl

theorem report_taken (k : ReportKind) (subject code value : Nat) :
    (s.taken r).report k subject code value = (s.report k subject code value).taken r := append_taken s r _

theorem tellGauge_taken (t : TankIx) (g : GaugeState) : (s.taken r).tellGauge t g = (s.tellGauge t g).taken r := rfl

theorem restartChannel_taken (t : TankIx) : (s.taken r).restartChannel t = (s.restartChannel t).taken r := by
  cases h : (s.tank t).defn with
  | none => rw [restartChannel_undefined h, restartChannel_undefined (s := s.taken r) h]
  | some d =>
    rw [restartChannel_defined h, restartChannel_defined (s := s.taken r) h]
    rw [← tellGauge_taken, ← report_taken]
    rfl

theorem defineTank_taken (t : TankIx) (d : TankDef) : (s.taken r).defineTank t d = (s.defineTank t d).taken r := by
  simp only [State.defineTank, ← restartChannel_taken, ← reMoment_taken, ← tellTank_taken]
  rfl

theorem removeTank_taken (t : TankIx) : (s.taken r).removeTank t = (s.removeTank t).taken r := by
  simp only [State.removeTank, ← reMoment_taken, ← tellTank_taken]
  rfl

theorem loadStrap_taken (t : TankIx) (tb : List StrapPoint) : (s.taken r).loadStrap t tb = (s.loadStrap t tb).taken r := by
  simp only [State.loadStrap, ← restartChannel_taken, ← reMoment_taken, ← tellTank_taken]
  rfl

theorem readmit_taken (t : TankIx) (c : GaugeChannel) : (s.taken r).readmit t c = (s.readmit t c).taken r := by
  have dropped : ((s.taken r).setGauge t (some c.readmitted)).dropPublished t =
      ((s.setGauge t (some c.readmitted)).dropPublished t).taken r := by
    simp only [State.dropPublished, ← reMoment_taken, ← tellTank_taken]
    rfl
  unfold State.readmit
  dsimp only
  rw [dropped, report_taken]
  rfl

theorem setService_taken (t : TankIx) (v : Service) : (s.taken r).setService t v = (s.setService t v).taken r := by
  simp only [State.setService, ← tellTank_taken]
  rfl

/-- Putting notices in flight one by one. -/
theorem foldl_taken {α : Type} {f : State → α → State} (hf : ∀ x a, f (State.taken r x) a = (f x a).taken r) (l : List α) :
    l.foldl f (s.taken r) = (l.foldl f s).taken r := by
  induction l generalizing s with
  | nil => rfl
  | cons a l ih => rw [List.foldl_cons, hf, ih, List.foldl_cons]

theorem changeClass_taken (t : TankIx) (c : QClass) : (s.taken r).changeClass t c = (s.changeClass t c).taken r := by
  unfold State.changeClass
  dsimp only
  rw [← ite_taken, ← tellTank_taken, ← foldl_taken _ r fun _ _ => rfl]
  rfl

theorem takeCrossing_taken (t : TankIx) (vol : Nat) (n : NoticeEnables) (x : Threshold × Direction) :
    State.takeCrossing t vol n (s.taken r) x = (State.takeCrossing t vol n s x).taken r := by
  have noted : (s.taken r).noteCrossing t vol n x = (s.noteCrossing t vol n x).taken r := by
    unfold State.noteCrossing
    rw [report_taken, ite_taken]
  rw [State.takeCrossing_eq, State.takeCrossing_eq, noted, ← ite_taken]
  rfl

theorem takeStates_taken (t : TankIx) (vol : Nat) (new : ThStates) :
    (s.taken r).takeStates t vol new = (s.takeStates t vol new).taken r := by
  cases h : (s.tank t).notices with
  | none =>
    rw [takeStates_silent h, takeStates_silent (s := s.taken r) h]
    rfl
  | some n =>
    rw [takeStates_noticed h, takeStates_noticed (s := s.taken r) h, ← foldl_taken _ r fun x => takeCrossing_taken x r t vol n]
    rfl

theorem setLimits_taken (t : TankIx) (m : Limits) : (s.taken r).setLimits t m = (s.setLimits t m).taken r := by
  by_cases h : (s.tank t).volume = none ∨ (s.tank t).held = true
  · rw [setLimits_stored h, setLimits_stored (s := s.taken r) h]
    rfl
  · obtain ⟨hv, hh⟩ := not_or.mp h
    obtain ⟨vol, hv⟩ := Option.ne_none_iff_exists'.mp hv
    rw [Bool.not_eq_true] at hh
    rw [setLimits_evaluated hv hh, setLimits_evaluated (s := s.taken r) hv hh, ← tellTank_taken, ← takeStates_taken]
    rfl

theorem updChan_taken (c : Channel) (f : ChannelRecord → ChannelRecord) :
    (s.taken r).updChan c f = (s.updChan c f).taken r := by
  cases c <;> rfl

end

/-! ### Notices alone -/

/-- Two states that differ in the notices in flight, and in the choices drawn to order them, alone. -/
def sameButNotices (b u : State) : Prop := ∃ ms cs, u = { b with msgs := ms, choices := cs }

namespace sameButNotices

variable {a b u : State}

theorem refl (s : State) : s.sameButNotices s := ⟨s.msgs, s.choices, rfl⟩

theorem trans (h : a.sameButNotices b) (k : b.sameButNotices u) : a.sameButNotices u := by
  obtain ⟨_, _, rfl⟩ := h
  obtain ⟨ms, cs, rfl⟩ := k
  exact ⟨ms, cs, rfl⟩

theorem emit (h : b.sameButNotices u) (m : Msg) : b.sameButNotices (u.emit m) :=
  h.trans ⟨_, _, rfl⟩

theorem tell (h : b.sameButNotices u) (ms : List Msg) : b.sameButNotices (u.tell ms) :=
  h.trans ⟨_, _, rfl⟩

theorem tellTank (h : b.sameButNotices u) (t : TankIx) (d : Bool) (c : ClassCause) (old : TankRecord) :
    b.sameButNotices (u.tellTank t d c old) := by
  unfold State.tellTank
  dsimp only
  split
  · exact h.tell _
  · exact h

theorem tellGauge (h : b.sameButNotices u) (t : TankIx) (g : GaugeState) : b.sameButNotices (u.tellGauge t g) := h.tell _

theorem foldl {α : Type} {f : State → α → State} (hf : ∀ x y, State.sameButNotices x (f x y)) (l : List α)
    (h : b.sameButNotices u) : b.sameButNotices (l.foldl f u) := by
  induction l generalizing u with
  | nil => exact h
  | cons y l ih => exact ih (h.trans (hf u y))

/-- The sum of R22 put, with or without a notice of it. -/
theorem reMoment (h : b.sameButNotices u) :
    State.sameButNotices { b with tt := { b.tt with moment := momentOf b.tt.tanks } } u.reMoment := by
  obtain ⟨ms, cs, rfl⟩ := h
  unfold State.reMoment
  dsimp only
  split
  · next heq => exact ⟨ms, cs, by simp only [heq]⟩
  · exact ⟨_, _, rfl⟩

theorem setGauge (h : b.sameButNotices u) (t : TankIx) (c : Option GaugeChannel) :
    (b.setGauge t c).sameButNotices (u.setGauge t c) := by
  obtain ⟨ms, cs, rfl⟩ := h
  exact ⟨ms, cs, rfl⟩

theorem report (h : b.sameButNotices u) (k : ReportKind) (x y z : Nat) :
    (b.report k x y z).sameButNotices (u.report k x y z) := by
  obtain ⟨ms, cs, rfl⟩ := h
  exact ⟨ms, cs, rfl⟩

theorem answered (h : b.sameButNotices u) (kind tag : Byte) (p : List Byte) (st : Status) (q : List Byte) :
    (b.answered kind tag p st q).sameButNotices (u.answered kind tag p st q) := by
  obtain ⟨ms, cs, rfl⟩ := h
  exact ⟨ms, cs, rfl⟩

theorem tank (h : b.sameButNotices u) (t : TankIx) : u.tank t = b.tank t := by
  obtain ⟨_, _, rfl⟩ := h
  rfl

theorem gauge (h : b.sameButNotices u) (t : TankIx) : u.gauge t = b.gauge t := by
  obtain ⟨_, _, rfl⟩ := h
  rfl

theorem clock (h : b.sameButNotices u) : u.clock = b.clock := by
  obtain ⟨_, _, rfl⟩ := h
  rfl

theorem standsIn (h : b.sameButNotices u) : b.standsIn u := by
  obtain ⟨_, _, rfl⟩ := h
  exact b.standsIn_refl

/-- What stands before the notices are put in flight stands after their delivery. -/
theorem standsIn_deliver (h : b.sameButNotices u) : b.standsIn u.deliver :=
  standsIn_trans h.standsIn u.standsIn_deliver

end sameButNotices

/-- A tank's record put and told, and M worked out anew and told. -/
theorem putTank_sameButNotices (s : State) (t : TankIx) (r : TankRecord) (d : Bool) (c : ClassCause) (old : TankRecord) :
    (s.putTank t r).sameButNotices ((s.updTank t fun _ => r).tellTank t d c old).reMoment :=
  ((sameButNotices.refl _).tellTank t d c old).reMoment

end State
end Sys2Proof.Machine
end

section
/-!
PROOF. The settings of tanks and the plain settings (O21, O22): what an accepted request makes of the tank, of the blocks that
are told, and of the settings that only their owner reads.
-/
namespace Sys2Proof.Machine

/-! ### A change that changes nothing -/

namespace State

variable {s : State} {t : TankIx}

theorem updTank_congr {f g : TankRecord → TankRecord} (h : f (s.tank t) = g (s.tank t)) :
    s.updTank t f = s.updTank t g := by
  unfold State.tank at h
  rw [State.updTank, State.updTank, h]

theorem updTank_same {f : TankRecord → TankRecord} (h : f (s.tank t) = s.tank t) : s.updTank t f = s := by
  have kept : s.updTank t id = s := by simp [State.updTank]
  rw [updTank_congr (g := id) h, kept]

theorem updTank_updTank (f g : TankRecord → TankRecord) :
    (s.updTank t f).updTank t g = s.updTank t fun r => g (f r) := by
  simp [State.updTank]

theorem crossings_same (st : ThStates) : crossings st st = [] := by
  have contrary (a : ThState) : ¬(a = .above ∧ a = .below) ∧ ¬(a = .below ∧ a = .above) := by cases a <;> decide
  simp [crossings, contrary]

/-- An unchanged tank is not told of (R4). -/
theorem tellTank_same (c : ClassCause) {old : TankRecord} (h : s.tank t = old) : s.tellTank t false c old = s := by
  simp [State.tellTank, tankChange, TankChange.something, h]

theorem setService_same {v : Service} (h : (s.tank t).service = v) : s.setService t v = s := by
  have same : (s.updTank t fun r => { r with service := v }) = s := updTank_same (by rw [← h])
  rw [State.setService, same, tellTank_same _ rfl]

theorem changeClass_same {c : QClass} (h : c = (s.tank t).cls) : s.changeClass t c = s := if_pos h

/-! ### What stands after a change -/

theorem standsIn_answered {b u : State} (h : b.standsIn u) (kind tag : Byte) (p : List Byte) (st : Status) (q : List Byte) :
    (b.answered kind tag p st q).standsIn (u.answered kind tag p st q) := by
  obtain ⟨hstand, hqueue⟩ := h
  have answered (x : State) : (x.answered kind tag p st q).standing =
      { x.standing with
        framer := .hunt, intake := x.standing.intake ++ [⟨kind, tag, p⟩],
        replies := x.standing.replies ++ [⟨kind, tag, st, q, false⟩] } := rfl
  exact ⟨by rw [answered, answered, hstand], hqueue⟩

theorem standsIn_takeCrossing (s : State) (t : TankIx) (vol : Nat) (n : NoticeEnables) (x : Threshold × Direction) :
    s.standsIn (State.takeCrossing t vol n s x) := by
  have noted : s.standsIn (s.noteCrossing t vol n x) := by
    unfold State.noteCrossing
    split
    · exact ⟨State.append_standing _ _, ((Grows.refl s).report _ _ _ _).queue⟩
    · exact s.standsIn_refl
  rw [State.takeCrossing_eq]
  split
  · exact standsIn_trans noted ((sameButNotices.refl _).emit _).standsIn
  · exact noted

/-- The states stand as they have been set, whatever the crossings tell. -/
theorem standsIn_takeStates (s : State) (t : TankIx) (vol : Nat) (new : ThStates) :
    (s.updTank t fun r => { r with states := new }).standsIn (s.takeStates t vol new) := by
  cases h : (s.tank t).notices with
  | none =>
    rw [takeStates_silent h]
    exact standsIn_refl _
  | some n =>
    rw [takeStates_noticed h]
    generalize crossings (s.tank t).states new = l
    generalize (s.updTank t fun r => { r with states := new }) = b
    induction l generalizing b with
    | nil => exact b.standsIn_refl
    | cons x l ih => exact standsIn_trans (standsIn_takeCrossing b t vol n x) (ih _)

/-- The record that TANK_LIMITS leaves (R18). -/
theorem standsIn_setLimits (s : State) (t : TankIx) (m : Limits) :
    (s.updTank t fun r => { r with
      limits := some m,
      states := match r.volume with
        | some v => if r.held then r.states else evalStates m v r.states
        | none => r.states }).standsIn (s.setLimits t m) := by
  by_cases h : (s.tank t).volume = none ∨ (s.tank t).held = true
  · have states : (s.updTank t fun r => { r with
        limits := some m,
        states := match r.volume with
          | some v => if r.held then r.states else evalStates m v r.states
          | none => r.states }) = s.updTank t fun r => { r with limits := some m } := by
      refine updTank_congr ?_
      rcases h with h | h
      · simp only [h]
      · cases hv : (s.tank t).volume <;> simp only [h, if_true]
    rw [setLimits_stored h, states]
    exact standsIn_refl _
  · obtain ⟨hv, hh⟩ := not_or.mp h
    obtain ⟨vol, hv⟩ := Option.ne_none_iff_exists'.mp hv
    rw [Bool.not_eq_true] at hh
    rw [setLimits_evaluated hv hh]
    refine standsIn_trans ?_ ((sameButNotices.refl _).tellTank t false .hostRequest (s.tank t)).standsIn
    have states : (s.updTank t fun r => { r with
        limits := some m,
        states := match r.volume with
          | some v => if r.held then r.states else evalStates m v r.states
          | none => r.states }) =
        (s.updTank t fun r => { r with limits := some m }).updTank t fun r =>
          { r with states := evalStates m vol (s.tank t).states } := by
      rw [updTank_updTank]
      refine updTank_congr ?_
      simp only [hv, hh, Bool.false_eq_true, if_false]
    rw [states]
    exact standsIn_takeStates _ t vol _

end State

/-! ### The owners' answers -/

section

variable {p : List Byte} {s : State} {t : TankIx}

theorem answerTankService_known {v : Service} (hlen : p.length = 2) (hs : s.saving = false) (ht : tankAt p 0 = some t)
    (hv : serviceAt p 1 = some v) (hu : (s.tank t).service ≠ .undefined) :
    answerTankService p s =
      if v = .inService ∧ (s.tank t).strap = none then refuse .noTable s else accept [] (s.setService t v) := by
  simp only [answerTankService, hlen, hs, ht, hv, hu, ne_eq, not_true_eq_false, Bool.false_eq_true, if_false]
  split
  · rfl
  · split
    · next same => rw [State.setService_same same]
    · rfl

theorem answerTankClass_known {c : QClass} (hlen : p.length = 2) (ht : tankAt p 0 = some t)
    (hc : QClass.ofCode (byteAt p 1) = some c) (hu : (s.tank t).service ≠ .undefined) :
    answerTankClass p s = accept [] (s.changeClass t c) := by
  simp only [answerTankClass, hlen, ht, hc, hu, ne_eq, not_true_eq_false, if_false]

theorem answerTankLimits_known {m : Limits} {tb : List StrapPoint} (hlen : p.length = 21) (hs : s.saving = false)
    (ht : tankAt p 0 = some t) (hm : readLimits p = some m) (hu : (s.tank t).service ≠ .undefined)
    (hstrap : (s.tank t).strap = some tb) :
    answerTankLimits p s =
      if limitsOk (clampLimits (fullVolume tb) m) = true then
        accept (clampLimits (fullVolume tb) m).bytes (s.setLimits t (clampLimits (fullVolume tb) m))
      else refuse .badValue s := by
  simp only [answerTankLimits, hlen, hs, ht, hm, hu, hstrap, ne_eq, not_true_eq_false, Bool.false_eq_true, if_false]

theorem answerTankNotice_known {n : NoticeEnables} (hlen : p.length = 13) (ht : tankAt p 0 = some t)
    (hn : readNotices p = some n) (hu : (s.tank t).service ≠ .undefined) :
    answerTankNotice p s = accept [] (s.updTank t fun r => { r with notices := some n }) := by
  simp only [answerTankNotice, hlen, ht, hn, hu, ne_eq, not_true_eq_false, if_false]

/-- The pairs of R23. -/
theorem readBalance_pair {lim hys : Nat} (hlim : lim < 4294967296) (hhys : hys < 4294967296) :
    readBalance (u32 lim ++ u32 hys) =
      if (lim = 0 ∧ hys = 0) ∨ (lim ≤ 1800000000 ∧ hys < lim) then some (lim, hys) else none := by
  have first : u32At (u32 lim ++ u32 hys) 0 = lim := u32At_front hlim _
  have second : u32At (u32 lim ++ u32 hys) 4 = hys := by
    have alone : u32At (u32 hys) 0 = hys := by simpa using u32At_front hhys []
    rw [u32At_place]
    exact alone
  simp only [readBalance, first, second]
  split
  · split <;> simp_all
  · next hz => simp only [hz, false_and, false_or]

theorem answerBalanceSet_pair {lim hys : Nat} (hs : s.saving = false) (hlim : lim < 4294967296) (hhys : hys < 4294967296) :
    answerBalanceSet (u32 lim ++ u32 hys) s =
      if (lim = 0 ∧ hys = 0) ∨ (lim ≤ 1800000000 ∧ hys < lim) then
        accept [] ({ s with tt := { s.tt with mLim := lim, mHys := hys } }.emit .balance)
      else refuse .badValue s := by
  have hlen : (u32 lim ++ u32 hys).length = 8 := rfl
  by_cases h : (lim = 0 ∧ hys = 0) ∨ (lim ≤ 1800000000 ∧ hys < lim)
  · simp only [answerBalanceSet, hlen, hs, readBalance_pair hlim hhys, if_pos h, ne_eq, not_true_eq_false,
      Bool.false_eq_true, if_false]
  · simp only [answerBalanceSet, hlen, hs, readBalance_pair hlim hhys, if_neg h, ne_eq, not_true_eq_false,
      Bool.false_eq_true, if_false]

theorem answerActuatorSet_known {n : Nat} (hlen : p.length = 2) (hmode : s.mode.configuring = true) (hs : s.saving = false)
    (hn : natIn 10 120 (u16At p 0) = some n) :
    answerActuatorSet p s = accept (u16 n) { s with au := { s.au with travelTimeout := n } } := by
  simp only [answerActuatorSet, hlen, hmode, hs, hn, ne_eq, not_true_eq_false, Bool.not_true, Bool.false_eq_true, if_false]

theorem answerChannelSet_known {c : Channel} {v : ChannelSettings} (hlen : p.length = 5)
    (hmode : s.mode.configuring = true) (hs : s.saving = false) (hc : Channel.ofCode (byteAt p 0) = some c)
    (hv : readChannelSettings p = some v) :
    answerChannelSet p s =
      accept [] (s.updChan c fun r => { r with meterFactor := v.meterFactor, noFlowTime := v.noFlowTime }) := by
  simp only [answerChannelSet, hlen, hmode, hs, hc, hv, ne_eq, not_true_eq_false, Bool.not_true, Bool.false_eq_true, if_false]

theorem answerSupervisionSet_known {period : Nat} {kind : SupKind} (hlen : p.length = 3)
    (hmode : s.mode.configuring = true) (hs : s.saving = false) (hv : readSupervision p = some (period, kind)) :
    answerSupervisionSet p s =
      accept (u16 period ++ u8 kind.code) (s.updMode fun m => { m with period := period, kind := kind }) := by
  simp only [answerSupervisionSet, hlen, hmode, hs, hv, ne_eq, not_true_eq_false, Bool.not_true, Bool.false_eq_true, if_false]

theorem Channel.ofCode_front (c : Channel) (q : List Byte) : Channel.ofCode (byteAt (u8 c.code ++ q) 0) = some c := by
  rw [byteAt_front (Channel.code_lt c), Channel.ofCode_code]

theorem readChannelSettings_fields (c : Channel) {factor noFlow : Nat} (hf : 1 ≤ factor) (hf' : factor ≤ 10000)
    (hn : 5 ≤ noFlow) (hn' : noFlow ≤ 60) :
    readChannelSettings (u8 c.code ++ u16 factor ++ u16 noFlow) = some ⟨factor, noFlow⟩ := by
  have fields : u8 c.code ++ u16 factor ++ u16 noFlow = u8 c.code ++ (u16 factor ++ (u16 noFlow ++ [])) := by simp
  rw [fields]
  simp (disch := omega) only [readChannelSettings, u16At_place, drop_u8, drop_u16, List.drop_zero, u16At_front,
    natIn_of_mem, Option.bind_eq_bind, Option.bind_some, Option.pure_def]

theorem readSupervision_fields (kind : SupKind) {period : Nat} (hp : 2 ≤ period) (hp' : period ≤ 60) :
    readSupervision (u16 period ++ u8 kind.code) = some (period, kind) := by
  have hkind : byteAt (u16 period ++ u8 kind.code) 2 = kind.code := byteAt_u8_alone (SupKind.code_lt kind)
  simp (disch := omega) only [readSupervision, u16At_front, hkind, SupKind.ofCode_code, natIn_of_mem,
    Option.bind_eq_bind, Option.bind_some, Option.pure_def]

end

end Sys2Proof.Machine
end

section
open Sys2Proof Sys2Proof.Machine

/-- Settles O21: the owner's answer to each request, and what its notices leave standing. -/
theorem serviceAndClassAreSet : Obligations.ServiceAndClassAreSet := by
  intro s tag t hs hu
  refine ⟨fun hsave hstrap => ?_, fun b v hb hsave => ?_, ?_, fun c hc => ?_⟩
  · refine exec_refused (r := ⟨0x13, tag, tankByte t ++ u8 1⟩) (f := answerTankService) rfl rfl hs ?_
    exact (answerTankService_known (s := s.taken _) rfl hsave (tankAt_tankByte t (u8 1)) rfl hu).trans (if_pos ⟨rfl, hstrap⟩)
  · have hv : serviceAt (tankByte t ++ u8 b) 1 = some v := by rcases hb with ⟨rfl, rfl, -⟩ | ⟨rfl, rfl⟩ <;> rfl
    have htable : ¬(v = .inService ∧ (s.tank t).strap = none) := by
      rcases hb with ⟨-, -, h⟩ | ⟨-, rfl⟩
      · exact fun k => by simp [k.2] at h
      · exact fun k => nomatch k.1
    refine ⟨_, exec_accepted (r := ⟨0x13, tag, tankByte t ++ u8 b⟩) (f := answerTankService) (u := s.setService t v) rfl rfl
      hs ?_, rfl, ?_⟩
    · rw [← State.setService_taken]
      exact (answerTankService_known (s := s.taken _) rfl hsave (tankAt_tankByte t _) hv hu).trans (if_neg htable)
    · exact (((State.sameButNotices.refl _).tellTank t false .hostRequest _).answered _ _ _ _ _).standsIn_deliver
  · refine exec_accepted (r := ⟨0x14, tag, tankByte t ++ u8 (s.tank t).cls.code⟩) (f := answerTankClass) (u := s) rfl rfl hs ?_
    have hc : byteAt (tankByte t ++ u8 (s.tank t).cls.code) 1 = (s.tank t).cls.code := byteAt_u8_alone (QClass.code_lt _)
    exact (answerTankClass_known (s := s.taken _) rfl (tankAt_tankByte t _)
      ((congrArg _ hc).trans (QClass.ofCode_code _)) hu).trans
      (congrArg (accept []) (State.changeClass_same rfl))
  · have hcode : byteAt (tankByte t ++ u8 c.code) 1 = c.code := byteAt_u8_alone (QClass.code_lt _)
    have changed := exec_accepted (r := ⟨0x14, tag, tankByte t ++ u8 c.code⟩) (f := answerTankClass) (u := s.changeClass t c)
      (c := .tankClass tag (tankByte t ++ u8 c.code)) (q := []) rfl rfl hs (by
        rw [← State.changeClass_taken]
        exact answerTankClass_known (s := s.taken _) rfl (tankAt_tankByte t _) (by rw [hcode, QClass.ofCode_code]) hu)
    rw [changed, State.changeClass, if_neg hc]

/-- Settles O22: the owner's answer to each request; TANK_LIMITS meets a volume to evaluate against or does not. -/
theorem limitsAndPlainSettingsAreStored : Obligations.LimitsAndPlainSettingsAreStored := by
  refine ⟨fun s tag t m0 tb hs hsave hu hstrap h1 h2 h3 h4 h5 => ⟨fun hbad => ?_, fun hok => ?_⟩,
    fun s tag hs => ⟨fun t n hu => ?_, fun hsave lim hys hlim hhys => ?_, fun hc n hn hn' => ?_,
      fun hc c factor noFlow hf hf' hn hn' => ?_, fun hc period kind hp hp' => ?_⟩⟩
  · have limits := readLimits_bytes t h1 h2 h3 h4 h5
    refine exec_refused (r := ⟨0x15, tag, tankByte t ++ m0.bytes⟩) (f := answerTankLimits) rfl rfl hs ?_
    exact (answerTankLimits_known (s := s.taken _) rfl hsave (tankAt_tankByte t _) limits hu hstrap).trans
      (if_neg (by simp [hbad]))
  · have limits := readLimits_bytes t h1 h2 h3 h4 h5
    refine ⟨_, exec_accepted (r := ⟨0x15, tag, tankByte t ++ m0.bytes⟩) (f := answerTankLimits)
      (u := s.setLimits t (clampLimits (fullVolume tb) m0)) (q := (clampLimits (fullVolume tb) m0).bytes) rfl rfl hs ?_,
      fun x hx => ⟨fun h => ?_, fun v hv hh => ?_⟩, ?_⟩
    · rw [← State.setLimits_taken]
      exact (answerTankLimits_known (s := s.taken _) rfl hsave (tankAt_tankByte t _) limits hu hstrap).trans
        (if_pos hok)
    · rw [State.setLimits_stored h, hx]
    · rw [State.setLimits_evaluated hv hh, hx]
    · exact State.standsIn_trans (State.standsIn_answered (State.standsIn_setLimits s t _) _ _ _ _ _)
        (State.standsIn_deliver _)
  · refine exec_accepted (r := ⟨0x16, tag, tankByte t ++ n.bytes⟩) (f := answerTankNotice) rfl rfl hs ?_
    exact answerTankNotice_known (s := s.taken _) rfl (tankAt_tankByte t _) (readNotices_bytes t n) hu
  · by_cases h : (lim = 0 ∧ hys = 0) ∨ (lim ≤ 1800000000 ∧ hys < lim)
    · rw [if_pos h]
      refine exec_accepted (r := ⟨0x17, tag, u32 lim ++ u32 hys⟩) (f := answerBalanceSet) rfl rfl hs ?_
      exact (answerBalanceSet_pair (s := s.taken _) hsave hlim hhys).trans (if_pos h)
    · rw [if_neg h]
      refine exec_refused (r := ⟨0x17, tag, u32 lim ++ u32 hys⟩) (f := answerBalanceSet) rfl rfl hs ?_
      exact (answerBalanceSet_pair (s := s.taken _) hsave hlim hhys).trans (if_neg h)
  · obtain ⟨-, hmode, hsave⟩ := hc
    refine exec_accepted (r := ⟨0x2B, tag, u16 n⟩) (f := answerActuatorSet) rfl rfl hs ?_
    exact answerActuatorSet_known (s := s.taken _) rfl hmode hsave (by rw [u16At_alone (by omega), natIn_of_mem hn hn'])
  · obtain ⟨-, hmode, hsave⟩ := hc
    refine exec_accepted (r := ⟨0x48, tag, u8 c.code ++ u16 factor ++ u16 noFlow⟩) (f := answerChannelSet) rfl rfl hs ?_
    rw [← State.updChan_taken]
    exact answerChannelSet_known (s := s.taken _) rfl hmode hsave (Channel.ofCode_front c (u16 factor ++ u16 noFlow))
      (readChannelSettings_fields c hf hf' hn hn')
  · obtain ⟨-, hmode, hsave⟩ := hc
    refine exec_accepted (r := ⟨0x59, tag, u16 period ++ u8 kind.code⟩) (f := answerSupervisionSet) rfl rfl hs ?_
    exact answerSupervisionSet_known (s := s.taken _) rfl hmode hsave (readSupervision_fields kind hp hp')

end

section
/-!
PROOF. Definition, removal, strapping and readmission (O18, O20): the tank's record that stands afterwards, and what is told.
The restart of the channel marks the published values held after the tank has been told of; no notice and no sum reads that mark, so
the record can be put whole before.
-/
namespace Sys2Proof.Machine

/-- A record with its published values held, if they are present (R12). -/
def TankRecord.heldRecord (r : TankRecord) : TankRecord := { r with held := r.volume.isSome }

namespace State

variable {s : State} {t : TankIx}

theorem hold_updTank (f : TankRecord → TankRecord) : (s.updTank t f).hold t = s.updTank t fun r => (f r).heldRecord :=
  updTank_updTank f TankRecord.heldRecord

/-- The notice of a tank does not name the held mark. -/
theorem hold_tellTank (d : Bool) (c : ClassCause) (old : TankRecord) :
    (s.tellTank t d c old).hold t = (s.hold t).tellTank t d c old := by
  have record : (s.hold t).tank t = (s.tank t).heldRecord := updTank_tank_self s t _
  have change : tankChange d c old (s.tank t).heldRecord = tankChange d c old (s.tank t) := rfl
  unfold State.tellTank
  rw [record, change]
  exact apply_ite (State.hold t) _ _ _

/-- The sum of R22 does not read the held mark. -/
theorem hold_reMoment : s.reMoment.hold t = (s.hold t).reMoment := by
  have sum : momentOf (s.hold t).tt.tanks = momentOf s.tt.tanks := momentOf_updTank s t _ rfl
  unfold State.reMoment
  rw [sum]
  exact apply_ite (State.hold t) _ _ _

theorem putTank_tank_self (s : State) (t : TankIx) (r : TankRecord) : (s.putTank t r).tank t = r := by
  simp [State.putTank, State.tank]

theorem hold_setGauge (c : Option GaugeChannel) : (s.setGauge t c).hold t = (s.hold t).setGauge t c := rfl

/-- A tank's record is replaced and told, M is worked out anew, and the channel restarts (R7, R9, R26): the same as the held
record put at once. -/
theorem restartChannel_told {f : TankRecord → TankRecord} {d : TankDef} (defined : Bool) (c : ClassCause) (old : TankRecord)
    (h : (f (s.tank t)).defn = some d) :
    (((s.updTank t f).tellTank t defined c old).reMoment).restartChannel t =
      (((((s.updTank t fun _ => (f (s.tank t)).heldRecord).tellTank t defined c old).reMoment).setGauge t
        (some (GaugeChannel.fresh d (f (s.tank t)).strap s.clock ((s.gauge t).bind (·.lastSample))))).report
          .gauge (tankCode t) GaugeState.settling.code 0).tellGauge t .settling := by
  have told := putTank_sameButNotices s t (f (s.tank t)) defined c old
  have record : (((s.updTank t f).tellTank t defined c old).reMoment).tank t = f (s.tank t) :=
    (told.tank t).trans (putTank_tank_self s t _)
  have channel : (((s.updTank t f).tellTank t defined c old).reMoment).gauge t = s.gauge t := told.gauge t
  have clock : (((s.updTank t f).tellTank t defined c old).reMoment).clock = s.clock := told.clock
  rw [restartChannel_defined (record ▸ h), record, channel, clock, hold_setGauge, hold_reMoment, hold_tellTank, hold_updTank]
  rfl

/-- What such a replacement leaves standing. -/
theorem standsIn_told (s : State) (t : TankIx) (r : TankRecord) (g : Option GaugeChannel) (defined : Bool) (c : ClassCause)
    (old : TankRecord) (kind tag : Byte) (p : List Byte) (st : Status) (q : List Byte) :
    ((((s.putTank t r).setGauge t g).report .gauge (tankCode t) GaugeState.settling.code 0).answered kind tag p st q).standsIn
      ((((((((s.updTank t fun _ => r).tellTank t defined c old).reMoment).setGauge t g).report
        .gauge (tankCode t) GaugeState.settling.code 0).tellGauge t .settling).answered kind tag p st q).deliver) :=
  ((((((putTank_sameButNotices s t r defined c old).setGauge t g).report _ _ _ _).tellGauge t .settling).answered
    _ _ _ _ _).standsIn_deliver)

end State

/-! ### The records -/

/-- A table that ends at the new height stays (R7). -/
theorem TankRecord.redefine_kept {r : TankRecord} {d : TankDef} (h : ∀ tb ∈ r.strap, lastLevel tb = d.height) :
    r.redefine d = { r with defn := some d, empty := emptyFlag { r with defn := some d } } := by
  cases hs : r.strap with
  | none => simp only [TankRecord.redefine, hs, if_true]
  | some tb => simp only [TankRecord.redefine, hs, h tb hs, decide_true, if_true]

/-- Another goes, with the published values (R7). -/
theorem TankRecord.redefine_discarded {r : TankRecord} {d : TankDef} (hu : r.service ≠ .undefined)
    (h : ∃ tb ∈ r.strap, lastLevel tb ≠ d.height) :
    r.redefine d = { r.withoutVolume with defn := some d, strap := none, service := .isolated } := by
  obtain ⟨tb, hs, hne⟩ := h
  have service : (if r.service = .inService then Service.isolated else r.service) = .isolated := by
    cases hv : r.service
    · exact absurd hv hu
    all_goals rfl
  simp only [TankRecord.redefine, Option.mem_def.mp hs, hne, decide_false, Bool.false_eq_true, if_false, service]
  rfl

theorem TankRecord.redefine_kept_held {r : TankRecord} {d : TankDef} (h : ∀ tb ∈ r.strap, lastLevel tb = d.height) :
    (r.redefine d).heldRecord = { r with
      defn := some d, held := r.volume.isSome, empty := r.volume.any fun v => decide (v ≤ d.residual) } := by
  rw [TankRecord.redefine_kept h]
  cases hv : r.volume <;> simp only [TankRecord.heldRecord, emptyFlag] <;> rfl

theorem TankRecord.loadStrap_held {r : TankRecord} {d : TankDef} (tb : List StrapPoint) (h : r.defn = some d) :
    (r.loadStrap tb).heldRecord = { r with
      strap := some tb, limits := some (strapLimits (fullVolume tb) r.limits).1, held := r.volume.isSome,
      volume := r.volume.map (min (fullVolume tb)),
      empty := r.volume.any fun v => decide (min (fullVolume tb) v ≤ d.residual) } := by
  unfold TankRecord.heldRecord TankRecord.loadStrap
  cases hv : r.volume <;> simp only [emptyFlag, h] <;> rfl

/-! ### The owners' answers -/

section

variable {p : List Byte} {s : State} {t : TankIx}

theorem answerTankDefine_known {d : TankDef} (hlen : p.length = 21) (hmode : s.mode.configuring = true)
    (hs : s.saving = false) (ht : tankAt p 0 = some t) (hd : readDefinition p = some d) :
    answerTankDefine p s = accept [] (s.defineTank t d) := by
  simp only [answerTankDefine, tankDefineSize, hlen, hmode, hs, ht, hd, ne_eq, not_true_eq_false, Bool.not_true,
    Bool.false_eq_true, if_false]

theorem answerTankRemove_known (hmode : s.mode.configuring = true) (hs : s.saving = false) :
    answerTankRemove (tankByte t) s =
      if (s.tank t).service = .undefined then refuse .noSuchTank s else accept [] (s.removeTank t) := by
  have hlen : (tankByte t).length = 1 := rfl
  simp only [answerTankRemove, hlen, hmode, hs, tankAt_tankByte_alone, ne_eq, not_true_eq_false, Bool.not_true,
    Bool.false_eq_true, if_false]

theorem answerStrapLoad_badTable {d : TankDef} (hlen : strapSizeOk p = true) (hmode : s.mode.configuring = true)
    (hs : s.saving = false) (ht : tankAt p 0 = some t) (hd : (s.tank t).defn = some d) (hbad : readStrap d.height p = none) :
    answerStrapLoad p s = refuse .badTable s := by
  simp only [answerStrapLoad, hlen, hmode, hs, ht, hd, hbad, Bool.not_true, Bool.false_eq_true, if_false]

theorem answerStrapLoad_table {d : TankDef} {tb : List StrapPoint} (hlen : strapSizeOk p = true)
    (hmode : s.mode.configuring = true) (hs : s.saving = false) (ht : tankAt p 0 = some t) (hd : (s.tank t).defn = some d)
    (htb : readStrap d.height p = some tb) :
    answerStrapLoad p s = accept (mark (strapLimits (fullVolume tb) (s.tank t).limits).2) (s.loadStrap t tb) := by
  simp only [answerStrapLoad, hlen, hmode, hs, ht, hd, htb, Bool.not_true, Bool.false_eq_true, if_false]

theorem answerGaugeReadmit_undefined (h : s.gauge t = none) :
    answerGaugeReadmit (tankByte t) s = refuse .noSuchTank s := by
  have hlen : (tankByte t).length = 1 := rfl
  simp only [answerGaugeReadmit, hlen, tankAt_tankByte_alone, h, ne_eq, not_true_eq_false, if_false]

theorem answerGaugeReadmit_channel {c : GaugeChannel} (h : s.gauge t = some c) :
    answerGaugeReadmit (tankByte t) s = if c.state = .failed then accept [] (s.readmit t c) else refuse .badValue s := by
  have hlen : (tankByte t).length = 1 := rfl
  simp only [answerGaugeReadmit, hlen, tankAt_tankByte_alone, h, ne_eq, not_true_eq_false, if_false]

end

/-- The record of TANK_DEFINE: a new one for an UNDEFINED tank, else the redefined one (R6, R7). -/
def TankRecord.defined (d : TankDef) (r : TankRecord) : TankRecord :=
  if r.service = .undefined then r.define d else r.redefine d

theorem TankRecord.defined_defn (d : TankDef) (r : TankRecord) : (r.defined d).defn = some d := by
  unfold TankRecord.defined
  split
  · rfl
  · unfold TankRecord.redefine
    dsimp only
    split <;> rfl

theorem State.defineTank_eq (s : State) (t : TankIx) (d : TankDef) :
    s.defineTank t d =
      (((s.updTank t (TankRecord.defined d)).tellTank t true .hostRequest (s.tank t)).reMoment).restartChannel t := by
  have record : s.updTank t (if (s.tank t).service = .undefined then TankRecord.define d else TankRecord.redefine d) =
      s.updTank t (TankRecord.defined d) := by
    refine State.updTank_congr ?_
    unfold TankRecord.defined
    split <;> rfl
  rw [State.defineTank, record]

/-- Whether the defaults are taken (R9). -/
theorem strapLimits_cases (f : Nat) (old : Option Limits) :
    ((∀ m ∈ old, limitsOk (clampLimits f m) = false) → strapLimits f old = (defaultLimits f, true)) ∧
      ∀ m ∈ old, limitsOk (clampLimits f m) = true → strapLimits f old = (clampLimits f m, false) := by
  cases old with
  | none => exact ⟨fun _ => rfl, fun _ h => nomatch h⟩
  | some m =>
    refine ⟨fun h => ?_, fun m' hm' h => ?_⟩
    · simp [strapLimits, h m rfl]
    · obtain rfl := Option.some.inj hm'
      simp [strapLimits, h]

end Sys2Proof.Machine

section
open Sys2Proof Sys2Proof.Machine

/-- Settles O18: the record with its held mark is put at once, and what is told after it is notices alone. -/
theorem tanksAreDefinedAndRemoved : Obligations.TanksAreDefinedAndRemoved := by
  refine ⟨fun s tag p t d hc hlen ht hd => ?_, fun s tag t hc => ⟨fun hu => ?_, fun hu r hr => ?_⟩⟩
  · obtain ⟨hs, hmode, hsave⟩ := hc
    refine ⟨_, ((s.tank t).defined d).heldRecord, _, exec_accepted (r := ⟨0x10, tag, p⟩) (f := answerTankDefine) (q := [])
      (u := s.defineTank t d) rfl rfl hs ?_, rfl, ?_, ?_, fun hu => ?_, fun hu hkept => ?_, fun hu hgone => ?_⟩
    · rw [← State.defineTank_taken]
      exact answerTankDefine_known (s := s.taken _) hlen hmode hsave ht hd
    · rw [State.defineTank_eq, State.restartChannel_told true .hostRequest _ (TankRecord.defined_defn d _)]
      rfl
    · rw [State.defineTank_eq, State.restartChannel_told true .hostRequest _ (TankRecord.defined_defn d _)]
      exact State.standsIn_told s t _ _ true .hostRequest _ _ _ _ _ _
    · rw [TankRecord.defined, if_pos hu]
      rfl
    · rw [TankRecord.defined, if_neg hu, TankRecord.redefine_kept_held hkept]
    · rw [TankRecord.defined, if_neg hu, TankRecord.redefine_discarded hu hgone]
      rfl
  · obtain ⟨hs, hmode, hsave⟩ := hc
    refine exec_refused (r := ⟨0x11, tag, tankByte t⟩) (f := answerTankRemove) rfl rfl hs ?_
    exact (answerTankRemove_known (s := s.taken _) hmode hsave).trans (if_pos hu)
  · obtain ⟨hs, hmode, hsave⟩ := hc
    subst hr
    refine ⟨_, exec_accepted (r := ⟨0x11, tag, tankByte t⟩) (f := answerTankRemove) (u := s.removeTank t) (q := []) rfl rfl
      hs ?_, rfl, ?_⟩
    · rw [← State.removeTank_taken]
      exact (answerTankRemove_known (s := s.taken _) hmode hsave).trans (if_neg hu)
    · exact ((State.putTank_sameButNotices (s.setGauge t none) t _ true .hostRequest (s.tank t)).answered
        _ _ _ _ _).standsIn_deliver

/-- Settles O20: as for a definition, with the table's own check, and the readmission of a FAILED channel. -/
theorem strapLoadsAndReadmissionsRestartGauges : Obligations.StrapLoadsAndReadmissionsRestartGauges := by
  refine ⟨fun s tag p t d hc hlen ht hd => ⟨fun hbad => ?_, fun tb htb => ?_⟩,
    fun s tag t hs => ⟨fun hg => ?_, fun c hg hc => ?_, fun c hg hc r g hr hgc => ?_⟩⟩
  · obtain ⟨hs, hmode, hsave⟩ := hc
    refine exec_refused (r := ⟨0x12, tag, p⟩) (f := answerStrapLoad) rfl rfl hs ?_
    exact answerStrapLoad_badTable (s := s.taken _) hlen hmode hsave ht hd hbad
  · obtain ⟨hs, hmode, hsave⟩ := hc
    obtain ⟨hdefault, hclamp⟩ := strapLimits_cases (fullVolume tb) (s.tank t).limits
    have record := TankRecord.loadStrap_held tb hd
    have told := State.restartChannel_told (s := s) (t := t) (f := TankRecord.loadStrap tb) false .hostRequest (s.tank t) hd
    refine ⟨_, _, (strapLimits (fullVolume tb) (s.tank t).limits).2, ((s.tank t).loadStrap tb).heldRecord, _,
      exec_accepted (r := ⟨0x12, tag, p⟩) (f := answerStrapLoad)
      (q := mark (strapLimits (fullVolume tb) (s.tank t).limits).2) (u := s.loadStrap t tb) rfl rfl hs ?_, record, rfl,
      ?_, ?_, fun h => ?_, fun m hm h => ?_⟩
    · rw [← State.loadStrap_taken]
      exact answerStrapLoad_table (s := s.taken _) hlen hmode hsave ht hd htb
    · exact congrArg (fun x => (State.answered 0x12 tag p .ok _ x).deliver) told
    · rw [State.loadStrap, told]
      exact State.standsIn_told s t _ _ false .hostRequest _ _ _ _ _ _
    · rw [hdefault h]
      exact ⟨rfl, rfl⟩
    · rw [hclamp m hm h]
      exact ⟨rfl, rfl⟩
  · refine exec_refused (r := ⟨0x20, tag, tankByte t⟩) (f := answerGaugeReadmit) rfl rfl hs ?_
    exact answerGaugeReadmit_undefined (s := s.taken _) hg
  · refine exec_refused (r := ⟨0x20, tag, tankByte t⟩) (f := answerGaugeReadmit) rfl rfl hs ?_
    exact (answerGaugeReadmit_channel (s := s.taken _) hg).trans (if_neg hc)
  · subst hr hgc
    refine ⟨_, exec_accepted (r := ⟨0x20, tag, tankByte t⟩) (f := answerGaugeReadmit) (u := s.readmit t c) (q := []) rfl rfl
      hs ?_, rfl, ?_⟩
    · rw [← State.readmit_taken]
      exact (answerGaugeReadmit_channel (s := s.taken _) hg).trans (if_pos hc)
    · exact (((((State.putTank_sameButNotices (s.setGauge t (some c.readmitted)) t _ false .hostRequest (s.tank t)).report
        _ _ _ _).tellGauge t .settling).answered _ _ _ _ _).standsIn_deliver)

end
end

section
/-!
PROOF. What is told of a change to a tank (O19): the notice and its receivers, the arrangements of notices without an order, the
crossings with their reports and wake causes, M, and the evaluation of the thresholds.
-/
namespace Sys2Proof.Machine

/-! ### The notice of a tank -/

/-- What has changed, read from the tank as it stands. -/
theorem tankChange_eq (defined : Bool) (cause : ClassCause) (old new : TankRecord) :
    tankChange defined cause old new =
      { definition := defined, service := decide (new.service ≠ old.service),
        cls := if new.cls = old.cls then none else some cause,
        states := if new.states = old.states then none else some new.states,
        crossings := crossings old.states new.states, empty := new.empty != old.empty } := by
  have empty : decide (old.empty ≠ new.empty) = (new.empty != old.empty) := by
    cases old.empty <;> cases new.empty <;> rfl
  simp only [tankChange, empty, eq_comm (a := old.cls), eq_comm (a := old.states), ne_comm (a := old.service)]

namespace State

variable {s : State} {t : TankIx} {old : TankRecord} {defined : Bool} {cause : ClassCause}

theorem tellTank_something (h : (tankChange defined cause old (s.tank t)).something = true) :
    s.tellTank t defined cause old =
      s.tell ([.tank .ir t (tankChange defined cause old (s.tank t)), .tank .te t (tankChange defined cause old (s.tank t)),
          .tank .ss t (tankChange defined cause old (s.tank t))] ++
        if (tankChange defined cause old (s.tank t)).definition || (tankChange defined cause old (s.tank t)).service then
          [.tank .pmc t (tankChange defined cause old (s.tank t))] else []) := if_pos h

theorem tellTank_unchanged (hs : (s.tank t).service = old.service) (hc : (s.tank t).cls = old.cls)
    (hst : (s.tank t).states = old.states) (he : (s.tank t).empty = old.empty) : s.tellTank t false cause old = s := by
  simp [State.tellTank, tankChange, TankChange.something, hs, hc, hst, he]

/-- A definition and a change of service reach the Plant Mode Controller too (R164). -/
theorem tellTank_service (h : defined = true ∨ (s.tank t).service ≠ old.service) :
    s.tellTank t defined cause old =
      s.tell [.tank .ir t (tankChange defined cause old (s.tank t)), .tank .te t (tankChange defined cause old (s.tank t)),
        .tank .ss t (tankChange defined cause old (s.tank t)), .tank .pmc t (tankChange defined cause old (s.tank t))] := by
  have told : ((tankChange defined cause old (s.tank t)).definition || (tankChange defined cause old (s.tank t)).service) =
      true := by
    simpa [tankChange, eq_comm (a := old.service)] using h
  rw [tellTank_something (by simp only [TankChange.something, told, Bool.true_or]), if_pos told]
  rfl

theorem tellTank_others (hs : (s.tank t).service = old.service)
    (h : (s.tank t).cls ≠ old.cls ∨ (s.tank t).states ≠ old.states ∨ (s.tank t).empty ≠ old.empty) :
    s.tellTank t false cause old =
      s.tell [.tank .ir t (tankChange false cause old (s.tank t)), .tank .te t (tankChange false cause old (s.tank t)),
        .tank .ss t (tankChange false cause old (s.tank t))] := by
  have changed : (tankChange false cause old (s.tank t)).something = true := by
    rcases h with h | h | h <;> simp [TankChange.something, tankChange, Ne.symm h]
  rw [tellTank_something changed, if_neg (by simp [tankChange, hs])]
  rfl

end State

/-! ### Arrangements -/

/-- Every arrangement has its number: the place of the head, and the number of the rest's arrangement (log entry 5). -/
theorem permute_surjective {α : Type} {l ms : List α} (h : l.Perm ms) : ∃ k, permute k ms = l := by
  induction ms generalizing l with
  | nil => exact ⟨0, h.eq_nil.symm⟩
  | cons x xs ih =>
    obtain ⟨i, hi, rfl⟩ := List.getElem_of_mem (h.symm.subset List.mem_cons_self)
    have rest : (l.eraseIdx i).Perm xs := ((List.getElem_cons_eraseIdx_perm hi).trans h).cons_inv
    obtain ⟨k, hk⟩ := ih rest
    have place : i < xs.length + 1 := hi.trans_eq h.length_eq
    refine ⟨i + (xs.length + 1) * k, ?_⟩
    rw [permute, Nat.add_mul_div_left _ _ (Nat.succ_pos _), Nat.div_eq_of_lt place, Nat.zero_add, hk,
      Nat.add_mul_mod_self_left, Nat.mod_eq_of_lt place, List.insertIdx_eraseIdx_getElem hi]

/-! ### Crossings -/

theorem mem_crossings (old new : ThStates) (th : Threshold) :
    ((th, .falling) ∈ crossings old new ↔ old.get th = .above ∧ new.get th = .below) ∧
      ((th, .rising) ∈ crossings old new ↔ old.get th = .below ∧ new.get th = .above) := by
  cases th <;> simp [crossings]

/-- The falling crossings stand before the rising ones, each kind in its order (R16). -/
theorem crossings_sublist (old new : ThStates) :
    (crossings old new).Sublist [(.hh, .falling), (.h, .falling), (.l, .falling), (.ll, .falling), (.ll, .rising),
      (.l, .rising), (.h, .rising), (.hh, .rising)] :=
  List.Sublist.append (List.filter_sublist.map (·, Direction.falling)) (List.filter_sublist.map (·, Direction.rising))

namespace State

/-- The LEVEL report of a crossing (R17). -/
def levelReport (s : State) (t : TankIx) (vol : Nat) (x : Threshold × Direction) : Report :=
  ⟨.level, tankCode t, x.1.code * 16 + x.2.code, s.clock, vol⟩

/-- One crossing taken. -/
theorem takeCrossing_effect (s : State) (t : TankIx) (vol : Nat) (n : NoticeEnables) (x : Threshold × Direction) :
    State.takeCrossing t vol n s x = { s with
      lu := if (n.get x.1).notice x.2 then s.lu.append (s.levelReport t vol x) else s.lu,
      msgs := if (n.get x.1).wake && decide (s.mode = .layup) then s.msgs ++ [.wake t x.1 x.2] else s.msgs } := by
  have mode : (s.noteCrossing t vol n x).mode = s.mode := by
    unfold State.noteCrossing
    split <;> rfl
  rw [State.takeCrossing_eq, mode]
  cases hnote : (n.get x.1).notice x.2 <;> cases (n.get x.1).wake && decide (s.mode = .layup) <;>
    simp only [State.noteCrossing, hnote, Bool.false_eq_true, if_true, if_false] <;> rfl

/-- All that the crossings of one evaluation queue and send: each in turn its report, and in LAYUP its wake cause (R16, R17). -/
theorem foldl_takeCrossing (s : State) (t : TankIx) (vol : Nat) (n : NoticeEnables) (cs : List (Threshold × Direction)) :
    cs.foldl (State.takeCrossing t vol n) s = { s with
      lu := (cs.filter fun x => (n.get x.1).notice x.2).foldl (fun l x => l.append (s.levelReport t vol x)) s.lu,
      msgs := s.msgs ++
        if s.mode = .layup then (cs.filter fun x => (n.get x.1).wake).map fun x => .wake t x.1 x.2 else [] } := by
  induction cs generalizing s with
  | nil => simp
  | cons x cs ih =>
    have queue : (cs.filter fun x => (n.get x.1).notice x.2).foldl (fun l x => l.append (s.levelReport t vol x))
        (if (n.get x.1).notice x.2 then s.lu.append (s.levelReport t vol x) else s.lu) =
        ((x :: cs).filter fun x => (n.get x.1).notice x.2).foldl (fun l x => l.append (s.levelReport t vol x)) s.lu := by
      cases hnote : (n.get x.1).notice x.2
      · rw [List.filter_cons_of_neg (by simp [hnote])]
        rfl
      · rw [List.filter_cons_of_pos (by simp [hnote])]
        rfl
    have causes : ((if (n.get x.1).wake && decide (s.mode = .layup) then s.msgs ++ [.wake t x.1 x.2] else s.msgs) ++
        if s.mode = .layup then (cs.filter fun x => (n.get x.1).wake).map fun x => Msg.wake t x.1 x.2 else []) =
        s.msgs ++ if s.mode = .layup then ((x :: cs).filter fun x => (n.get x.1).wake).map fun x => .wake t x.1 x.2
          else [] := by
      by_cases hmode : s.mode = .layup
      · cases hwake : (n.get x.1).wake <;> simp [hmode, hwake]
      · simp [hmode]
    rw [List.foldl_cons, ih, takeCrossing_effect, ← queue, ← causes]
    rfl

end State

/-! ### Evaluations -/

/-- A threshold at v that is ABOVE falls below v less the hysteresis h (R15). -/
theorem evalThreshold_cases (v h vol : Nat) (a : ThState) :
    (a = .below → evalThreshold v h vol a = if v ≤ vol then .above else .below) ∧
      (a = .above → evalThreshold v h vol a = if vol + h < v then .below else .above) ∧
      (a = .unknown → evalThreshold v h vol a = .unknown) := by
  refine ⟨?_, ?_, ?_⟩ <;> rintro rfl
  · rfl
  · have fall : vol < v - h ↔ vol + h < v := Nat.lt_sub_iff_add_lt
    simp only [evalThreshold, fall]
  · rfl

theorem evalStates_cases (m : Limits) (vol : Nat) (old : ThStates) (v : Nat) (a b : ThState)
    (h : (v, a, b) ∈ [(m.ll, old.ll, (evalStates m vol old).ll), (m.l, old.l, (evalStates m vol old).l),
      (m.h, old.h, (evalStates m vol old).h), (m.hh, old.hh, (evalStates m vol old).hh)]) :
    b = evalThreshold v m.hysteresis vol a := by
  simp only [List.mem_cons, Prod.mk.injEq, List.not_mem_nil, or_false] at h
  rcases h with ⟨rfl, rfl, rfl⟩ | ⟨rfl, rfl, rfl⟩ | ⟨rfl, rfl, rfl⟩ | ⟨rfl, rfl, rfl⟩ <;> rfl

theorem firstStates_cases (m : Limits) (vol v : Nat) (b : ThState)
    (h : (v, b) ∈ [(m.ll, (firstStates m vol).ll), (m.l, (firstStates m vol).l), (m.h, (firstStates m vol).h),
      (m.hh, (firstStates m vol).hh)]) : b = if v ≤ vol then .above else .below := by
  simp only [List.mem_cons, Prod.mk.injEq, List.not_mem_nil, or_false] at h
  rcases h with ⟨rfl, rfl⟩ | ⟨rfl, rfl⟩ | ⟨rfl, rfl⟩ | ⟨rfl, rfl⟩ <;> rfl

end Sys2Proof.Machine

section
open Sys2Proof Sys2Proof.Machine

/-- Settles O19: each part is one operation's effect, read off its branches. -/
theorem tankChangesAreTold : Obligations.TankChangesAreTold := by
  refine ⟨fun s t defined cause old n hn => ?_, fun ms l => ?_, fun s ms => ?_, fun old new => ?_, fun s t vol new => ?_,
    fun s => ?_, fun m vol old new hnew v a b h => ?_, fun r vol new hnew => ?_⟩
  · rw [← tankChange_eq] at hn
    subst hn
    refine ⟨fun hd hs hc hst he => ?_, State.tellTank_service, fun hd hs h => ?_⟩
    · rw [hd, State.tellTank_unchanged hs hc hst he]
    · subst hd
      exact State.tellTank_others hs h
  · refine ⟨fun ⟨k, hk⟩ => ?_, permute_surjective⟩
    rw [← hk]
    exact permute_perm k ms
  · exact ⟨_, permute_perm _ ms, rfl⟩
  · exact ⟨crossings_sublist old new, mem_crossings old new⟩
  · refine ⟨fun h => State.takeStates_silent h vol new, fun n h cs hcs => ?_⟩
    subst hcs
    rw [State.takeStates_noticed h, State.foldl_takeCrossing]
    rfl
  · refine ⟨fun h => if_pos h.symm, fun h => if_neg (Ne.symm h), fun t g => ⟨_, permute_perm _ _, rfl⟩⟩
  · subst hnew
    rw [evalStates_cases m vol old v a b h]
    exact evalThreshold_cases v m.hysteresis vol a
  · subst hnew
    refine ⟨fun h => ?_, fun m h => ⟨fun hv => ?_, fun hv v b hb => ?_⟩⟩
    · simp only [publishedStates, h]
    · obtain ⟨x, hx⟩ := Option.ne_none_iff_exists'.mp hv
      simp only [publishedStates, h, hx, Option.isNone_some, Bool.false_eq_true, if_false]
    · simp only [publishedStates, h, hv, Option.isNone_none, if_true] at hb
      exact firstStates_cases m vol v b hb

end
end

section
/-!
PROOF. The checks that every request meets before its own (O6): the size, the mode and the save in flight, and then the ranges.
A reader that yields a value has found every field in its range, so a field outside its range is answered BAD_VALUE.
-/
namespace Sys2Proof.Machine

/-! ### What a reader has found -/

theorem natIn_eq_some {lo hi n m : Nat} (h : natIn lo hi n = some m) : (lo ≤ n ∧ n ≤ hi) ∧ m = n := by
  unfold natIn at h
  split at h
  · next k => exact ⟨k, (Option.some.inj h).symm⟩
  · cases h

theorem intIn_eq_some {lo hi z x : Int} (h : intIn lo hi z = some x) : lo ≤ z ∧ z ≤ hi := by
  unfold intIn at h
  split at h
  · next k => exact k
  · cases h

theorem lengthIn_eq_some {lo hi n : Nat} {z : Int} (h : lengthIn lo hi z = some n) : (lo : Int) ≤ z ∧ z ≤ hi := by
  unfold lengthIn at h
  split at h
  · next k => exact k
  · cases h

theorem tankOfCode_eq_some {n : Nat} {t : TankIx} (h : tankOfCode n = some t) : tankCode t = n := by
  unfold tankOfCode at h
  split at h
  · cases h
    simp only [tankCode]
    omega
  · cases h

theorem tankCode_range (t : TankIx) : 1 ≤ tankCode t ∧ tankCode t ≤ 12 := by
  have h := t.isLt
  simp only [tankCode]
  omega

theorem tankAt_eq_some {p : List Byte} {i : Nat} {t : TankIx} (h : tankAt p i = some t) : 1 ≤ byteAt p i ∧ byteAt p i ≤ 12 :=
  tankOfCode_eq_some h ▸ tankCode_range t

theorem slotAt_eq_some {p : List Byte} {i : Nat} {k : Fin 8} (h : slotAt p i = some k) : 1 ≤ byteAt p i ∧ byteAt p i ≤ 8 := by
  unfold slotAt at h
  dsimp only at h
  split at h
  · next k => exact k
  · cases h

theorem windowLengthOk_eq_some {n m : Nat} (h : windowLengthOk n = some m) : n ∈ [1, 2, 4, 8, 16] := by
  unfold windowLengthOk at h
  split at h
  · next k => simpa using k
  · cases h

theorem Source.ofCode_eq_some {n : Nat} {x : Source} (h : Source.ofCode n = some x) : 1 ≤ n ∧ n ≤ 3 := by
  unfold Source.ofCode at h
  split at h <;> cases h <;> omega

theorem Channel.ofCode_eq_some {n : Nat} {c : Channel} (h : Channel.ofCode n = some c) : 1 ≤ n ∧ n ≤ 2 := by
  unfold Channel.ofCode at h
  split at h <;> cases h <;> omega

theorem QClass.ofCode_eq_some {n : Nat} {c : QClass} (h : QClass.ofCode n = some c) : 1 ≤ n ∧ n ≤ 3 := by
  unfold QClass.ofCode at h
  split at h <;> cases h <;> omega

theorem ValveEnd.ofCode_eq_some {n : Nat} {e : ValveEnd} (h : ValveEnd.ofCode n = some e) : 1 ≤ n ∧ n ≤ 2 := by
  unfold ValveEnd.ofCode at h
  split at h <;> cases h <;> omega

theorem SupKind.ofCode_eq_some {n : Nat} {k : SupKind} (h : SupKind.ofCode n = some k) : 1 ≤ n ∧ n ≤ 2 := by
  unfold SupKind.ofCode at h
  split at h <;> cases h <;> omega

theorem Valve.ofNumber_eq_some {n : Nat} {v : Valve} (h : Valve.ofNumber n = some v) : 1 ≤ n ∧ n ≤ 77 := by
  unfold Valve.ofNumber at h
  split at h
  · omega
  · split at h <;> cases h <;> omega

theorem Channel.ofPumpNumber_eq_some {n : Nat} {c : Channel} (h : Channel.ofPumpNumber n = some c) : n ∈ [81, 82] := by
  unfold Channel.ofPumpNumber at h
  split at h <;> cases h <;> decide

theorem serviceAt_eq_some {p : List Byte} {i : Nat} {v : Service} (h : serviceAt p i = some v) :
    1 ≤ byteAt p i ∧ byteAt p i ≤ 2 := by
  unfold serviceAt at h
  split at h <;> cases h <;> omega

theorem giveAt_eq_some {p : List Byte} {i : Nat} {g : Bool} (h : giveAt p i = some g) : 1 ≤ byteAt p i ∧ byteAt p i ≤ 2 := by
  unfold giveAt at h
  split at h <;> cases h <;> omega

theorem watermakerAt_eq_some {p : List Byte} {i : Nat} {w : Watermaker} (h : watermakerAt p i = some w) :
    1 ≤ byteAt p i ∧ byteAt p i ≤ 2 := by
  unfold watermakerAt at h
  split at h <;> cases h <;> omega

theorem Mode.code_of_ofCode {n : Nat} {m : Mode} (h : Mode.ofCode n = some m) : n = m.code := by
  unfold Mode.ofCode at h
  split at h <;> cases h <;> rfl

theorem startModeAt_eq_some {p : List Byte} {i : Nat} {m : Mode} (h : startModeAt p i = some m) :
    byteAt p i ∈ [Mode.run.code, Mode.harbour.code, Mode.layup.code] := by
  unfold startModeAt at h
  split at h
  · next k => simp [Mode.code_of_ofCode k]
  · next k => simp [Mode.code_of_ofCode k]
  · next k => simp [Mode.code_of_ofCode k]
  · cases h

/-- The ranges of R6. -/
theorem readDefinition_ranges {p : List Byte} {d : TankDef} (h : readDefinition p = some d) :
    (500 ≤ i16At p 1 ∧ i16At p 1 ≤ 8000) ∧ (u32At p 3 ≤ 5000) ∧ (-1500 ≤ i16At p 7 ∧ i16At p 7 ≤ 1500) ∧
      (500 ≤ i16At p 10 ∧ i16At p 10 ≤ 8000) ∧ (-500 ≤ i16At p 12 ∧ i16At p 12 ≤ 500) ∧
      (1 ≤ i16At p 14 ∧ i16At p 14 ≤ 2000) ∧ byteAt p 16 ∈ [1, 2, 4, 8, 16] ∧
      (-20000 ≤ i16At p 17 ∧ i16At p 17 ≤ 20000) ∧ (-20000 ≤ i16At p 19 ∧ i16At p 19 ≤ 20000) := by
  simp only [readDefinition, Option.bind_eq_bind, Option.bind_eq_some_iff] at h
  obtain ⟨_, height, _, residual, _, arm, _, -, _, span, _, zero, _, step, _, window, _, dx, _, dy, -⟩ := h
  exact ⟨lengthIn_eq_some height, (natIn_eq_some residual).1.2, intIn_eq_some arm, lengthIn_eq_some span, intIn_eq_some zero,
    lengthIn_eq_some step, windowLengthOk_eq_some window, intIn_eq_some dx, intIn_eq_some dy⟩

/-- The ranges of R18. -/
theorem readLimits_ranges {p : List Byte} {m : Limits} (h : readLimits p = some m) :
    u32At p 1 ≤ 99999 ∧ u32At p 5 ≤ 99999 ∧ u32At p 9 ≤ 99999 ∧ u32At p 13 ≤ 99999 ∧ u32At p 17 ≤ 99999 := by
  simp only [readLimits, Option.bind_eq_bind, Option.bind_eq_some_iff] at h
  obtain ⟨_, h1, _, h2, _, h3, _, h4, _, h5, -⟩ := h
  exact ⟨(natIn_eq_some h1).1.2, (natIn_eq_some h2).1.2, (natIn_eq_some h3).1.2, (natIn_eq_some h4).1.2,
    (natIn_eq_some h5).1.2⟩

/-- The ranges of R95. -/
theorem readSourceSettings_ranges {p : List Byte} {v : SourceSettings} (h : readSourceSettings p = some v) :
    (10 ≤ u16At p 1 ∧ u16At p 1 ≤ 9000) ∧ (u16At p 1 + 1 ≤ u16At p 3 ∧ u16At p 3 ≤ 9999) ∧
      (1 ≤ byteAt p 5 ∧ byteAt p 5 ≤ 8) ∧ (30 ≤ u16At p 6 ∧ u16At p 6 ≤ 900) ∧
      (u16At p 8 = 0 ∨ 60 ≤ u16At p 8 ∧ u16At p 8 ≤ 3600) ∧ (1 ≤ u16At p 10 ∧ u16At p 10 ≤ 10000) ∧
      u16At p 12 ≤ 9999 ∧ u16At p 14 ≤ 9999 := by
  simp only [readSourceSettings, Option.bind_eq_bind, Option.bind_eq_some_iff] at h
  obtain ⟨_, hgood, _, fair, _, improvement, _, flush, _, dump, _, factor, _, reference, _, tolerance, -⟩ := h
  obtain ⟨good, rfl⟩ := natIn_eq_some hgood
  have limit : u16At p 8 = 0 ∨ 60 ≤ u16At p 8 ∧ u16At p 8 ≤ 3600 := by
    split at dump
    · next hz => exact .inl hz
    · exact .inr (natIn_eq_some dump).1
  exact ⟨good, (natIn_eq_some fair).1, (natIn_eq_some improvement).1, (natIn_eq_some flush).1, limit,
    (natIn_eq_some factor).1, (natIn_eq_some reference).1.2, (natIn_eq_some tolerance).1.2⟩

theorem readChannelSettings_ranges {p : List Byte} {v : ChannelSettings} (h : readChannelSettings p = some v) :
    (1 ≤ u16At p 1 ∧ u16At p 1 ≤ 10000) ∧ (5 ≤ u16At p 3 ∧ u16At p 3 ≤ 60) := by
  simp only [readChannelSettings, Option.bind_eq_bind, Option.bind_eq_some_iff] at h
  obtain ⟨_, factor, _, noFlow, -⟩ := h
  exact ⟨(natIn_eq_some factor).1, (natIn_eq_some noFlow).1⟩

theorem readSupervision_ranges {p : List Byte} {v : Nat × SupKind} (h : readSupervision p = some v) :
    (2 ≤ u16At p 0 ∧ u16At p 0 ≤ 60) ∧ (1 ≤ byteAt p 2 ∧ byteAt p 2 ≤ 2) := by
  simp only [readSupervision, Option.bind_eq_bind, Option.bind_eq_some_iff] at h
  obtain ⟨_, period, _, kind, -⟩ := h
  exact ⟨(natIn_eq_some period).1, SupKind.ofCode_eq_some kind⟩

/-- The tanks that a list of bytes names carry those bytes as their codes. -/
theorem readTanks_eq_some {l : List Byte} {g : List TankIx} (h : readTanks l = some g) :
    g.map tankCode = l.map BitVec.toNat := by
  induction l generalizing g with
  | nil =>
    cases h
    rfl
  | cons b l ih =>
    simp only [readTanks, Option.bind_eq_bind, Option.bind_eq_some_iff, Option.pure_def, Option.some.injEq] at h
    obtain ⟨t, ht, ts, hts, rfl⟩ := h
    rw [List.map_cons, List.map_cons, ih hts, tankOfCode_eq_some ht]

theorem readTanks_range {l : List Byte} {g : List TankIx} (h : readTanks l = some g) :
    ∀ b ∈ l, 1 ≤ b.toNat ∧ b.toNat ≤ 12 := by
  intro b hb
  have code : b.toNat ∈ g.map tankCode := readTanks_eq_some h ▸ List.mem_map_of_mem hb
  obtain ⟨t, -, ht⟩ := List.mem_map.mp code
  exact ht ▸ tankCode_range t

theorem tankCode_injective : Function.Injective tankCode := by
  intro t u h
  simp only [tankCode] at h
  exact Fin.ext (by omega)

theorem readTanks_nodup {l : List Byte} {g : List TankIx} (h : readTanks l = some g) (hg : g.Nodup) : l.Nodup := by
  have codes : (l.map BitVec.toNat).Nodup := readTanks_eq_some h ▸ hg.map tankCode_injective
  exact codes.of_map

theorem readDuty_ranges {p : List Byte} {l : List TankIx} (h : readDuty p = some l) :
    (∀ b ∈ p.drop 1, 1 ≤ b.toNat ∧ b.toNat ≤ 12) ∧ (p.drop 1).Nodup := by
  simp only [readDuty, Option.bind_eq_bind, Option.bind_eq_some_iff] at h
  obtain ⟨g, hg, hl⟩ := h
  split at hl
  · next hn => exact ⟨readTanks_range hg, readTanks_nodup hg hn⟩
  · cases hl

/-- The ranges of R79: action, class, group. -/
theorem readRule_ranges {p : List Byte} {r : Rule} (h : readRule p = some r) (hsize : ruleSizeOk p = true) :
    (byteAt p 4 = 1 ∨ byteAt p 4 = 2 ∧ (1 ≤ byteAt p 5 ∧ byteAt p 5 ≤ 3) ∧ 1 ≤ byteAt p 6 ∧ byteAt p 6 ≤ 4) ∧
      (∀ b ∈ p.drop 7, 1 ≤ b.toNat ∧ b.toNat ≤ 12) ∧ (p.drop 7).Nodup := by
  obtain ⟨-, hlen⟩ := of_decide_eq_true hsize
  simp only [readRule, Option.bind_eq_bind, Option.bind_eq_some_iff] at h
  obtain ⟨_, -, _, -, _, -, group, hgroup, h⟩ := h
  have count : group.length = byteAt p 6 := by
    have k := congrArg List.length (readTanks_eq_some hgroup)
    simp only [List.length_map, List.length_drop] at k
    omega
  split at h
  · next hn =>
    refine ⟨?_, readTanks_range hgroup, readTanks_nodup hgroup hn⟩
    split at h
    · next hdump => exact .inl hdump
    · next hroute =>
      simp only [Option.bind_eq_some_iff] at h
      obtain ⟨c, hc, h⟩ := h
      split at h
      · next hg => exact .inr ⟨hroute, QClass.ofCode_eq_some hc, by omega⟩
      · cases h
    · cases h
  · cases h

end Sys2Proof.Machine
end

section
/-!
PROOF. The checks of each request's owner in their order (O6): size, mode, save in flight, values.
-/
namespace Sys2Proof.Machine

/-! ### The size -/

theorem kind_of_toNat {kind : Byte} {n : Nat} (h : kind.toNat = n) : kind = BitVec.ofNat 8 n := by
  subst h
  simp

/-- Each owner looks at the size first. -/
theorem handler_badLength {kind : Byte} {p : List Byte} (h : payloadSizeOk kind p = false) (s : State) :
    ∃ f, handlerOf kind = some f ∧ f p s = refuse .badLength s := by
  unfold payloadSizeOk at h
  split at h
  all_goals
    rename_i hk
  case h_48 => cases h
  all_goals
    rw [kind_of_toNat hk]
    exact ⟨_, rfl, if_pos (by simpa [tankDefineSize] using h)⟩

/-! ### Mode, save and values -/

/-- A request whose size is right meets its owner's mode check, then the save in flight, then the check of its values, which
`bad` values do not pass. -/
structure OwnerChecks (f : Handler) (takes : Mode → Bool) (bad : Prop) (p : List Byte) (s : State) : Prop where
  mode : takes s.mode = false → f p s = refuse .modeConflict s
  busy : takes s.mode = true → s.saving = true → f p s = refuse .busy s
  value : takes s.mode = true → s.saving = false → bad → f p s = refuse .badValue s

namespace OwnerChecks

variable {f : Handler} {takes : Mode → Bool} {bad : Prop} {p : List Byte} {s : State} {body : Answer × State}

theorem of_gate (h : f p s = if !takes s.mode then refuse .modeConflict s else if s.saving then refuse .busy s else body)
    (hbad : bad → body = refuse .badValue s) : OwnerChecks f takes bad p s := by
  refine ⟨fun hm => ?_, fun hm hs => ?_, fun hm hs k => ?_⟩
  · rw [h, hm]
    rfl
  · rw [h, hm, hs]
    rfl
  · rw [h, hm, hs]
    exact hbad k

/-- An owner that takes the change in every mode but START (R176). -/
theorem of_save (hm : s.mode ≠ .start) (h : f p s = if s.saving then refuse .busy s else body)
    (hbad : bad → body = refuse .badValue s) : OwnerChecks f (fun m => decide (m ≠ .start)) bad p s :=
  of_gate (h.trans (by simp [hm])) hbad

end OwnerChecks

section

variable {p : List Byte} {s : State}

theorem answerTankDefine_checks (h : p.length = 21) :
    OwnerChecks answerTankDefine Mode.configuring (∀ t d, tankAt p 0 = some t → readDefinition p ≠ some d) p s := by
  refine .of_gate (if_neg (not_not.mpr h)) fun bad => ?_
  split
  · next x y hx hy => exact absurd hy (bad x y hx)
  · rfl

theorem answerSourceSet_checks (h : p.length = 16) :
    OwnerChecks answerSourceSet Mode.configuring
      (∀ x v, Source.ofCode (byteAt p 0) = some x → readSourceSettings p ≠ some v) p s := by
  refine .of_gate (if_neg (not_not.mpr h)) fun bad => ?_
  split
  · next x y hx hy => exact absurd hy (bad x y hx)
  · rfl

theorem answerRuleSet_checks (h : ruleSizeOk p = true) :
    OwnerChecks answerRuleSet Mode.configuring (∀ k r, slotAt p 0 = some k → readRule p ≠ some r) p s := by
  refine .of_gate (if_neg (by simp [h])) fun bad => ?_
  split
  · next x y hx hy => exact absurd hy (bad x y hx)
  · rfl

theorem answerChannelSet_checks (h : p.length = 5) :
    OwnerChecks answerChannelSet Mode.configuring
      (∀ c v, Channel.ofCode (byteAt p 0) = some c → readChannelSettings p ≠ some v) p s := by
  refine .of_gate (if_neg (not_not.mpr h)) fun bad => ?_
  split
  · next x y hx hy => exact absurd hy (bad x y hx)
  · rfl

theorem answerTankRemove_checks (h : p.length = 1) :
    OwnerChecks answerTankRemove Mode.configuring (∀ t, tankAt p 0 ≠ some t) p s := by
  refine .of_gate (if_neg (not_not.mpr h)) fun bad => ?_
  split
  · next hx => exact absurd hx (bad _)
  · rfl

theorem answerStrapLoad_checks (h : strapSizeOk p = true) :
    OwnerChecks answerStrapLoad Mode.configuring (∀ t, tankAt p 0 ≠ some t) p s := by
  refine .of_gate (if_neg (by simp [h])) fun bad => ?_
  split
  · rfl
  · next hx => exact absurd hx (bad _)

theorem answerActuatorSet_checks (h : p.length = 2) :
    OwnerChecks answerActuatorSet Mode.configuring (∀ n, natIn 10 120 (u16At p 0) ≠ some n) p s := by
  refine .of_gate (if_neg (not_not.mpr h)) fun bad => ?_
  split
  · next hx => exact absurd hx (bad _)
  · rfl

theorem answerSupervisionSet_checks (h : p.length = 3) :
    OwnerChecks answerSupervisionSet Mode.configuring (∀ v, readSupervision p ≠ some v) p s := by
  refine .of_gate (if_neg (not_not.mpr h)) fun bad => ?_
  split
  · rfl
  · next hx => exact absurd hx (bad _)

theorem answerTankService_checks (hm : s.mode ≠ .start) (h : p.length = 2) :
    OwnerChecks answerTankService (fun m => decide (m ≠ .start)) (∀ t v, tankAt p 0 = some t → serviceAt p 1 ≠ some v) p s := by
  refine .of_save hm (if_neg (not_not.mpr h)) fun bad => ?_
  split
  · next x y hx hy => exact absurd hy (bad x y hx)
  · rfl

theorem answerTankLimits_checks (hm : s.mode ≠ .start) (h : p.length = 21) :
    OwnerChecks answerTankLimits (fun m => decide (m ≠ .start)) (∀ t m, tankAt p 0 = some t → readLimits p ≠ some m) p s := by
  refine .of_save hm (if_neg (not_not.mpr h)) fun bad => ?_
  split
  · next x y hx hy => exact absurd hy (bad x y hx)
  · rfl

theorem answerBalanceSet_checks (hm : s.mode ≠ .start) (h : p.length = 8) :
    OwnerChecks answerBalanceSet (fun m => decide (m ≠ .start)) (∀ v, readBalance p ≠ some v) p s := by
  refine .of_save hm (if_neg (not_not.mpr h)) fun bad => ?_
  split
  · next hx => exact absurd hx (bad _)
  · rfl

theorem answerDutySet_checks (hm : s.mode ≠ .start) (h : dutySizeOk p = true) :
    OwnerChecks answerDutySet (fun m => decide (m ≠ .start)) (∀ l, readDuty p ≠ some l) p s := by
  refine .of_save hm (if_neg (by simp [h])) fun bad => ?_
  split
  · rfl
  · next hx => exact absurd hx (bad _)

theorem answerSettingsSave_checks (hm : s.mode ≠ .start) (h : p.length = 1) :
    OwnerChecks answerSettingsSave (fun m => decide (m ≠ .start)) (∀ m, startModeAt p 0 ≠ some m) p s := by
  refine .of_save hm (if_neg (not_not.mpr h)) fun bad => ?_
  split
  · rfl
  · next hx => exact absurd hx (bad _)

theorem answerRestart_checks (hm : s.mode ≠ .start) (h : p.length = 0) :
    OwnerChecks answerRestart (fun m => decide (m ≠ .start)) False p s :=
  .of_save hm (if_neg (not_not.mpr h)) False.elim

theorem answerCommissionEnd_checks (h : p.length = 1) :
    OwnerChecks answerCommissionEnd (fun m => decide (m = .commission)) (∀ m, startModeAt p 0 ≠ some m) p s := by
  refine .of_gate ((if_neg (not_not.mpr h)).trans (by simp only [Bool.not_eq_true', decide_eq_false_iff_not]; rfl))
    fun bad => ?_
  split
  · rfl
  · next hx => exact absurd hx (bad _)

/-- Every request that a save in flight refuses meets these checks (R189). -/
theorem checks_of_refusedBySave {kind : Byte} (hk : kind ∈ refusedBySave) (hm : s.mode ≠ .start)
    (h : payloadSizeOk kind p = true) :
    ∃ f bad, handlerOf kind = some f ∧ OwnerChecks f (fun m => m.takesChange kind) bad p s := by
  simp only [refusedBySave, List.mem_cons, List.not_mem_nil, or_false] at hk
  rcases hk with rfl | rfl | rfl | rfl | rfl | rfl | rfl | rfl | rfl | rfl | rfl | rfl | rfl | rfl | rfl
  · exact ⟨_, _, rfl, answerTankDefine_checks (of_decide_eq_true h)⟩
  · exact ⟨_, _, rfl, answerTankRemove_checks (of_decide_eq_true h)⟩
  · exact ⟨_, _, rfl, answerStrapLoad_checks h⟩
  · exact ⟨_, _, rfl, answerTankService_checks hm (of_decide_eq_true h)⟩
  · exact ⟨_, _, rfl, answerTankLimits_checks hm (of_decide_eq_true h)⟩
  · exact ⟨_, _, rfl, answerBalanceSet_checks hm (of_decide_eq_true h)⟩
  · exact ⟨_, _, rfl, answerRuleSet_checks h⟩
  · exact ⟨_, _, rfl, answerSourceSet_checks (of_decide_eq_true h)⟩
  · exact ⟨_, _, rfl, answerChannelSet_checks (of_decide_eq_true h)⟩
  · exact ⟨_, _, rfl, answerActuatorSet_checks (of_decide_eq_true h)⟩
  · exact ⟨_, _, rfl, answerDutySet_checks hm h⟩
  · exact ⟨_, _, rfl, answerSupervisionSet_checks (of_decide_eq_true h)⟩
  · exact ⟨_, _, rfl, answerSettingsSave_checks hm (of_decide_eq_true h)⟩
  · exact ⟨_, _, rfl, answerCommissionEnd_checks (of_decide_eq_true h)⟩
  · exact ⟨_, _, rfl, answerRestart_checks hm (of_decide_eq_true h)⟩

/-! ### Values of the requests that no save refuses -/

theorem answerTankGet_badValue (h : p.length = 1) (bad : ∀ t, tankAt p 0 ≠ some t) :
    answerTankGet p s = refuse .badValue s := by
  rw [answerTankGet, if_neg (not_not.mpr h)]
  split
  · next hx => exact absurd hx (bad _)
  · rfl

theorem answerGaugeReadmit_badValue (h : p.length = 1) (bad : ∀ t, tankAt p 0 ≠ some t) :
    answerGaugeReadmit p s = refuse .badValue s := by
  rw [answerGaugeReadmit, if_neg (not_not.mpr h)]
  split
  · rfl
  · next hx => exact absurd hx (bad _)

theorem answerGaugeGet_badValue (h : p.length = 1) (bad : ∀ t, tankAt p 0 ≠ some t) :
    answerGaugeGet p s = refuse .badValue s := by
  rw [answerGaugeGet, if_neg (not_not.mpr h)]
  split
  · rfl
  · next hx => exact absurd hx (bad _)

theorem answerValveReset_badValue (h : p.length = 1) (bad : ∀ v, Valve.ofNumber (byteAt p 0) ≠ some v) :
    answerValveReset p s = refuse .badValue s := by
  rw [answerValveReset, if_neg (not_not.mpr h)]
  split
  · next hx => exact absurd hx (bad _)
  · rfl

theorem answerSourceGet_badValue (h : p.length = 1) (bad : ∀ x, Source.ofCode (byteAt p 0) ≠ some x) :
    answerSourceGet p s = refuse .badValue s := by
  rw [answerSourceGet, if_neg (not_not.mpr h)]
  split
  · next hx => exact absurd hx (bad _)
  · rfl

theorem answerProbeCheck_badValue (h : p.length = 1) (bad : ∀ x, Source.ofCode (byteAt p 0) ≠ some x) :
    answerProbeCheck p s = refuse .badValue s := by
  rw [answerProbeCheck, if_neg (not_not.mpr h)]
  split
  · rfl
  · next hx => exact absurd hx (bad _)

theorem answerRuleGet_badValue (h : p.length = 1) (bad : ∀ k, slotAt p 0 ≠ some k) :
    answerRuleGet p s = refuse .badValue s := by
  rw [answerRuleGet, if_neg (not_not.mpr h)]
  split
  · next hx => exact absurd hx (bad _)
  · rfl

theorem answerChannelOut_badValue (h : p.length = 1) (bad : ∀ c, Channel.ofCode (byteAt p 0) ≠ some c) :
    answerChannelOut p s = refuse .badValue s := by
  rw [answerChannelOut, if_neg (not_not.mpr h)]
  split
  · rfl
  · next hx => exact absurd hx (bad _)

theorem answerChannelIn_badValue (h : p.length = 1) (bad : ∀ c, Channel.ofCode (byteAt p 0) ≠ some c) :
    answerChannelIn p s = refuse .badValue s := by
  rw [answerChannelIn, if_neg (not_not.mpr h)]
  split
  · rfl
  · next hx => exact absurd hx (bad _)

theorem answerChannelGet_badValue (h : p.length = 1) (bad : ∀ c, Channel.ofCode (byteAt p 0) ≠ some c) :
    answerChannelGet p s = refuse .badValue s := by
  rw [answerChannelGet, if_neg (not_not.mpr h)]
  split
  · rfl
  · next hx => exact absurd hx (bad _)

theorem answerFetchReports_badValue (h : p.length = 1) (bad : ∀ n, natIn 1 8 (byteAt p 0) ≠ some n) :
    answerFetchReports p s = refuse .badValue s := by
  rw [answerFetchReports, if_neg (not_not.mpr h)]
  split
  · rfl
  · next hx => exact absurd hx (bad _)

theorem answerTankClass_badValue (h : p.length = 2)
    (bad : ∀ t c, tankAt p 0 = some t → QClass.ofCode (byteAt p 1) ≠ some c) : answerTankClass p s = refuse .badValue s := by
  rw [answerTankClass, if_neg (not_not.mpr h)]
  split
  · next x y hx hy => exact absurd hy (bad x y hx)
  · rfl

theorem answerTankNotice_badValue (h : p.length = 13)
    (bad : ∀ t n, tankAt p 0 = some t → readNotices p ≠ some n) : answerTankNotice p s = refuse .badValue s := by
  rw [answerTankNotice, if_neg (not_not.mpr h)]
  split
  · next x y hx hy => exact absurd hy (bad x y hx)
  · rfl

theorem answerSourcePermit_badValue (h : p.length = 2)
    (bad : ∀ w g, watermakerAt p 0 = some w → giveAt p 1 ≠ some g) : answerSourcePermit p s = refuse .badValue s := by
  rw [answerSourcePermit, if_neg (not_not.mpr h)]
  split
  · next x y hx hy => exact absurd hy (bad x y hx)
  · rfl

theorem answerValveSet_badValue (h : p.length = 2) (hm : s.mode = .commission)
    (bad : ∀ v e, Valve.ofNumber (byteAt p 0) = some v → ValveEnd.ofCode (byteAt p 1) ≠ some e) :
    answerValveSet p s = refuse .badValue s := by
  rw [answerValveSet, if_neg (not_not.mpr h), if_neg (not_not.mpr hm)]
  split
  · next x y hx hy => exact absurd hy (bad x y hx)
  · rfl

theorem answerValveGet_badValue (h : p.length = 1) (bad : ∀ v, Valve.ofNumber (byteAt p 0) ≠ some v)
    (bad' : ∀ c, Channel.ofPumpNumber (byteAt p 0) ≠ some c) : answerValveGet p s = refuse .badValue s := by
  rw [answerValveGet, if_neg (not_not.mpr h)]
  split
  · next hx => exact absurd hx (bad _)
  · split
    · next x hx => exact absurd hx (bad' x)
    · rfl

end

end Sys2Proof.Machine
end

section
/-!
PROOF. A value outside its range is answered BAD_VALUE by the request's owner (O6), range by range.
-/
namespace Sys2Proof.Machine

/-- The owner of a kind refuses a payload with BAD_VALUE. -/
def State.refusesValue (kind : Byte) (p : List Byte) (s : State) : Prop :=
  ∃ f, handlerOf kind = some f ∧ f p s = refuse .badValue s

/-- A request that a save in flight would refuse is not held back by mode or save. -/
def State.notHeldBack (kind : Byte) (s : State) : Prop :=
  kind ∈ refusedBySave → s.saving = false ∧ s.mode.takesChange kind = true

theorem OwnerChecks.refusesValue {kind : Byte} {f : Handler} {takes : Mode → Bool} {bad : Prop} {p : List Byte} {s : State}
    (h : OwnerChecks f takes bad p s) (hf : handlerOf kind = some f) (hs : s.saving = false ∧ takes s.mode = true) (hb : bad) :
    s.refusesValue kind p :=
  ⟨f, hf, h.value hs.2 hs.1 hb⟩

namespace State

section

variable {kind : Byte} {p : List Byte} {s : State}

/-- A tank number outside 1 to 12 (R5, R24, R47, R48). -/
theorem refusesValue_tank (hk : kind ∈ ([0x10, 0x11, 0x12, 0x13, 0x14, 0x15, 0x16, 0x18, 0x20, 0x21] : List Byte))
    (hm : s.mode ≠ .start) (hsize : payloadSizeOk kind p = true) (hpass : s.notHeldBack kind)
    (bad : ∀ t, tankAt p 0 ≠ some t) : s.refusesValue kind p := by
  simp only [List.mem_cons, List.not_mem_nil, or_false] at hk
  rcases hk with rfl | rfl | rfl | rfl | rfl | rfl | rfl | rfl | rfl | rfl
  · exact (answerTankDefine_checks (of_decide_eq_true hsize)).refusesValue rfl (hpass (by decide)) fun t _ h => absurd h (bad t)
  · exact (answerTankRemove_checks (of_decide_eq_true hsize)).refusesValue rfl (hpass (by decide)) bad
  · exact (answerStrapLoad_checks hsize).refusesValue rfl (hpass (by decide)) bad
  · exact (answerTankService_checks hm (of_decide_eq_true hsize)).refusesValue rfl (hpass (by decide))
      fun t _ h => absurd h (bad t)
  · exact ⟨_, rfl, answerTankClass_badValue (of_decide_eq_true hsize) fun t _ h => absurd h (bad t)⟩
  · exact (answerTankLimits_checks hm (of_decide_eq_true hsize)).refusesValue rfl (hpass (by decide))
      fun t _ h => absurd h (bad t)
  · exact ⟨_, rfl, answerTankNotice_badValue (of_decide_eq_true hsize) fun t _ h => absurd h (bad t)⟩
  · exact ⟨_, rfl, answerTankGet_badValue (of_decide_eq_true hsize) bad⟩
  · exact ⟨_, rfl, answerGaugeReadmit_badValue (of_decide_eq_true hsize) bad⟩
  · exact ⟨_, rfl, answerGaugeGet_badValue (of_decide_eq_true hsize) bad⟩

/-- A source number outside 1 to 3 (R95, R97, R74). -/
theorem refusesValue_source (hk : kind ∈ ([0x30, 0x32, 0x37] : List Byte)) (hsize : payloadSizeOk kind p = true)
    (hpass : s.notHeldBack kind) (bad : ∀ x, Source.ofCode (byteAt p 0) ≠ some x) : s.refusesValue kind p := by
  simp only [List.mem_cons, List.not_mem_nil, or_false] at hk
  rcases hk with rfl | rfl | rfl
  · exact (answerSourceSet_checks (of_decide_eq_true hsize)).refusesValue rfl (hpass (by decide)) fun x _ h => absurd h (bad x)
  · exact ⟨_, rfl, answerSourceGet_badValue (of_decide_eq_true hsize) bad⟩
  · exact ⟨_, rfl, answerProbeCheck_badValue (of_decide_eq_true hsize) bad⟩

/-- A slot number outside 1 to 8 (R79). -/
theorem refusesValue_slot (hk : kind ∈ ([0x33, 0x34] : List Byte)) (hsize : payloadSizeOk kind p = true)
    (hpass : s.notHeldBack kind) (bad : ∀ k, slotAt p 0 ≠ some k) : s.refusesValue kind p := by
  simp only [List.mem_cons, List.not_mem_nil, or_false] at hk
  rcases hk with rfl | rfl
  · exact (answerRuleSet_checks hsize).refusesValue rfl (hpass (by decide)) fun k _ h => absurd h (bad k)
  · exact ⟨_, rfl, answerRuleGet_badValue (of_decide_eq_true hsize) bad⟩

/-- A channel number outside 1 and 2 (R118, R138, R139, R142). -/
theorem refusesValue_channel (hk : kind ∈ ([0x48, 0x49, 0x4A, 0x4B] : List Byte)) (hsize : payloadSizeOk kind p = true)
    (hpass : s.notHeldBack kind) (bad : ∀ c, Channel.ofCode (byteAt p 0) ≠ some c) : s.refusesValue kind p := by
  simp only [List.mem_cons, List.not_mem_nil, or_false] at hk
  rcases hk with rfl | rfl | rfl | rfl
  · exact (answerChannelSet_checks (of_decide_eq_true hsize)).refusesValue rfl (hpass (by decide)) fun c _ h => absurd h (bad c)
  · exact ⟨_, rfl, answerChannelOut_badValue (of_decide_eq_true hsize) bad⟩
  · exact ⟨_, rfl, answerChannelIn_badValue (of_decide_eq_true hsize) bad⟩
  · exact ⟨_, rfl, answerChannelGet_badValue (of_decide_eq_true hsize) bad⟩

/-- A start mode other than RUN, HARBOUR and LAYUP (R189, R190). -/
theorem refusesValue_startMode (hk : kind ∈ ([0x68, 0x69] : List Byte)) (hm : s.mode ≠ .start)
    (hsize : payloadSizeOk kind p = true) (hpass : s.notHeldBack kind) (bad : ∀ m, startModeAt p 0 ≠ some m) :
    s.refusesValue kind p := by
  simp only [List.mem_cons, List.not_mem_nil, or_false] at hk
  rcases hk with rfl | rfl
  · exact (answerSettingsSave_checks hm (of_decide_eq_true hsize)).refusesValue rfl (hpass (by decide)) bad
  · exact (answerCommissionEnd_checks (of_decide_eq_true hsize)).refusesValue rfl (hpass (by decide)) bad

end

end State

end Sys2Proof.Machine

section
open Sys2Proof Sys2Proof.Machine

/-- Settles O6: each owner checks size, mode, save and values in this order, and what a reader yields lies in the ranges. -/
theorem checksRefuseRequests : Obligations.ChecksRefuseRequests := by
  rintro s c ⟨kind, tag, p⟩ hc hs
  refine ⟨fun hsize => ?_, fun hsave hk hsize htakes => ?_, fun hk hsize htakes => ?_, ?_⟩
  · obtain ⟨f, hf, h⟩ := handler_badLength hsize (s.taken ⟨kind, tag, p⟩)
    exact exec_refused hc hf hs h
  · obtain ⟨f, _, hf, h⟩ := checks_of_refusedBySave (s := s.taken ⟨kind, tag, p⟩) hk hs.2 hsize
    exact exec_refused hc hf hs (h.busy htakes hsave)
  · obtain ⟨f, _, hf, h⟩ := checks_of_refusedBySave (s := s.taken ⟨kind, tag, p⟩) hk hs.2 hsize
    exact exec_refused hc hf hs (h.mode htakes)
  · rintro outside houtside hsize hpass p rfl hbad
    suffices h : (s.taken ⟨kind, tag, p⟩).refusesValue kind p by
      obtain ⟨f, hf, h⟩ := h
      exact exec_refused hc hf hs h
    have hm : (s.taken ⟨kind, tag, p⟩).mode ≠ .start := hs.2
    have hpass : (s.taken ⟨kind, tag, p⟩).notHeldBack kind := hpass
    simp only [houtside] at hbad hsize
    rcases hbad with ⟨hk, h⟩ | ⟨rfl, h⟩ | ⟨rfl, h⟩ | ⟨rfl, h⟩ | ⟨rfl, h⟩ | ⟨rfl, hmode, h⟩ | ⟨rfl, h⟩ | ⟨rfl, h, hpump⟩ |
      ⟨rfl, h⟩ | ⟨hk, h⟩ | ⟨rfl, h⟩ | ⟨rfl, h⟩ | ⟨hk, h⟩ | ⟨rfl, h⟩ | ⟨hk, h⟩ | ⟨rfl, h⟩ | ⟨rfl, h⟩ | ⟨rfl, h⟩ | ⟨rfl, h⟩ |
      ⟨hk, h⟩
    · refine State.refusesValue_tank hk hm hsize hpass fun t ht => ?_
      have range := tankAt_eq_some ht
      omega
    · refine (answerTankDefine_checks (of_decide_eq_true hsize)).refusesValue rfl (hpass (by decide)) fun t d _ hd => ?_
      obtain ⟨height, residual, arm, span, zero, step, window, dx, dy⟩ := readDefinition_ranges hd
      simp only [window, not_true_eq_false, false_or] at h
      omega
    · refine (answerTankService_checks hm (of_decide_eq_true hsize)).refusesValue rfl (hpass (by decide)) fun t v _ hv => ?_
      have range := serviceAt_eq_some hv
      omega
    · refine ⟨_, rfl, answerTankClass_badValue (of_decide_eq_true hsize) fun t v _ hv => ?_⟩
      have range := QClass.ofCode_eq_some hv
      omega
    · refine (answerTankLimits_checks hm (of_decide_eq_true hsize)).refusesValue rfl (hpass (by decide)) fun t m _ hv => ?_
      have range := readLimits_ranges hv
      omega
    · refine ⟨_, rfl, answerValveSet_badValue (of_decide_eq_true hsize) hmode fun v e hv he => ?_⟩
      have number := Valve.ofNumber_eq_some hv
      have range := ValveEnd.ofCode_eq_some he
      omega
    · refine ⟨_, rfl, answerValveReset_badValue (of_decide_eq_true hsize) fun v hv => ?_⟩
      have number := Valve.ofNumber_eq_some hv
      omega
    · refine ⟨_, rfl, answerValveGet_badValue (of_decide_eq_true hsize) (fun v hv => ?_)
        fun c hc => hpump (Channel.ofPumpNumber_eq_some hc)⟩
      have number := Valve.ofNumber_eq_some hv
      omega
    · refine (answerActuatorSet_checks (of_decide_eq_true hsize)).refusesValue rfl (hpass (by decide)) fun n hn => ?_
      have range := natIn_eq_some hn
      omega
    · refine State.refusesValue_source hk hsize hpass fun x hx => ?_
      have range := Source.ofCode_eq_some hx
      omega
    · refine (answerSourceSet_checks (of_decide_eq_true hsize)).refusesValue rfl (hpass (by decide)) fun x v _ hv => ?_
      have range := readSourceSettings_ranges hv
      omega
    · refine ⟨_, rfl, answerSourcePermit_badValue (of_decide_eq_true hsize) fun w g hw hg => ?_⟩
      have source := watermakerAt_eq_some hw
      have range := giveAt_eq_some hg
      omega
    · refine State.refusesValue_slot hk hsize hpass fun k hslot => ?_
      have range := slotAt_eq_some hslot
      omega
    · refine (answerRuleSet_checks hsize).refusesValue rfl (hpass (by decide)) fun k r _ hr => ?_
      obtain ⟨action, tanks, nodup⟩ := readRule_ranges hr hsize
      rcases h with h | h | ⟨b, hb, h⟩ | h
      · omega
      · omega
      · have range := tanks b hb
        omega
      · exact h nodup
    · refine State.refusesValue_channel hk hsize hpass fun k hchan => ?_
      have range := Channel.ofCode_eq_some hchan
      omega
    · refine (answerChannelSet_checks (of_decide_eq_true hsize)).refusesValue rfl (hpass (by decide)) fun x v _ hv => ?_
      have range := readChannelSettings_ranges hv
      omega
    · refine (answerDutySet_checks hm hsize).refusesValue rfl (hpass (by decide)) fun l hl => ?_
      obtain ⟨tanks, nodup⟩ := readDuty_ranges hl
      rcases h with ⟨b, hb, h⟩ | h
      · have range := tanks b hb
        omega
      · exact h nodup
    · refine (answerSupervisionSet_checks (of_decide_eq_true hsize)).refusesValue rfl (hpass (by decide)) fun v hv => ?_
      have range := readSupervision_ranges hv
      omega
    · refine ⟨_, rfl, answerFetchReports_badValue (of_decide_eq_true hsize) fun n hn => ?_⟩
      have range := natIn_eq_some hn
      omega
    · exact State.refusesValue_startMode hk hm hsize hpass fun m hmode => h (startModeAt_eq_some hmode)

end
end

section
/-!
PROOF. The volume at a level by a strapping table (R40): by induction on the points, segment by segment (O24).
-/
namespace Sys2Proof.Machine

/-- The order of a table's points (R9): levels rise, volumes do not fall. -/
abbrev strapRises (tb : List StrapPoint) : Prop := tb.Pairwise fun p q => p.level < q.level ∧ p.volume ≤ q.volume

variable {p q : StrapPoint} {rest tb : List StrapPoint}

theorem interpolate_below {level : Nat} (h : level < q.level) :
    interpolate (p :: q :: rest) level =
      p.volume + (level - p.level) * (q.volume - p.volume) / (q.level - p.level) := if_pos h

theorem interpolate_beyond {level : Nat} (h : q.level ≤ level) :
    interpolate (p :: q :: rest) level = interpolate (q :: rest) level := if_neg (Nat.not_lt.mpr h)

/-- The volume of the first point is the least that the table gives. -/
theorem le_interpolate (h : strapRises (p :: rest)) (level : Nat) : p.volume ≤ interpolate (p :: rest) level := by
  induction rest generalizing p with
  | nil => exact le_refl _
  | cons q rest ih =>
    obtain ⟨hp, htail⟩ := List.pairwise_cons.mp h
    rcases Nat.lt_or_ge level q.level with hlt | hge
    · rw [interpolate_below hlt]
      exact Nat.le_add_right _ _
    · rw [interpolate_beyond hge]
      exact (hp q List.mem_cons_self).2.trans (ih htail)

/-- A segment stays within the volumes of its ends. -/
theorem segment_le {level : Nat} (hv : p.volume ≤ q.volume) (h : level ≤ q.level) :
    p.volume + (level - p.level) * (q.volume - p.volume) / (q.level - p.level) ≤ q.volume := by
  have rise : (level - p.level) * (q.volume - p.volume) / (q.level - p.level) ≤ q.volume - p.volume :=
    Nat.div_le_of_le_mul (Nat.mul_le_mul_right _ (Nat.sub_le_sub_right h _))
  omega

/-- At each of its points a table gives that point's volume. -/
theorem interpolate_point (h : strapRises tb) (hp : p ∈ tb) : interpolate tb p.level = p.volume := by
  induction tb with
  | nil => cases hp
  | cons a tb ih =>
    obtain ⟨ha, htail⟩ := List.pairwise_cons.mp h
    cases tb with
    | nil => rw [List.mem_singleton.mp hp]; rfl
    | cons b tb =>
      rcases List.mem_cons.mp hp with rfl | hmem
      · rw [interpolate_below (ha b List.mem_cons_self).1]
        simp
      · have beyond : b.level ≤ p.level := by
          rcases List.mem_cons.mp hmem with rfl | hlater
          · exact le_refl _
          · exact ((List.pairwise_cons.mp htail).1 p hlater).1.le
        rw [interpolate_beyond beyond]
        exact ih htail hmem

/-- The volume never falls as the level rises. -/
theorem interpolate_mono (h : strapRises tb) : Monotone (interpolate tb) := by
  intro l m hlm
  induction tb with
  | nil => exact le_refl _
  | cons a tb ih =>
    obtain ⟨ha, htail⟩ := List.pairwise_cons.mp h
    cases tb with
    | nil => exact le_refl _
    | cons b tb =>
      rcases Nat.lt_or_ge m b.level with hm | hm
      · rw [interpolate_below (hlm.trans_lt hm), interpolate_below hm]
        gcongr
      · rw [interpolate_beyond hm]
        rcases Nat.lt_or_ge l b.level with hl | hl
        · rw [interpolate_below hl]
          exact (segment_le (ha b List.mem_cons_self).2 hl.le).trans (le_interpolate htail m)
        · rw [interpolate_beyond hl]
          exact ih htail

/-- Up to the last level the volume stays within the full volume. -/
theorem interpolate_le_full (h : strapRises tb) {level : Nat} (hl : level ≤ lastLevel tb) :
    interpolate tb level ≤ fullVolume tb := by
  cases hlast : tb.getLast? with
  | none => simp [List.getLast?_eq_none_iff.mp hlast, interpolate]
  | some x =>
    simp only [lastLevel, hlast, Option.map_some, Option.getD_some] at hl
    calc interpolate tb level ≤ interpolate tb x.level := interpolate_mono h hl
      _ = x.volume := interpolate_point h (List.mem_of_getLast? hlast)
      _ = fullVolume tb := by simp [fullVolume, hlast]

end Sys2Proof.Machine
end

section
open Sys2Proof Sys2Proof.Machine

/-- Settles O24: the three facts of `interpolate`, for the points' order that R9 asks for. -/
theorem volumesFollowTheStrappingTable : Obligations.VolumesFollowTheStrappingTable := by
  rintro height tb ⟨-, -, -, hrises, hlast, -, -⟩
  exact ⟨fun p hp => interpolate_point hrises hp, fun a b hab => interpolate_mono hrises hab,
    fun level hl => interpolate_le_full hrises (hlast ▸ hl)⟩
end

section
/-!
PROOF. What one sample makes of a level channel (R34 to R44) and of the attitude record (R32, R33), field by field (O25).
-/
namespace Sys2Proof.Machine

/-! ### Rounding, window and state check -/

/-- `n` is p / 10,000 rounded to the nearest, halves away from zero (R37). -/
def isNearestTenThousandth (n p : Int) : Prop :=
  2 * (p - 10000 * n).natAbs ≤ 10000 ∧ (2 * (p - 10000 * n).natAbs = 10000 → p.natAbs < (10000 * n).natAbs)

/-- There is one nearest number, and the model takes it. -/
theorem nearestTenThousandth_unique {n p : Int} (h : isNearestTenThousandth n p) : nearestTenThousandth p = n := by
  obtain ⟨hnear, hhalf⟩ := h
  unfold nearestTenThousandth
  rcases lt_trichotomy p 0 with hp | rfl | hp
  · rw [Int.sign_eq_neg_one_of_neg hp]
    omega
  · simp only [Int.sign_zero]
    omega
  · rw [Int.sign_eq_one_of_pos hp]
    omega

/-- A level enters behind the newest values that the window keeps (R38). -/
theorem enterWindow_eq (n : Nat) (w : List Nat) (level : Nat) :
    enterWindow n w level = w.drop (w.length + 1 - n) ++ [level] := by
  unfold enterWindow
  split
  · rfl
  · rw [show w.length + 1 - n = 0 by omega, List.drop_zero]

/-- The state check, by the score and the state before it (R42). -/
theorem checkState_eq (c : GaugeChannel) : checkState c =
    if 128 ≤ c.score then .failed
    else if c.state = .settling ∧ c.window.length = c.windowLength then (if 64 ≤ c.score then .suspect else .valid)
    else if c.state = .valid ∧ 64 ≤ c.score then .suspect
    else if c.state = .suspect ∧ c.score ≤ 31 then .valid
    else c.state := by
  unfold checkState
  congr 1
  cases c.state <;> simp

namespace GaugeChannel

variable (c : GaugeChannel) (a : Attitude) (raw : Option Nat)

/-! ### The sample before the state check -/

theorem enter_of_full {level : Nat} (h : (enterWindow c.windowLength c.window level).length = c.windowLength) :
    c.enter level = { c with
      window := enterWindow c.windowLength c.window level,
      filtered := some (filteredLevel (enterWindow c.windowLength c.window level) c.windowLength),
      volume := c.strap.map fun tb =>
        interpolate tb (filteredLevel (enterWindow c.windowLength c.window level) c.windowLength) } := if_pos h

theorem enter_of_short {level : Nat} (h : (enterWindow c.windowLength c.window level).length ≠ c.windowLength) :
    c.enter level = { c with window := enterWindow c.windowLength c.window level } := if_neg h

@[simp] theorem enter_window (level : Nat) :
    (c.enter level).window = enterWindow c.windowLength c.window level := by
  unfold enter
  dsimp only
  split <;> rfl

/-- What entering a level leaves of a channel. -/
theorem enter_frame (level : Nat) : c.enter level = { c with
    window := (c.enter level).window, filtered := (c.enter level).filtered, volume := (c.enter level).volume } := by
  unfold enter
  dsimp only
  split <;> rfl

/-- The sample counts as plausible: it has a head, and that head lies near the reference head (R35). -/
def samplePlausible : Bool := raw.any fun n => plausibleHead c (headOf c n)

theorem samplePlausible_iff : c.samplePlausible raw = true ↔
    ∃ h, raw.map (headOf c) = some h ∧ ∀ r, c.reference = some r → (h - r).natAbs ≤ c.stepLimit := by
  cases raw with
  | none => simp [samplePlausible]
  | some n => cases h : c.reference <;> simp [samplePlausible, plausibleHead, h]

theorem sampled_of_implausible (h : c.samplePlausible raw = false) : c.sampled a raw =
    { c with reference := (raw.map (headOf c)).or c.reference, score := scoreUp c.score } := by
  cases raw with
  | none => rfl
  | some n =>
    have hn : plausibleHead c (headOf c n) = false := h
    simp [sampled, hn]

theorem sampled_of_plausible {n : Nat} (h : c.samplePlausible (some n) = true) : c.sampled a (some n) =
    { c with reference := some (headOf c n), score := c.score - 1 }.enter (correctedLevel c a (headOf c n)) := by
  have hn : plausibleHead c (headOf c n) = true := h
  simp [sampled, hn]

/-- What a sample leaves of a channel, with the reference head and the score that it makes (R35, R36). -/
theorem sampled_frame : c.sampled a raw = { c with
    reference := (raw.map (headOf c)).or c.reference,
    score := if c.samplePlausible raw then c.score - 1 else min (c.score + 8) 255,
    window := (c.sampled a raw).window, filtered := (c.sampled a raw).filtered, volume := (c.sampled a raw).volume } := by
  cases h : c.samplePlausible raw with
  | false =>
    rw [sampled_of_implausible c a raw h]
    rfl
  | true =>
    cases raw with
    | none => cases h
    | some n =>
      rw [sampled_of_plausible c a h, enter_frame]
      rfl

/-! ### The sample with the state check -/

theorem handled_of_failed (h : checkState (c.sampled a raw) = .failed) :
    c.handled a raw = { c.sampled a raw with state := .failed, filtered := none, volume := none } := if_pos h

theorem handled_of_alive (h : checkState (c.sampled a raw) ≠ .failed) :
    c.handled a raw = { c.sampled a raw with state := checkState (c.sampled a raw) } := if_neg h

theorem handled_state : (c.handled a raw).state = checkState (c.sampled a raw) := by
  by_cases h : checkState (c.sampled a raw) = .failed
  · rw [handled_of_failed c a raw h, h]
  · rw [handled_of_alive c a raw h]

/-- What the check leaves of a sampled channel (R42, R44). -/
theorem handled_eq : c.handled a raw = { c.sampled a raw with
    state := checkState (c.sampled a raw), filtered := (c.handled a raw).filtered, volume := (c.handled a raw).volume } := by
  by_cases h : checkState (c.sampled a raw) = .failed
  · rw [handled_of_failed c a raw h, h]
  · rw [handled_of_alive c a raw h]

theorem handled_window : (c.handled a raw).window = (c.sampled a raw).window := by rw [handled_eq]

theorem handled_score : (c.handled a raw).score =
    if c.samplePlausible raw then c.score - 1 else min (c.score + 8) 255 := by rw [handled_eq, sampled_frame]

theorem handled_reference : (c.handled a raw).reference = (raw.map (headOf c)).or c.reference := by
  rw [handled_eq, sampled_frame]

/-- What a sample outside FAILED can change of a channel. -/
theorem handled_frame : c.handled a raw = { c with
    state := (c.handled a raw).state, score := (c.handled a raw).score, window := (c.handled a raw).window,
    reference := (c.handled a raw).reference, filtered := (c.handled a raw).filtered,
    volume := (c.handled a raw).volume } := by
  rw [handled_score, handled_window, handled_reference]
  conv_lhs => rw [handled_eq, ← handled_state, sampled_frame]

/-- In FAILED level and volume are absent (R44). -/
theorem handled_absent (h : (c.handled a raw).state = .failed) :
    (c.handled a raw).filtered = none ∧ (c.handled a raw).volume = none := by
  rw [handled_state] at h
  rw [handled_of_failed c a raw h]
  exact ⟨rfl, rfl⟩

/-- Outside FAILED level and volume are those that the sample gave. -/
theorem handled_present (h : (c.handled a raw).state ≠ .failed) :
    (c.handled a raw).filtered = (c.sampled a raw).filtered ∧ (c.handled a raw).volume = (c.sampled a raw).volume := by
  rw [handled_state] at h
  rw [handled_of_alive c a raw h]
  exact ⟨rfl, rfl⟩

/-- The state check of a handled sample, from the state before the sample (R42). -/
theorem handled_state_eq : (c.handled a raw).state =
    if 128 ≤ (c.handled a raw).score then .failed
    else if c.state = .settling ∧ (c.handled a raw).window.length = c.windowLength then
      (if 64 ≤ (c.handled a raw).score then .suspect else .valid)
    else if c.state = .valid ∧ 64 ≤ (c.handled a raw).score then .suspect
    else if c.state = .suspect ∧ (c.handled a raw).score ≤ 31 then .valid
    else c.state := by
  have hstate : (c.sampled a raw).state = c.state := by rw [sampled_frame]
  have hlength : (c.sampled a raw).windowLength = c.windowLength := by rw [sampled_frame]
  have hscore : (c.handled a raw).score = (c.sampled a raw).score := by rw [handled_eq]
  rw [handled_state, checkState_eq, hstate, hlength, hscore, handled_window]

/-- An implausible sample leaves window, level and volume. -/
theorem handled_of_implausible (h : c.samplePlausible raw = false) :
    (c.handled a raw).window = c.window ∧
      ((c.handled a raw).state ≠ .failed →
        (c.handled a raw).filtered = c.filtered ∧ (c.handled a raw).volume = c.volume) := by
  have same := sampled_of_implausible c a raw h
  refine ⟨by rw [handled_window, same], fun alive => ?_⟩
  obtain ⟨hf, hv⟩ := handled_present c a raw alive
  exact ⟨by rw [hf, same], by rw [hv, same]⟩

/-- The level of a plausible sample enters the window, and over a full window level and volume follow (R37 to R40). -/
theorem handled_of_plausible {n : Nat} (h : c.samplePlausible (some n) = true) {g : GaugeChannel}
    (hg : g = c.handled a (some n)) :
    g.window = c.window.drop (c.window.length + 1 - c.windowLength) ++ [correctedLevel c a (headOf c n)] ∧
      (g.state ≠ .failed → g.window.length = c.windowLength →
        g.filtered = some (filteredLevel g.window c.windowLength) ∧
          g.volume = c.strap.map fun tb => interpolate tb (filteredLevel g.window c.windowLength)) ∧
      (g.state ≠ .failed → g.window.length ≠ c.windowLength → g.filtered = c.filtered ∧ g.volume = c.volume) := by
  subst hg
  have hs := sampled_of_plausible c a h
  have hw : (c.handled a (some n)).window =
      enterWindow c.windowLength c.window (correctedLevel c a (headOf c n)) := by
    rw [handled_window, hs, enter_window]
  refine ⟨hw.trans (enterWindow_eq _ _ _), fun alive full => ?_, fun alive short => ?_⟩
  · obtain ⟨hf, hv⟩ := handled_present c a (some n) alive
    rw [hf, hv, hw, hs, enter_of_full _ (hw ▸ full)]
    exact ⟨rfl, rfl⟩
  · obtain ⟨hf, hv⟩ := handled_present c a (some n) alive
    rw [hf, hv, hs, enter_of_short _ (hw ▸ short)]
    exact ⟨rfl, rfl⟩

/-- What a channel has to publish (R41). -/
theorem toPublish_eq_some (g : GaugeChannel) (q : Published) : g.toPublish = some q ↔
    (g.state = .valid ∨ g.state = .suspect) ∧ g.filtered = some q.level ∧ g.volume = some q.volume ∧
      q.state = g.state ∧ g.published ≠ some q := by
  obtain ⟨level, volume, state⟩ := q
  unfold toPublish
  by_cases hs : g.state = .valid ∨ g.state = .suspect
  · cases hf : g.filtered <;> cases hv : g.volume <;> simp only [hs, if_true]
    · simp
    · simp
    · simp
    · constructor
      · intro h
        split at h
        · cases h
        · next hne =>
          cases h
          exact ⟨trivial, rfl, rfl, rfl, hne⟩
      · rintro ⟨-, hl, hw, rfl, hne⟩
        cases hl
        cases hw
        exact if_neg hne
  · simp [hs]

end GaugeChannel

/-! ### The inclinometer -/

theorem clampSlope_range (z : Int) : -3000 ≤ clampSlope z ∧ clampSlope z ≤ 3000 := by
  unfold clampSlope
  omega

theorem clampSlope_cases (z : Int) : (-3000 ≤ z → z ≤ 3000 → clampSlope z = z) ∧
    (z < -3000 → clampSlope z = -3000) ∧ (3000 < z → clampSlope z = 3000) := by
  unfold clampSlope
  omega

end Sys2Proof.Machine
end

section
open Sys2Proof Sys2Proof.Machine

/-- Settles O25: the attitude record by the cases of its clamp, the channel by the frame of `GaugeChannel.handled` and what it
says of each field. -/
theorem gaugesAndAttitudeFollowTheirSamples : Obligations.GaugesAndAttitudeFollowTheirSamples := by
  refine ⟨fun s hpower => ⟨fun list trim => ?_, fun hlive => ?_, fun hstale => ?_⟩,
    fun c a raw g hg _ head hhead plausible hplausible nearest hnearest => ?_, GaugeChannel.toPublish_eq_some⟩
  · obtain ⟨hlist, hlist', hlist''⟩ := clampSlope_cases list.toInt
    obtain ⟨htrim, htrim', htrim''⟩ := clampSlope_cases trim.toInt
    refine ⟨⟨clampSlope list.toInt, clampSlope trim.toInt, true,
        decide (clampSlope list.toInt ≠ list.toInt ∨ clampSlope trim.toInt ≠ trim.toInt), s.clock⟩,
      congrArg Host.Outcome.next (s.react_on _ hpower), rfl, rfl, (clampSlope_range _).1, (clampSlope_range _).2,
      (clampSlope_range _).1, (clampSlope_range _).2, hlist, hlist', hlist'', htrim, htrim', htrim'', decide_eq_true_iff⟩
  · exact congrArg Host.Outcome.next ((s.react_on _ hpower).trans (congrArg State.deliver (if_pos hlive)))
  · exact congrArg Host.Outcome.next
      ((s.react_on _ hpower).trans (congrArg State.deliver (if_neg (Bool.eq_false_iff.mp hstale))))
  · have hsample : plausible = c.samplePlausible raw :=
      Bool.eq_iff_iff.mpr (hplausible.trans (by rw [hhead]; exact (c.samplePlausible_iff raw).symm))
    subst hg hhead hsample
    refine ⟨c.handled_frame a raw, c.handled_reference a raw, c.handled_score a raw, c.handled_of_implausible a raw,
      fun hp h hh trimTerm listTerm htrim hlist level hlevel => ?_, c.handled_absent a raw, c.handled_state_eq a raw⟩
    obtain ⟨n, rfl, rfl⟩ := Option.map_eq_some_iff.mp hh
    have corrected : correctedLevel c a (headOf c n) = level := by
      have htrim' := nearestTenThousandth_unique ((hnearest _ _).mp htrim)
      have hlist' := nearestTenThousandth_unique ((hnearest _ _).mp hlist)
      simp only [correctedLevel, htrim', hlist']
      exact (congrArg Int.toNat hlevel).symm
    obtain ⟨hwindow, hfull, hshort⟩ := c.handled_of_plausible a hp rfl
    refine ⟨corrected ▸ hwindow, fun alive full f hf => ?_, hshort⟩
    rw [hf]
    exact hfull alive full
end

section
/-!
PROOF. The sample of a level channel, from its request to the publication that it asks for (O23): what the channel keeps of it,
what the Tank Table takes, and what stands after the notices have been delivered.
-/
namespace Sys2Proof.Machine
namespace State

/-! ### What stands after M has been worked out anew -/

theorem moment_standing (r : TankRecord) : r.standing.moment = r.moment := rfl

/-- The sum of R22 is read from what stands of the tanks. -/
theorem momentOf_of_standing {b u : State} (h : u.standing = b.standing) : momentOf u.tt.tanks = momentOf b.tt.tanks := by
  have hidden (x : State) : momentOf x.tt.tanks = (x.standing.tanks.map TankRecord.moment).sum := by
    simp [momentOf, State.standing, Function.comp_def, moment_standing]
  rw [hidden u, hidden b, h]

/-- The sum of R22 put. -/
def putMoment (s : State) : State := { s with tt := { s.tt with moment := momentOf s.tt.tanks } }

theorem putMoment_standing (s : State) :
    s.putMoment.standing = { s.standing with moment := momentOf s.tt.tanks } := rfl

/-- M worked out anew stands, whether or not it is told. -/
theorem standsIn_reMoment {b u : State} (h : b.standsIn u) : b.putMoment.standsIn u.reMoment := by
  obtain ⟨hstand, hqueue⟩ := h
  have remade : u.putMoment.standsIn u.reMoment := (sameButNotices.reMoment (.refl u)).standsIn
  have put : b.putMoment.standsIn u.putMoment :=
    ⟨by rw [putMoment_standing, putMoment_standing, hstand, momentOf_of_standing hstand], hqueue⟩
  exact standsIn_trans put remade

theorem standsIn_report (s : State) (k : ReportKind) (x y z : Nat) : s.standsIn (s.report k x y z) :=
  ⟨State.append_standing _ _, ((Grows.refl s).report k x y z).queue⟩

/-! ### The publication -/

variable {s : State} {t : TankIx}

/-- A publication for a defined tank, in the steps of R12. -/
theorem publish_defined (h : (s.tank t).service ≠ .undefined) {level vol : Nat} {g : GaugeState} {r : TankRecord}
    (hr : r = { s.tank t with
      level := some level, volume := some vol, suspect := decide (g = .suspect), held := false,
      empty := (s.tank t).defn.any fun d => decide (vol ≤ d.residual) }) :
    s.publish t level vol g = (((s.updTank t fun _ => r).takeStates t vol (publishedStates (s.tank t) vol)).tellTank t false
      .hostRequest (s.tank t)).reMoment := by
  have record : (s.updTank t fun x =>
      let y := { x with level := some level, volume := some vol, suspect := decide (g = GaugeState.suspect), held := false }
      { y with empty := emptyFlag y }) = s.updTank t fun _ => r := by
    refine updTank_congr ?_
    subst hr
    cases hd : (s.tank t).defn <;> simp [emptyFlag, hd]
  simp only [State.publish, if_neg h]
  exact congrArg (fun x : State => ((x.takeStates t vol (publishedStates (s.tank t) vol)).tellTank t false .hostRequest
    (s.tank t)).reMoment) record

/-- What a publication leaves standing: the record with its threshold states, and M. -/
theorem standsIn_published (s : State) (t : TankIx) (r : TankRecord) (vol : Nat) (new : ThStates) (c : ClassCause)
    (old : TankRecord) :
    (s.putTank t { r with states := new }).standsIn
      ((((s.updTank t fun _ => r).takeStates t vol new).tellTank t false c old).reMoment) := by
  have states : ((s.updTank t fun _ => r).updTank t fun r => { r with states := new }) =
      s.updTank t fun _ => { r with states := new } := updTank_updTank _ _
  refine standsIn_reMoment (b := s.updTank t fun _ => { r with states := new }) ?_
  rw [← states]
  exact standsIn_trans (standsIn_takeStates _ t vol new) (sameButNotices.tellTank (.refl _) t false c old).standsIn

/-! ### The sample -/

/-- The channel that has its sample: no request is in flight (R30). -/
def sampledAt (c : GaugeChannel) (now : Clock) : GaugeChannel := { c with inFlight := none, lastSample := some now }

variable {c g : GaugeChannel} {raw : Option Nat}

theorem takeSample_failed (h : c.state = .failed) :
    s.takeSample t c raw = s.setGauge t (some (sampledAt c s.clock)) := if_pos h

/-- The report and the notices of a gauge state that has changed (R43, R44, R45). -/
def tellState (t : TankIx) (g : GaugeChannel) (s : State) : State :=
  (s.report .gauge (tankCode t) g.state.code g.score).tellGauge t g.state

/-- A sample that a channel outside FAILED handles: the publication, and what is told of the gauge state. -/
theorem takeSample_handled (h : c.state ≠ .failed) (hg : g = (sampledAt c s.clock).handled s.gu.attitude raw) :
    s.takeSample t c raw =
      if g.state = c.state then s.publishChannel t g
      else (if g.state = .failed then (s.publishChannel t g).hold t else s.publishChannel t g).tellState t g := by
  subst hg
  exact if_neg h

theorem publishChannel_silent (h : g.toPublish = none) : s.publishChannel t g = s.setGauge t (some g) := by
  simp only [State.publishChannel, h]

/-- The publication of a channel with something to publish, for a defined tank (R41, R12). -/
theorem publishChannel_defined (h : (s.tank t).service ≠ .undefined) {q : Published} (hp : g.toPublish = some q)
    {r : TankRecord} (hr : r = { s.tank t with
      level := some q.level, volume := some q.volume, suspect := decide (q.state = .suspect), held := false,
      empty := (s.tank t).defn.any fun d => decide (q.volume ≤ d.residual) }) :
    s.publishChannel t g = (((((s.setGauge t (some { g with published := some q })).updTank t fun _ => r).takeStates t q.volume
      (publishedStates (s.tank t) q.volume)).tellTank t false .hostRequest (s.tank t)).reMoment) := by
  have record : (s.setGauge t (some { g with published := some q })).tank t = s.tank t := rfl
  have published := publish_defined (s := s.setGauge t (some { g with published := some q })) (t := t) (level := q.level)
    (vol := q.volume) (g := q.state) (r := r) (record ▸ h) (record ▸ hr)
  rw [record] at published
  simp only [State.publishChannel, hp]
  exact published

/-- What that publication leaves standing. -/
theorem standsIn_publishedChannel (s : State) (t : TankIx) (r : TankRecord) (ch : Option GaugeChannel) (vol : Nat)
    (new : ThStates) (c : ClassCause) (old : TankRecord) :
    ((s.putTank t { r with states := new }).setGauge t ch).standsIn
      (((((s.setGauge t ch).updTank t fun _ => r).takeStates t vol new).tellTank t false c old).reMoment) :=
  standsIn_published (s.setGauge t ch) t r vol new c old

/-! ### The commands -/

variable {t0 : Clock}

theorem exec_sampleRequest (hon : s.power = .on) (hc : s.gauge t = some c) (hm : s.mode ≠ .start) :
    exec (.sampleRequest t) s = .next (s.setGauge t (some { c with
      inFlight := some s.clock, nextScan := after s.clock (scanPeriod s.mode) })).deliver := by
  refine congrArg Host.Outcome.next ((s.react_on _ hon).trans (congrArg State.deliver ?_))
  simp only [hc, if_neg hm]

theorem exec_sampleAnswer_late (hon : s.power = .on) (hc : s.gauge t = some c) (w : BitVec 16) :
    exec (.sampleAnswer t ⟨w, true⟩) s = .next s.deliver := by
  refine congrArg Host.Outcome.next ((s.react_on _ hon).trans (congrArg State.deliver ?_))
  cases hf : c.inFlight <;> simp [hc, hf]

theorem exec_sampleAnswer_inTime (hon : s.power = .on) (hc : s.gauge t = some c) (hf : c.inFlight = some t0)
    (w : BitVec 16) (ht : elapsed s.clock t0 ≤ 1) :
    exec (.sampleAnswer t ⟨w, false⟩) s = .next (s.takeSample t c (sampleOf w.toNat)).deliver := by
  refine congrArg Host.Outcome.next ((s.react_on _ hon).trans (congrArg State.deliver ?_))
  simp [hc, hf, ht]

theorem exec_sampleTimeout (hon : s.power = .on) (hc : s.gauge t = some c) (hf : c.inFlight = some t0) :
    exec (.sampleTimeout t) s = .next (s.takeSample t c none).deliver := by
  refine congrArg Host.Outcome.next ((s.react_on _ hon).trans (congrArg State.deliver ?_))
  simp [hc, hf]

/-- An answer in time, or the lack of one, is taken as the sample (R30). -/
theorem exec_sample (hon : s.power = .on) (hc : s.gauge t = some c) (hf : c.inFlight = some t0) {i : Sys2Proof.Instr}
    (hi : i = .sampleTimeout t ∧ raw = none ∨ ∃ w : BitVec 16, i = .sampleAnswer t ⟨w, false⟩ ∧ elapsed s.clock t0 ≤ 1 ∧
      raw = (if w.toNat ≤ 65520 then some w.toNat else none)) :
    exec i s = .next (s.takeSample t c raw).deliver := by
  rcases hi with ⟨rfl, rfl⟩ | ⟨w, rfl, ht, rfl⟩
  · exact exec_sampleTimeout hon hc hf
  · have code : (if w.toNat ≤ 65520 then some w.toNat else none) = sampleOf w.toNat := by
      rcases Nat.lt_or_ge 65520 w.toNat with hfault | hplain
      · rw [sampleOf, if_neg (Nat.not_le.mpr hfault), if_pos hfault]
      · rw [sampleOf, if_pos hplain, if_neg (Nat.not_lt.mpr hplain)]
    rw [code]
    exact exec_sampleAnswer_inTime hon hc hf w ht

end State
end Sys2Proof.Machine
end

section
open Sys2Proof Sys2Proof.Machine

/-- Settles O23: the commands come down to `State.takeSample`, whose cases are the discarded sample, the sample without a
publication, and the publication. -/
theorem samplesAreTaken : Obligations.SamplesAreTaken := by
  intro s t c hon hc
  refine ⟨State.exec_sampleRequest hon hc, State.exec_sampleAnswer_late hon hc, fun t0 i raw hf hi => ?_⟩
  rw [State.exec_sample hon hc hf hi]
  refine ⟨fun hfailed => by rw [State.takeSample_failed hfailed]; rfl, fun halive g hg => ?_⟩
  rw [State.takeSample_handled halive hg]
  refine ⟨fun hp hsame => ?_, fun hp hchanged => ?_, fun q hp hservice r hr x hx => ?_⟩
  · rw [if_pos hsame, State.publishChannel_silent hp]
  · rw [if_neg hchanged, State.publishChannel_silent hp]
    by_cases hfailed : g.state = .failed
    · rw [if_pos hfailed, if_pos hfailed]
      rfl
    · rw [if_neg hfailed, if_neg hfailed]
      rfl
  · obtain ⟨hstate, -⟩ := (g.toPublish_eq_some q).mp hp
    have hx' : s.publishChannel t g = x := by
      rw [hx]
      exact State.publishChannel_defined hservice hp hr
    have hstands : ((s.putTank t { r with states := publishedStates (s.tank t) q.volume }).setGauge t
        (some { g with published := some q })).standsIn x := by
      rw [hx]
      exact State.standsIn_publishedChannel s t r _ _ _ _ _
    have hnot : g.state ≠ .failed := by rcases hstate with h | h <;> simp [h]
    rw [hx', if_neg hnot]
    refine ⟨_, rfl, rfl, State.standsIn_trans ?_ (State.standsIn_deliver _)⟩
    split
    · exact hstands
    · exact State.standsIn_trans hstands (State.standsIn_trans (State.standsIn_report _ _ _ _ _)
        (State.sameButNotices.tellGauge (.refl _) _ _).standsIn)
end

section
/-!
PROOF. What the law of the published values is read from (`State.measures`), and the operations and requests that leave it: those
of the Actuator Unit, the Intake Router, the Transfer Engine, the Supply Selector, the Plant Mode Controller and the Link Unit.
-/
namespace Sys2Proof.Machine

/-- The images of the Settings Store: the stored one, and the one that a save in flight writes (R188, R189). -/
def SettingsStore.images (x : SettingsStore) : Image × Option Image := (x.stored, x.save)

/-- What stands of the tanks and of the gauges, and the images of the store. -/
def State.measures (s : State) : List TankRecord × List (Option GaugeChannel) × Image × Option Image :=
  (s.standing.tanks, s.standing.gauges, s.sts.images)

namespace State

variable {s u : State}

/-! ### How measures are kept -/

theorem measures_of_standing (h : u.standing = s.standing) : u.measures = s.measures := by
  have store : u.sts = s.sts := congrArg Standing.sts h
  rw [measures, measures, h, store]

theorem measures_of_intake (h : u.beyondIntake = s.beyondIntake) : u.measures = s.measures :=
  measures_of_standing (standing_of_intake h)

theorem measures_of_transfer (h : u.beyondTransfer = s.beyondTransfer) : u.measures = s.measures :=
  measures_of_standing (standing_of_transfer h)

theorem measures_of_supply (h : u.beyondSupply = s.beyondSupply) : u.measures = s.measures :=
  measures_of_standing (standing_of_supply h)

theorem measures_of_modes (h : u.beyondModes = s.beyondModes) : u.measures = s.measures :=
  measures_of_standing (standing_of_modes h)

/-- A change beyond tanks, gauges and images. -/
theorem measures_of_same (ht : u.tt.tanks = s.tt.tanks) (hg : u.gu.channels = s.gu.channels)
    (hi : u.sts.images = s.sts.images) : u.measures = s.measures := by
  simp only [measures, State.standing, ht, hg, hi]

theorem ite_measures {c : Prop} [Decidable c] {x y : State} (hx : x.measures = s.measures) (hy : y.measures = s.measures) :
    (if c then x else y).measures = s.measures := by
  split
  · exact hx
  · exact hy

variable (s)

/-! ### The updates of the records -/

@[simp] theorem report_measures (k : ReportKind) (x y z : Nat) : (s.report k x y z).measures = s.measures := rfl

@[simp] theorem setPump_measures (c : Channel) (p : PumpRecord) : (s.setPump c p).measures = s.measures := by cases c <;> rfl

@[simp] theorem updSource_measures (x : Source) (f : SourceRecord → SourceRecord) :
    (s.updSource x f).measures = s.measures := by cases x <;> rfl

@[simp] theorem updChan_measures (c : Channel) (f : ChannelRecord → ChannelRecord) :
    (s.updChan c f).measures = s.measures := by cases c <;> rfl

@[simp] theorem updLeg_measures (id k : Nat) (f : Leg → Leg) : (s.updLeg id k f).measures = s.measures := rfl

@[simp] theorem updSupply_measures (f : SupplySelector → SupplySelector) : (s.updSupply f).measures = s.measures := rfl

/-! ### Valves and pumps -/

@[simp] theorem arrive_measures (v : Valve) (e : ValveEnd) : (s.arrive v e).measures = s.measures := by
  unfold State.arrive
  dsimp only
  split <;> rfl

@[simp] theorem startMove_measures (v : Valve) (e : ValveEnd) : (s.startMove v e).measures = s.measures :=
  ite_measures (arrive_measures _ v e) rfl

@[simp] theorem valveFault_measures (v : Valve) (f : ValveFault) : (s.valveFault v f).measures = s.measures := rfl

@[simp] theorem hostCommand_measures (v : Valve) (e : ValveEnd) : (s.hostCommand v e).measures = s.measures :=
  ite_measures rfl (startMove_measures _ v e)

@[simp] theorem resetValve_measures (v : Valve) : (s.resetValve v).measures = s.measures := startMove_measures _ v .a

@[simp] theorem feedback_measures (v : Valve) (p : Position) : (s.feedback v p).measures = s.measures := by
  unfold State.feedback
  dsimp only
  split
  · exact ite_measures (arrive_measures _ v .a) rfl
  · exact ite_measures (arrive_measures _ v .b) rfl
  · exact ite_measures rfl (valveFault_measures _ v _)
  · exact ite_measures rfl (valveFault_measures _ v _)
  · rfl

@[simp] theorem pumpFault_measures (c : Channel) (f : PumpFault) : (s.pumpFault c f).measures = s.measures :=
  setPump_measures s c _

@[simp] theorem pumpRunning_measures (c : Channel) : (s.pumpRunning c).measures = s.measures := setPump_measures s c _

@[simp] theorem pumpStopped_measures (c : Channel) : (s.pumpStopped c).measures = s.measures := setPump_measures s c _

@[simp] theorem resetPump_measures (c : Channel) : (s.resetPump c).measures = s.measures := setPump_measures s c _

@[simp] theorem pumpFeedback_measures (c : Channel) (on : Bool) : (s.pumpFeedback c on).measures = s.measures := by
  have stored (p : PumpRecord) : (s.setPump c p).measures = s.measures := s.setPump_measures c p
  unfold State.pumpFeedback
  dsimp only
  split
  · exact ite_measures ((pumpRunning_measures _ c).trans (stored _)) (stored _)
  · exact ite_measures (stored _) ((pumpFault_measures _ c _).trans (stored _))
  · exact ite_measures (stored _) ((pumpStopped_measures _ c).trans (stored _))
  · exact stored _

/-! ### Sources -/

@[simp] theorem decideAll_measures : s.decideAll.measures = s.measures := measures_of_intake s.decideAll_beyondIntake

@[simp] theorem dumpExpired_measures (w : Watermaker) : (s.dumpExpired w).measures = s.measures :=
  measures_of_intake (s.dumpExpired_beyondIntake w)

@[simp] theorem endShore_measures (e : EndReason) : (s.endShore e).measures = s.measures :=
  measures_of_intake (s.endShore_beyondIntake e)

@[simp] theorem openShore_measures : s.openShore.measures = s.measures :=
  measures_of_intake (((s.setShore .opening none).decideFor_beyondIntake .shore).trans (s.setShore_beyondIntake _ _))

@[simp] theorem permitSwitch_measures (w : Watermaker) (give : Bool) : (s.permitSwitch w give).measures = s.measures :=
  (measures_of_intake (State.updatePermit_beyondIntake _ w)).trans (updSource_measures s _ _)

@[simp] theorem beginCheck_measures (x : Source) : (s.beginCheck x).measures = s.measures :=
  (decideAll_measures _).trans (updSource_measures s _ _)

@[simp] theorem endCheck_measures (x : Source) : (s.endCheck x).measures = s.measures :=
  (decideAll_measures _).trans (updSource_measures s _ _)

@[simp] theorem conductivity_measures (x : Source) (v : Nat) : (s.conductivity x v).measures = s.measures := by
  unfold State.conductivity
  dsimp only
  split
  · simp
  · split <;> simp

@[simp] theorem sourcePulse_measures (x : Source) : (s.sourcePulse x).measures = s.measures := by
  unfold State.sourcePulse
  dsimp only
  split <;> simp

/-- The dump limit that a watermaker's new settings bring is met or not (R95). -/
theorem setSource_measures (x : Source) (v : SourceSettings) : (s.setSource x v).measures = s.measures := by
  have overrun (w : Watermaker) (y : State) : (match (y.source w.source).dump with
      | some t => if v.dumpLimit * 10 ≤ elapsed y.clock t then y.dumpExpired w else y
      | none => y).measures = y.measures := by
    split
    · exact ite_measures (dumpExpired_measures _ w) rfl
    · rfl
  cases x with
  | wm1 => exact (decideAll_measures _).trans ((overrun .wm1 _).trans (updSource_measures s _ _))
  | wm2 => exact (decideAll_measures _).trans ((overrun .wm2 _).trans (updSource_measures s _ _))
  | shore => exact (decideAll_measures _).trans (updSource_measures s _ _)

/-! ### Orders and transfer channels -/

@[simp] theorem settle_measures : s.settle.measures = s.measures := measures_of_transfer s.settle_beyondTransfer

@[simp] theorem arbitrate_measures : s.arbitrate.measures = s.measures := measures_of_transfer s.arbitrate_beyondTransfer

@[simp] theorem reportOrder_measures (id : Nat) : (s.reportOrder id).measures = s.measures :=
  measures_of_transfer (s.reportOrder_beyondTransfer id)

@[simp] theorem stopRun_measures (c : Channel) (k : StopCause) : (s.stopRun c k).measures = s.measures :=
  measures_of_transfer (s.stopRun_beyondTransfer c k)

@[simp] theorem evaluate_measures (c : Channel) (e : Evaluation) : (s.evaluate c e).measures = s.measures :=
  measures_of_transfer (s.evaluate_beyondTransfer c e)

@[simp] theorem setChannel_measures (c : Channel) (st : ChannelState) : (s.setChannel c st).measures = s.measures :=
  measures_of_transfer (s.setChannel_beyondTransfer c st)

@[simp] theorem enterOrder_measures (id : Nat) (st : OrderState) (f : Order → Order) :
    (s.enterOrder id st f).measures = s.measures := by
  unfold State.enterOrder
  dsimp only
  rw [reportOrder_measures]
  split <;> rfl

@[simp] theorem submit_measures (id priority : Nat) (p : Policy) (legs : List Leg) :
    (s.submit id priority p legs).measures = s.measures := by
  have renumbered : s.renumber.measures = s.measures := by
    unfold State.renumber
    split <;> rfl
  unfold State.submit
  dsimp only
  rw [arbitrate_measures, reportOrder_measures]
  exact renumbered

@[simp] theorem cancel_measures (id : Nat) : (s.cancel id).measures = s.measures := by
  have waiting (o : Order) : ((if o.leg.any (fun l => 0 < l.runs) = true then s.endLeg id o.current .cancelled
      else s).enterOrder id .cancelled fun o => { o with heldByFallback := false }).measures = s.measures := by
    rw [enterOrder_measures]
    split <;> rfl
  unfold State.cancel
  split
  · rfl
  · split
    · exact waiting _
    · exact waiting _
    · refine ite_measures rfl ?_
      split
      · exact ite_measures (stopRun_measures _ _ _) rfl
      · rfl
    · rfl

@[simp] theorem resume_measures (id : Nat) : (s.resume id).measures = s.measures :=
  (arbitrate_measures _).trans (enterOrder_measures s _ _ _)

@[simp] theorem takeOut_measures (c : Channel) : (s.takeOut c).measures = s.measures := by
  unfold State.takeOut
  dsimp only
  split
  · simp
  · split <;> simp
  · rfl

@[simp] theorem takeIn_measures (c : Channel) : (s.takeIn c).measures = s.measures := by
  unfold State.takeIn
  split <;> simp

@[simp] theorem channelPulse_measures (c : Channel) : (s.channelPulse c).measures = s.measures := by
  unfold State.channelPulse
  dsimp only
  split
  · rw [settle_measures, evaluate_measures]
    split <;> simp
  · simp

@[simp] theorem flowLost_measures (c : Channel) : (s.flowLost c).measures = s.measures := by
  unfold State.flowLost
  dsimp only
  split <;> simp

/-! ### Supply and modes -/

@[simp] theorem setDuty_measures (l : List TankIx) : (s.setDuty l).measures = s.measures :=
  (measures_of_supply (State.reportSupply_beyondSupply _ s.ss)).trans
    ((measures_of_supply (State.actOnDuty_beyondSupply _)).trans (updSupply_measures s _))

@[simp] theorem advance_measures (t : TankIx) : (s.advance t).measures = s.measures :=
  measures_of_supply (s.advance_beyondSupply t)

@[simp] theorem setMode_measures (m : Mode) : (s.setMode m).measures = s.measures :=
  measures_of_modes (s.setMode_beyondModes m)

@[simp] theorem changeMode_measures (m : Mode) (w : Option WakeRecord) : (s.changeMode m w).measures = s.measures :=
  measures_of_modes (s.changeMode_beyondModes m w)

@[simp] theorem takeHeartbeat_measures : s.takeHeartbeat.measures = s.measures :=
  measures_of_modes s.takeHeartbeat_beyondModes

end State

/-! ### The requests -/

section

variable {s : State}

/-- A check that refuses leaves the state as it is; what follows it decides. -/
theorem checked_measures {c : Prop} [Decidable c] {st : Status} {a : Answer × State} (k : a.2.measures = s.measures) :
    (if c then refuse st s else a).2.measures = s.measures := by
  split
  · rfl
  · exact k

end

section

variable (l : List Byte) (s : State)

theorem answerValveSet_measures : (answerValveSet l s).2.measures = s.measures := by
  refine checked_measures (checked_measures ?_)
  split
  · exact checked_measures (checked_measures (checked_measures (s.hostCommand_measures _ _)))
  · rfl

theorem answerValveReset_measures : (answerValveReset l s).2.measures = s.measures := by
  refine checked_measures ?_
  split
  · split
    · exact s.resetValve_measures _
    · rfl
  · rfl

theorem answerActuatorSet_measures : (answerActuatorSet l s).2.measures = s.measures := by
  refine checked_measures (checked_measures (checked_measures ?_))
  split
  · rfl
  · rfl

theorem answerPumpReset_measures : (answerPumpReset l s).2.measures = s.measures := by
  refine checked_measures ?_
  split
  · split
    · exact s.resetPump_measures _
    · rfl
  · rfl

theorem answerSourceSet_measures : (answerSourceSet l s).2.measures = s.measures := by
  refine checked_measures (checked_measures (checked_measures ?_))
  split
  · exact s.setSource_measures _ _
  · rfl

theorem answerSourcePermit_measures : (answerSourcePermit l s).2.measures = s.measures := by
  refine checked_measures ?_
  split
  · exact s.permitSwitch_measures _ _
  · rfl

theorem answerRuleSet_measures : (answerRuleSet l s).2.measures = s.measures := by
  refine checked_measures (checked_measures (checked_measures ?_))
  split
  · exact State.decideAll_measures _
  · rfl

theorem answerShoreOpen_measures : (answerShoreOpen l s).2.measures = s.measures :=
  checked_measures (checked_measures (checked_measures (checked_measures s.openShore_measures)))

theorem answerShoreClose_measures : (answerShoreClose l s).2.measures = s.measures :=
  checked_measures (s.endShore_measures _)

theorem answerProbeCheck_measures : (answerProbeCheck l s).2.measures = s.measures := by
  refine checked_measures ?_
  split
  · rfl
  · exact checked_measures (s.beginCheck_measures _)

theorem answerOrderSubmit_measures : (answerOrderSubmit l s).2.measures = s.measures := by
  refine checked_measures (checked_measures (checked_measures (checked_measures (checked_measures ?_))))
  split
  · rfl
  · exact checked_measures (s.submit_measures _ _ _ _)

theorem answerOrderCancel_measures : (answerOrderCancel l s).2.measures = s.measures := by
  refine checked_measures ?_
  split
  · rfl
  · exact checked_measures ((State.settle_measures _).trans (s.cancel_measures _))

theorem answerStopAll_measures : (answerStopAll l s).2.measures = s.measures :=
  checked_measures ((State.settle_measures _).trans
    (foldl_same State.measures _ (fun x id => x.cancel_measures id) _ s))

theorem answerOrderResume_measures : (answerOrderResume l s).2.measures = s.measures := by
  refine checked_measures (checked_measures ?_)
  split
  · rfl
  · split
    · exact s.resume_measures _
    · rfl

theorem answerOrderRemove_measures : (answerOrderRemove l s).2.measures = s.measures := by
  refine checked_measures ?_
  split
  · rfl
  · exact checked_measures rfl

theorem answerChannelSet_measures : (answerChannelSet l s).2.measures = s.measures := by
  refine checked_measures (checked_measures (checked_measures ?_))
  split
  · exact s.updChan_measures _ _
  · rfl

theorem answerChannelOut_measures : (answerChannelOut l s).2.measures = s.measures := by
  refine checked_measures ?_
  split
  · rfl
  · exact s.takeOut_measures _

theorem answerChannelIn_measures : (answerChannelIn l s).2.measures = s.measures := by
  refine checked_measures ?_
  split
  · rfl
  · exact checked_measures (checked_measures (s.takeIn_measures _))

theorem answerDutySet_measures : (answerDutySet l s).2.measures = s.measures := by
  refine checked_measures (checked_measures ?_)
  split
  · rfl
  · exact s.setDuty_measures _

theorem answerSupplyAdvance_measures : (answerSupplyAdvance l s).2.measures = s.measures := by
  refine checked_measures (checked_measures ?_)
  split
  · simp only [accept, State.advance_measures]
  · rfl

theorem answerModeSet_measures : (answerModeSet l s).2.measures = s.measures := by
  refine checked_measures (checked_measures ?_)
  split
  · rfl
  · exact checked_measures (checked_measures (checked_measures (s.setMode_measures _)))

theorem answerSupervisionSet_measures : (answerSupervisionSet l s).2.measures = s.measures := by
  refine checked_measures (checked_measures (checked_measures ?_))
  split
  · rfl
  · rfl

theorem answerHeartbeat_measures : (answerHeartbeat l s).2.measures = s.measures :=
  checked_measures s.takeHeartbeat_measures

theorem answerFetchReports_measures : (answerFetchReports l s).2.measures = s.measures := by
  refine checked_measures ?_
  split
  · rfl
  · rfl

theorem answerReportEnable_measures : (answerReportEnable l s).2.measures = s.measures := by
  refine checked_measures ?_
  split
  · rfl
  · rfl

theorem answerRestart_measures : (answerRestart l s).2.measures = s.measures :=
  checked_measures (checked_measures rfl)

end
end Sys2Proof.Machine
end

section
/-!
PROOF. The published values, the channels and the images in range (R9, R37, R39 to R41): one predicate of a record, of a channel
and of an image each, what a sample keeps of them, and what a reader's table and definition bring.
-/
namespace Sys2Proof.Machine

/-! ### Tables and definitions as they are read -/

/-- The points of an accepted table rise (R9). -/
theorem pairwise_of_pointsRise {l : List (Int × Nat)} (h : pointsRise l = true) :
    l.Pairwise fun a b => a.1 < b.1 ∧ a.2 ≤ b.2 := by
  induction l with
  | nil => exact List.Pairwise.nil
  | cons a l ih =>
    cases l with
    | nil => exact List.pairwise_singleton _ a
    | cons b l =>
      simp only [pointsRise, Bool.and_eq_true, decide_eq_true_eq] at h
      obtain ⟨⟨hlevel, hvolume⟩, htail⟩ := h
      have tail := ih htail
      refine List.pairwise_cons.mpr ⟨fun x hx => ?_, tail⟩
      rcases List.mem_cons.mp hx with rfl | hx
      · exact ⟨hlevel, hvolume⟩
      · obtain ⟨hl, hv⟩ := (List.pairwise_cons.mp tail).1 x hx
        exact ⟨hlevel.trans hl, hvolume.trans hv⟩

/-- A table that a reader yields is lawful (R9). -/
theorem readStrap_lawful {height : Nat} {p : List Byte} {tb : List StrapPoint} (h : readStrap height p = some tb) :
    strapLawful height tb := by
  unfold readStrap at h
  dsimp only at h
  generalize rawPoints p (byteAt p 1) = raw at h
  split at h
  · next first last hfirst hlast =>
    split at h
    · next hok =>
      obtain ⟨hlen, hlen', hzero, hrise, htop, hfull, hfull'⟩ := hok
      obtain rfl := Option.some.inj h
      have rises := pairwise_of_pointsRise hrise
      have least : ∀ x ∈ raw, 0 ≤ x.1 := by
        obtain ⟨rest, rfl⟩ := List.head?_eq_some_iff.mp hfirst
        intro x hx
        rcases List.mem_cons.mp hx with rfl | hx
        · exact hzero.ge
        · exact hzero ▸ ((List.pairwise_cons.mp rises).1 x hx).1.le
      refine ⟨by simpa using hlen, by simpa using hlen', by simp [hfirst, hzero], ?_, ?_, ?_, ?_⟩
      · refine List.pairwise_map.mpr (rises.imp_of_mem fun {a b} ha _ hab => ?_)
        exact ⟨(Int.toNat_lt_toNat ((least a ha).trans_lt hab.1)).mpr hab.1, hab.2⟩
      · simp [lastLevel, hlast, htop]
      · simpa [fullVolume, hlast] using hfull
      · simpa [fullVolume, hlast] using hfull'
    · cases h
  · cases h

/-- The window of a definition that a reader yields has room for a value (R6). -/
theorem readDefinition_windowLength {p : List Byte} {d : TankDef} (h : readDefinition p = some d) : 1 ≤ d.windowLength := by
  simp only [readDefinition, Option.bind_eq_bind, Option.bind_eq_some_iff] at h
  obtain ⟨_, -, _, -, _, -, _, -, _, -, _, -, _, -, n, hn, _, -, _, -, hd⟩ := h
  cases hd
  unfold windowLengthOk at hn
  split at hn
  · cases hn
    dsimp only
    omega
  · cases hn

/-! ### Records and channels in range -/

/-- A volume within a table's full volume; there is a table where there is a volume. -/
def volumeWithin (strap : Option (List StrapPoint)) (v : Option Nat) : Prop :=
  ∀ x ∈ v, strap.any fun tb => decide (x ≤ fullVolume tb)

theorem volumeWithin_iff {strap : Option (List StrapPoint)} {v : Option Nat} :
    volumeWithin strap v ↔ ∀ x, v = some x → ∃ tb, strap = some tb ∧ x ≤ fullVolume tb := by
  simp [volumeWithin, Option.any_eq_true, Option.mem_def]

theorem volumeWithin_none (strap : Option (List StrapPoint)) : volumeWithin strap none := nofun

/-- What the law of the published values asks of a tank's record (R9, R41). -/
structure TankRecord.InRange (r : TankRecord) : Prop where
  image : r.image.lawful
  volume : volumeWithin r.strap r.volume
  level : ∀ l ∈ r.level, r.strap.isSome ∧ r.defn.any fun d => decide (l ≤ d.height)

namespace TankRecord.InRange

variable {r : TankRecord} {d : TankDef} {tb : List StrapPoint}

/-- A record's table is lawful for the height of its definition. -/
theorem strap_lawful (h : r.InRange) (hs : r.strap = some tb) : ∃ d, r.defn = some d ∧ strapLawful d.height tb := by
  obtain ⟨d, hd, ht⟩ := (Option.any_eq_true _ _).mp (h.image.1 tb hs)
  exact ⟨d, hd, of_decide_eq_true ht⟩

theorem level_le (h : r.InRange) {l : Nat} (hl : r.level = some l) : ∃ d, r.defn = some d ∧ l ≤ d.height := by
  simpa [Option.any_eq_true] using (h.level l hl).2

theorem windowLength (h : r.InRange) (hd : r.defn = some d) : 1 ≤ d.windowLength := h.image.2 d hd

/-- Without published values only the image counts. -/
theorem of_absent (h : r.image.lawful) (hv : r.volume = none) (hl : r.level = none) : r.InRange :=
  ⟨h, hv ▸ volumeWithin_none _, by simp [hl]⟩

theorem blank (c : QClass) : (TankRecord.blank c).InRange := of_absent ImageTank.lawful_blank rfl rfl

end TankRecord.InRange

/-- An image of a definition without a table. -/
theorem ImageTank.lawful_of_noStrap {i : ImageTank} {d : TankDef} (hs : i.strap = none) (hd : i.defn = some d)
    (hw : 1 ≤ d.windowLength) : i.lawful := by
  refine ⟨by simp [hs], fun x hx => ?_⟩
  cases hd.symm.trans hx
  exact hw

/-- An image of a definition with a table. -/
theorem ImageTank.lawful_of_strap {i : ImageTank} {d : TankDef} {tb : List StrapPoint} (hs : i.strap = some tb)
    (hd : i.defn = some d) (ht : strapLawful d.height tb) (hw : 1 ≤ d.windowLength) : i.lawful := by
  refine ⟨fun x hx => ?_, fun x hx => ?_⟩
  · cases hs.symm.trans hx
    exact (Option.any_eq_true _ _).mpr ⟨d, hd, decide_eq_true ht⟩
  · cases hd.symm.trans hx
    exact hw

/-! ### What requests make of a record -/

namespace TankRecord.InRange

variable {r : TankRecord} {d : TankDef} {tb : List StrapPoint}

/-- A first definition or a redefinition leaves a record in range: a table is kept where its last level is the new height (R6, R7). -/
theorem defined (h : r.InRange) (hw : 1 ≤ d.windowLength) : (r.defined d).InRange := by
  unfold TankRecord.defined
  split
  · exact of_absent (ImageTank.lawful_of_noStrap (d := d) rfl rfl hw) rfl rfl
  · next hservice =>
    by_cases kept : ∀ tb ∈ r.strap, lastLevel tb = d.height
    · have height {tb : List StrapPoint} (hs : r.strap = some tb) :
          ∃ d', r.defn = some d' ∧ d'.height = d.height ∧ strapLawful d'.height tb := by
        obtain ⟨d', hd', ht⟩ := h.strap_lawful hs
        obtain ⟨-, -, -, -, hlast, -⟩ := id ht
        exact ⟨d', hd', hlast.symm.trans (kept tb hs), ht⟩
      rw [TankRecord.redefine_kept kept]
      refine ⟨?_, h.volume, fun l hl => ?_⟩
      · cases hs : r.strap with
        | none => exact ImageTank.lawful_of_noStrap (d := d) rfl rfl hw
        | some tb =>
          obtain ⟨d', -, heq, ht⟩ := height hs
          exact ImageTank.lawful_of_strap rfl rfl (heq ▸ ht) hw
      · obtain ⟨tb, hs⟩ := Option.isSome_iff_exists.mp (h.level l hl).1
        obtain ⟨d', hd', heq, -⟩ := height hs
        obtain ⟨d'', hd'', hle⟩ := h.level_le hl
        cases hd'.symm.trans hd''
        exact ⟨(h.level l hl).1, decide_eq_true (heq ▸ hle)⟩
    · have discarded : ∃ tb ∈ r.strap, lastLevel tb ≠ d.height := by simpa using kept
      rw [TankRecord.redefine_discarded hservice discarded]
      exact of_absent (ImageTank.lawful_of_noStrap (d := d) rfl rfl hw) rfl rfl

/-- A loaded table clamps the published volume to its full volume (R9). -/
theorem loadStrap (h : r.InRange) (hd : r.defn = some d) (ht : strapLawful d.height tb) : (r.loadStrap tb).InRange where
  image := ImageTank.lawful_of_strap rfl hd ht (h.windowLength hd)
  volume := volumeWithin_iff.mpr fun x hx => by
    obtain ⟨v, -, rfl⟩ := Option.map_eq_some_iff.mp hx
    exact ⟨tb, rfl, Nat.min_le_left _ _⟩
  level l hl := ⟨rfl, (h.level l hl).2⟩

end TankRecord.InRange

/-! ### Channels -/

theorem GaugeChannel.inRange_fresh {r : TankRecord} {d : TankDef} (hd : r.defn = some d) (hw : 1 ≤ d.windowLength)
    (now : Clock) (last : Option Clock) : (GaugeChannel.fresh d r.strap now last).inRange r :=
  ⟨by rw [hd]; rfl, rfl, hw, nofun, nofun, nofun⟩

/-- The mean of a full window lies where its values lie (R39). -/
theorem filteredLevel_le {w : List Nat} {n bound : Nat} (hn : 1 ≤ n) (hw : w.length = n) (h : ∀ l ∈ w, l ≤ bound) :
    filteredLevel w n ≤ bound := by
  have sum : w.sum ≤ n * bound := by simpa [hw] using List.sum_le_card_nsmul w bound h
  have half : n / 2 < n := Nat.div_lt_self hn (by decide)
  refine Nat.lt_succ_iff.mp ((Nat.div_lt_iff_lt_mul hn).mpr ?_)
  calc w.sum + n / 2 < n * bound + n := Nat.add_lt_add_of_le_of_lt sum half
    _ = (bound + 1) * n := by ring

theorem correctedLevel_le (c : GaugeChannel) (a : Attitude) (head : Int) : correctedLevel c a head ≤ c.height := by
  unfold correctedLevel
  dsimp only
  omega

namespace GaugeChannel

variable {c : GaugeChannel} {r : TankRecord}

/-- A filtered level within the height has its volume within the full volume (R40). -/
theorem volumeWithin_interpolate (h : c.inRange r) (hr : r.InRange) {f : Nat} (hf : f ≤ c.height) :
    volumeWithin c.strap (c.strap.map fun tb => interpolate tb f) := by
  obtain ⟨hheight, hstrap, -⟩ := h
  refine volumeWithin_iff.mpr fun x hx => ?_
  obtain ⟨tb, htb, rfl⟩ := Option.map_eq_some_iff.mp hx
  obtain ⟨d, hd, -, -, -, hrises, hlast, -⟩ := hr.strap_lawful (hstrap ▸ htb)
  have height : d.height = c.height := by simpa [hd] using hheight
  exact ⟨tb, htb, interpolate_le_full hrises (by omega)⟩

/-- The window of a handled sample holds levels of the tank (R37, R38). -/
theorem window_handled_le (h : ∀ l ∈ c.window, l ≤ c.height) (a : Attitude) (raw : Option Nat) :
    ∀ l ∈ (c.handled a raw).window, l ≤ c.height := by
  cases hp : c.samplePlausible raw with
  | false =>
    rw [(c.handled_of_implausible a raw hp).1]
    exact h
  | true =>
    cases raw with
    | none => cases hp
    | some n =>
      rw [(c.handled_of_plausible a hp rfl).1]
      intro l hl
      rcases List.mem_append.mp hl with hl | hl
      · exact h l (List.mem_of_mem_drop hl)
      · exact List.mem_singleton.mp hl ▸ correctedLevel_le c a _

/-- A handled sample leaves level and volume as they were, or absent, or gives those of a level of the tank (R39, R40, R44). -/
theorem handled_values (hlength : 1 ≤ c.windowLength) (h : ∀ l ∈ c.window, l ≤ c.height) (a : Attitude) (raw : Option Nat) :
    ((c.handled a raw).filtered = c.filtered ∧ (c.handled a raw).volume = c.volume) ∨
      ((c.handled a raw).filtered = none ∧ (c.handled a raw).volume = none) ∨
      ∃ f ≤ c.height, (c.handled a raw).filtered = some f ∧
        (c.handled a raw).volume = c.strap.map fun tb => interpolate tb f := by
  by_cases alive : (c.handled a raw).state = .failed
  · exact .inr (.inl (c.handled_absent a raw alive))
  · cases hp : c.samplePlausible raw with
    | false => exact .inl ((c.handled_of_implausible a raw hp).2 alive)
    | true =>
      cases raw with
      | none => cases hp
      | some n =>
        obtain ⟨-, hfull, hshort⟩ := c.handled_of_plausible a hp rfl
        by_cases full : (c.handled a (some n)).window.length = c.windowLength
        · exact .inr (.inr ⟨_, filteredLevel_le hlength full (window_handled_le h a _), hfull alive full⟩)
        · exact .inl (hshort alive full)

/-- A handled sample leaves the channel in range (R37 to R40, R44). -/
theorem inRange_handled (h : c.inRange r) (hr : r.InRange) (a : Attitude) (raw : Option Nat) :
    (c.handled a raw).inRange r := by
  obtain ⟨hheight, hstrap, hlength, hwindow, hfiltered, hvolume⟩ := id h
  have values : (∀ l ∈ (c.handled a raw).filtered, l ≤ c.height) ∧ volumeWithin c.strap (c.handled a raw).volume := by
    rcases handled_values hlength hwindow a raw with ⟨hf, hv⟩ | ⟨hf, hv⟩ | ⟨f, hle, hf, hv⟩
    · rw [hf, hv]
      exact ⟨hfiltered, hvolume⟩
    · rw [hf, hv]
      exact ⟨nofun, volumeWithin_none _⟩
    · rw [hf, hv]
      exact ⟨fun l hl => Option.some.inj hl ▸ hle, volumeWithin_interpolate h hr hle⟩
  rw [handled_frame]
  exact ⟨hheight, hstrap, hlength, window_handled_le hwindow a raw, values⟩

/-- A record with what a channel in range has to publish is in range (R41). -/
theorem inRange_published (h : c.inRange r) (hr : r.InRange) {q : Published} (hq : c.toPublish = some q) {u : TankRecord}
    (hd : u.defn = r.defn) (hs : u.strap = r.strap) (hl : u.level = some q.level) (hv : u.volume = some q.volume) :
    u.InRange := by
  obtain ⟨hheight, hstrap, -, -, hfiltered, hvolume⟩ := h
  obtain ⟨-, hf, hvol, -⟩ := (c.toPublish_eq_some q).mp hq
  obtain ⟨d, hdefn, hdh⟩ := Option.map_eq_some_iff.mp hheight
  have volume : volumeWithin u.strap u.volume := by
    rw [hs, ← hstrap, hv, ← hvol]
    exact hvolume
  obtain ⟨tb, htb, -⟩ := volumeWithin_iff.mp volume q.volume hv
  refine ⟨?_, volume, fun l hmem => ⟨by simp [htb], ?_⟩⟩
  · have image : r.image.lawful := hr.image
    unfold ImageTank.lawful TankRecord.image at image ⊢
    rw [hd, hs]
    exact image
  · cases hl.symm.trans hmem
    rw [hd, hdefn]
    exact decide_eq_true (hdh ▸ hfiltered _ hf)

/-- A readmitted channel keeps no values (R47). -/
theorem inRange_readmitted (h : c.inRange r) : c.readmitted.inRange r := by
  obtain ⟨hheight, hstrap, hlength, -⟩ := h
  exact ⟨hheight, hstrap, hlength, nofun, nofun, nofun⟩

/-- A channel's range is read from its tank's definition and table alone. -/
theorem inRange_congr {u : TankRecord} (h : c.inRange r) (hd : u.defn = r.defn) (hs : u.strap = r.strap) : c.inRange u := by
  unfold inRange at h ⊢
  rw [hd, hs]
  exact h

end GaugeChannel
end Sys2Proof.Machine
end

section
/-!
PROOF. The law of the published values (R41) as one predicate of the state, and the operations of the Tank Table, of the Gauging Unit
and of the Settings Store that keep it.
-/
namespace Sys2Proof.Machine

/-- An image holds every tank in range (R188). -/
def Image.InRange (im : Image) : Prop := ∀ t : TankIx, im.tanks[t].lawful

theorem Image.inRange_factory : Image.factory.InRange := by
  intro t
  have blank : Image.factory.tanks[t] = ImageTank.blank := by simp [Image.factory]
  exact blank ▸ ImageTank.lawful_blank

/-- Tanks, channels and images in range. -/
structure State.PublishedRanges (s : State) : Prop where
  tank : ∀ t, (s.tank t).InRange
  gauge : ∀ t, ∀ c ∈ s.gauge t, c.inRange (s.tank t)
  stored : s.sts.stored.InRange
  save : ∀ im ∈ s.sts.save, im.InRange

theorem State.publishedLaw_iff (s : State) : s.publishedLaw ↔ s.PublishedRanges := by
  constructor
  · rintro ⟨htank, hstored, hsave⟩
    refine ⟨fun t => ?_, fun t => ?_, hstored, hsave⟩
    · obtain ⟨himage, hvolume, hlevel, -⟩ := htank t
      exact ⟨himage, hvolume, hlevel⟩
    · obtain ⟨-, -, -, hgauge⟩ := htank t
      exact hgauge
  · intro h
    exact ⟨fun t => ⟨(h.tank t).image, (h.tank t).volume, (h.tank t).level, h.gauge t⟩, h.stored, h.save⟩

theorem TankRecord.inRange_standing (r : TankRecord) : r.standing.InRange ↔ r.InRange :=
  ⟨fun h => ⟨h.image, h.volume, h.level⟩, fun h => ⟨h.image, h.volume, h.level⟩⟩

theorem GaugeChannel.inRange_standing (c : GaugeChannel) (r : TankRecord) : c.standing.inRange r.standing ↔ c.inRange r :=
  Iff.rfl

namespace State.PublishedRanges

variable {b s u : State}

/-! ### How the law is kept -/

/-- The law is read from the measures of a state. -/
theorem of_measures (h : s.PublishedRanges) (k : u.measures = s.measures) : u.PublishedRanges := by
  have tanks (t : TankIx) : (u.tank t).standing = (s.tank t).standing := by
    simpa [measures, State.standing, State.tank] using congrArg (fun m => m.1[t.val]?) k
  have gauges (t : TankIx) : (u.gauge t).map GaugeChannel.standing = (s.gauge t).map GaugeChannel.standing := by
    simpa [measures, State.standing, State.gauge] using congrArg (fun m => m.2.1[t.val]?) k
  have images : u.sts.images = s.sts.images := congrArg (fun m => m.2.2) k
  have stored : u.sts.stored = s.sts.stored := congrArg Prod.fst images
  have save : u.sts.save = s.sts.save := congrArg Prod.snd images
  refine ⟨fun t => ?_, fun t c hc => ?_, stored ▸ h.stored, save ▸ h.save⟩
  · rw [← TankRecord.inRange_standing, tanks t, TankRecord.inRange_standing]
    exact h.tank t
  · have known : (s.gauge t).map GaugeChannel.standing = some c.standing := by
      rw [← gauges t, Option.mem_def.mp hc, Option.map_some]
    obtain ⟨c', hc', same⟩ := Option.map_eq_some_iff.mp known
    rw [← GaugeChannel.inRange_standing, tanks t, ← same, GaugeChannel.inRange_standing]
    exact h.gauge t c' hc'

theorem of_standsIn (h : b.PublishedRanges) (k : b.standsIn u) : u.PublishedRanges := h.of_measures (measures_of_standing k.1)

theorem of_notices (h : b.PublishedRanges) (k : b.sameButNotices u) : u.PublishedRanges := h.of_standsIn k.standsIn

theorem deliver (h : s.PublishedRanges) : s.deliver.PublishedRanges := h.of_standsIn s.standsIn_deliver

/-- A tank's record and its channel are put together. -/
theorem put (h : s.PublishedRanges) {t : TankIx} {r : TankRecord} {g : Option GaugeChannel} (hr : r.InRange)
    (hg : ∀ c ∈ g, c.inRange r) : ((s.putTank t r).setGauge t g).PublishedRanges := by
  have record : ((s.putTank t r).setGauge t g).tank t = r := putTank_tank_self s t r
  have others {k : TankIx} (hk : k ≠ t) : ((s.putTank t r).setGauge t g).tank k = s.tank k := updTank_tank_ne s (fun _ => r) hk
  refine ⟨fun k => ?_, fun k c hc => ?_, h.stored, h.save⟩
  · by_cases hk : k = t
    · rw [hk, record]
      exact hr
    · rw [others hk]
      exact h.tank k
  · by_cases hk : k = t
    · subst hk
      rw [State.setGauge_gauge_self] at hc
      rw [record]
      exact hg c hc
    · rw [State.setGauge_gauge_ne _ _ hk] at hc
      rw [others hk]
      exact h.gauge k c hc

/-- A channel is put. -/
theorem setGauge (h : s.PublishedRanges) {t : TankIx} {g : Option GaugeChannel} (hg : ∀ c ∈ g, c.inRange (s.tank t)) :
    (s.setGauge t g).PublishedRanges := by
  have k := h.put (t := t) (h.tank t) hg
  refine k.of_measures (measures_of_same ?_ rfl rfl)
  exact (congrArg (fun x : State => x.tt.tanks) (updTank_same (s := s) (t := t) (f := fun _ => s.tank t) rfl)).symm

/-- A record is put whose definition and table are those it replaces. -/
theorem updTank (h : s.PublishedRanges) {t : TankIx} {f : TankRecord → TankRecord} (hr : (f (s.tank t)).InRange)
    (hd : (f (s.tank t)).defn = (s.tank t).defn) (hs : (f (s.tank t)).strap = (s.tank t).strap) :
    (s.updTank t f).PublishedRanges := by
  have k := h.put (t := t) (g := s.gauge t) hr fun c hc => GaugeChannel.inRange_congr (h.gauge t c hc) hd hs
  refine k.of_measures (measures_of_same rfl ?_ rfl)
  simp [State.setGauge, State.gauge, State.updTank, State.putTank]

/-- A record is changed beyond its definition, its table and its published values. -/
theorem updTank_beyond (h : s.PublishedRanges) {t : TankIx} {f : TankRecord → TankRecord}
    (hd : (f (s.tank t)).defn = (s.tank t).defn) (hs : (f (s.tank t)).strap = (s.tank t).strap)
    (hl : (f (s.tank t)).level = (s.tank t).level) (hv : (f (s.tank t)).volume = (s.tank t).volume) :
    (s.updTank t f).PublishedRanges := by
  obtain ⟨himage, hvolume, hlevel⟩ := h.tank t
  refine h.updTank ⟨?_, by rw [hs, hv]; exact hvolume, by rw [hs, hl, hd]; exact hlevel⟩ hd hs
  unfold ImageTank.lawful TankRecord.image at himage ⊢
  rw [hd, hs]
  exact himage

/-! ### The Tank Table -/

/-- A tank is told of, and M is worked out anew and told (R4, R22). -/
theorem told (h : s.PublishedRanges) (t : TankIx) (d : Bool) (c : ClassCause) (old : TankRecord) :
    ((s.tellTank t d c old).reMoment).PublishedRanges := by
  have put : s.putMoment.PublishedRanges := h.of_measures (measures_of_same rfl rfl rfl)
  exact put.of_standsIn (standsIn_reMoment (sameButNotices.tellTank (.refl s) t d c old).standsIn)

theorem hold (h : s.PublishedRanges) (t : TankIx) : (s.hold t).PublishedRanges := h.updTank_beyond rfl rfl rfl rfl

theorem setService (h : s.PublishedRanges) (t : TankIx) (v : Service) : (s.setService t v).PublishedRanges := by
  refine of_notices (b := s.updTank t fun r => { r with service := v }) ?_ (sameButNotices.tellTank (.refl _) _ _ _ _)
  exact h.updTank_beyond rfl rfl rfl rfl

theorem changeClass (h : s.PublishedRanges) (t : TankIx) (c : QClass) : (s.changeClass t c).PublishedRanges := by
  unfold State.changeClass
  dsimp only
  split
  · exact h
  · refine PublishedRanges.of_notices ?_ (sameButNotices.tellTank
      (sameButNotices.foldl (fun _ _ => (sameButNotices.refl _).emit _) _ (.refl _)) _ _ _ _)
    exact h.updTank_beyond rfl rfl rfl rfl

theorem setLimits (h : s.PublishedRanges) (t : TankIx) (m : Limits) : (s.setLimits t m).PublishedRanges := by
  refine of_standsIn ?_ (standsIn_setLimits s t m)
  exact h.updTank_beyond rfl rfl rfl rfl

theorem dropPublished (h : s.PublishedRanges) (t : TankIx) : (s.dropPublished t).PublishedRanges := by
  have k : (s.updTank t TankRecord.withoutVolume).PublishedRanges :=
    h.updTank (.of_absent (h.tank t).image rfl rfl) rfl rfl
  exact k.told t _ _ _

/-! ### The samples -/

theorem tellState (h : s.PublishedRanges) (t : TankIx) (g : GaugeChannel) : (s.tellState t g).PublishedRanges :=
  (h.of_standsIn (standsIn_report s _ _ _ _)).of_notices (sameButNotices.tellGauge (.refl _) _ _)

/-- A publication puts the channel's level and volume into the tank's record (R41). -/
theorem publishChannel (h : s.PublishedRanges) {t : TankIx} {g : GaugeChannel} (hg : g.inRange (s.tank t)) :
    (s.publishChannel t g).PublishedRanges := by
  cases hp : g.toPublish with
  | none =>
    rw [publishChannel_silent hp]
    exact h.setGauge fun c hc => Option.some.inj hc ▸ hg
  | some q =>
    by_cases hservice : (s.tank t).service = .undefined
    · have unchanged : s.publishChannel t g = s.setGauge t (some { g with published := some q }) := by
        simp only [State.publishChannel, hp]
        exact if_pos hservice
      rw [unchanged]
      exact h.setGauge fun c hc => Option.some.inj hc ▸ hg
    · rw [publishChannel_defined hservice hp rfl]
      refine of_standsIn (h.put ?_ fun c hc => ?_) (standsIn_publishedChannel s t _ _ _ _ _ _)
      · exact GaugeChannel.inRange_published hg (h.tank t) hp rfl rfl rfl rfl
      · exact Option.some.inj hc ▸ GaugeChannel.inRange_congr hg rfl rfl

theorem takeSample (h : s.PublishedRanges) {t : TankIx} {c : GaugeChannel} (hc : s.gauge t = some c) (raw : Option Nat) :
    (s.takeSample t c raw).PublishedRanges := by
  have sampled : (sampledAt c s.clock).inRange (s.tank t) := h.gauge t c hc
  by_cases hfailed : c.state = .failed
  · rw [takeSample_failed hfailed]
    exact h.setGauge fun x hx => Option.some.inj hx ▸ sampled
  · have published := h.publishChannel (GaugeChannel.inRange_handled sampled (h.tank t) s.gu.attitude raw)
    rw [takeSample_handled hfailed rfl]
    split
    · exact published
    · refine PublishedRanges.tellState ?_ _ _
      split
      · exact published.hold t
      · exact published

/-! ### Definition, removal, strapping, readmission -/

/-- A record is replaced and told, and its channel restarts with it (R7, R9, R26). -/
theorem restartChannel_told (h : s.PublishedRanges) {t : TankIx} {f : TankRecord → TankRecord} {d : TankDef}
    (hr : (f (s.tank t)).InRange) (hd : (f (s.tank t)).defn = some d) (defined : Bool) (c : ClassCause) (old : TankRecord) :
    ((((s.updTank t f).tellTank t defined c old).reMoment).restartChannel t).PublishedRanges := by
  have held : (f (s.tank t)).heldRecord.InRange := ⟨hr.image, hr.volume, hr.level⟩
  rw [State.restartChannel_told defined c old hd]
  refine of_notices (of_standsIn (of_notices (h.put (t := t) held ?_) ((putTank_sameButNotices s t _ _ _ _).setGauge t _))
    (standsIn_report _ _ _ _ _)) (sameButNotices.tellGauge (.refl _) _ _)
  intro x hx
  exact Option.some.inj hx ▸ GaugeChannel.inRange_fresh (r := (f (s.tank t)).heldRecord) hd (hr.windowLength hd) _ _

theorem defineTank (h : s.PublishedRanges) (t : TankIx) {d : TankDef} (hw : 1 ≤ d.windowLength) :
    (s.defineTank t d).PublishedRanges := by
  rw [State.defineTank_eq]
  exact h.restartChannel_told ((h.tank t).defined hw) (TankRecord.defined_defn d _) _ _ _

theorem loadStrap (h : s.PublishedRanges) {t : TankIx} {d : TankDef} {tb : List StrapPoint} (hd : (s.tank t).defn = some d)
    (ht : strapLawful d.height tb) : (s.loadStrap t tb).PublishedRanges :=
  h.restartChannel_told ((h.tank t).loadStrap hd ht) hd _ _ _

theorem removeTank (h : s.PublishedRanges) (t : TankIx) : (s.removeTank t).PublishedRanges := by
  have k : ((s.updTank t TankRecord.remove).setGauge t none).PublishedRanges :=
    (h.put (t := t) (r := (s.tank t).remove) (g := none) (.of_absent ImageTank.lawful_blank rfl rfl)
      fun _ hc => nomatch hc).of_measures (measures_of_same rfl rfl rfl)
  exact k.told t _ _ _

theorem readmit (h : s.PublishedRanges) {t : TankIx} {c : GaugeChannel} (hc : s.gauge t = some c) :
    (s.readmit t c).PublishedRanges := by
  have k : (s.setGauge t (some c.readmitted)).PublishedRanges :=
    h.setGauge fun x hx => Option.some.inj hx ▸ GaugeChannel.inRange_readmitted (h.gauge t c hc)
  exact ((k.dropPublished t).of_standsIn (standsIn_report _ _ _ _ _)).of_notices (sameButNotices.tellGauge (.refl _) _ _)

/-! ### The store, starts and the load -/

/-- A save writes the images of the tanks as they are (R189). -/
theorem beginSave (h : s.PublishedRanges) (m : Mode) : (s.beginSave m).PublishedRanges := by
  refine ⟨h.tank, h.gauge, h.stored, fun im him t => ?_⟩
  cases him
  have image : (s.workingImage m).tanks[t] = (s.tank t).image := by simp [State.workingImage]
  exact image ▸ (h.tank t).image

theorem endSave (h : s.PublishedRanges) : s.endSave.PublishedRanges := by
  unfold State.endSave
  split
  · next im him =>
    have written : State.PublishedRanges { s with
        sts := { s.sts with stored := im, checksumAgrees := true, storeValid := true, save := none } } :=
      ⟨h.tank, h.gauge, h.save im him, fun _ hm => nomatch hm⟩
    exact written.of_standsIn (standsIn_report _ _ _ _ _)
  · exact h

theorem stopPart (h : s.PublishedRanges) (x : Power) : (s.stopPart x).PublishedRanges :=
  ⟨h.tank, h.gauge, h.stored, fun _ hm => nomatch hm⟩

/-- A start knows no tank and no channel; the stored image stays (R191). -/
theorem begin (h : s.PublishedRanges) (c : ResetCause) (k : Kept) : (s.begin c k).PublishedRanges := by
  refine ⟨fun t => ?_, fun t x hx => ?_, h.stored, fun _ hm => nomatch hm⟩
  · have record : (s.begin c k).tank t = TankRecord.blank (k.cls t) := by simp [State.tank, State.begin, TankTable.start]
    exact record ▸ .blank _
  · simp [State.gauge, State.begin, GaugingUnit.start] at hx

/-- An image in range is loaded: a tank that it defines gets its definition and table, and a fresh channel (R2, R28). -/
theorem takeImage (h : s.PublishedRanges) {im : Image} (him : im.InRange) : (s.takeImage im).PublishedRanges := by
  have record (t : TankIx) : (s.takeImage im).tank t = im.tanks[t].load (s.tank t).cls := by
    simp [State.tank, State.takeImage]
  have loaded (t : TankIx) {d : TankDef} (hd : im.tanks[t].defn = some d) :
      (s.takeImage im).tank t = { TankRecord.blank (s.tank t).cls with
        defn := some d, strap := im.tanks[t].strap, service := im.tanks[t].service, limits := im.tanks[t].limits,
        notices := some NoticeEnables.initial } := by
    simp only [record, ImageTank.load, hd]
  refine ⟨fun t => ?_, fun t c hc => ?_, h.stored, h.save⟩
  · cases hd : im.tanks[t].defn with
    | none =>
      have blank : (s.takeImage im).tank t = TankRecord.blank .quarantine := by simp only [record, ImageTank.load, hd]
      exact blank ▸ .blank _
    | some d =>
      rw [loaded t hd]
      refine .of_absent ?_ rfl rfl
      have image := him t
      unfold ImageTank.lawful at image ⊢
      rw [hd] at image
      exact image
  · have channel : (s.takeImage im).gauge t =
        im.tanks[t].defn.map fun d => GaugeChannel.fresh d im.tanks[t].strap s.clock none := by
      simp [State.gauge, State.takeImage]
    rw [channel] at hc
    obtain ⟨d, hd, rfl⟩ := Option.map_eq_some_iff.mp hc
    rw [loaded t hd]
    exact GaugeChannel.inRange_fresh rfl ((him t).2 d hd) _ _

theorem load (h : s.PublishedRanges) : s.load.PublishedRanges := by
  have image : s.sts.toLoad.InRange := by
    unfold SettingsStore.toLoad
    split
    · exact h.stored
    · exact Image.inRange_factory
  have k : State.PublishedRanges { s.takeImage s.sts.toLoad with
      sts := { (s.takeImage s.sts.toLoad).sts with
        workingFlag := s.sts.toLoad.commissioning, storeValid := s.sts.checksumAgrees } } :=
    (h.takeImage image).of_measures (measures_of_same rfl rfl rfl)
  exact k.of_measures (changeMode_measures _ _ _)

end State.PublishedRanges
end Sys2Proof.Machine
end

section
/-!
PROOF. Every request, every command, and so every step, keeps the published values in range (O60).
-/
namespace Sys2Proof.Machine.State.PublishedRanges

variable {s u : State}

/-! ### The requests -/

/-- A check that refuses leaves the state as it is; what follows it decides. -/
theorem check {c : Prop} [Decidable c] {st : Status} {a : Answer × State} (h : s.PublishedRanges)
    (k : a.2.PublishedRanges) : (if c then refuse st s else a).2.PublishedRanges := by
  split
  · exact h
  · exact k

theorem answerTankDefine (h : s.PublishedRanges) (l : List Byte) : (answerTankDefine l s).2.PublishedRanges := by
  refine check h (check h (check h ?_))
  split
  · next hd => exact h.defineTank _ (readDefinition_windowLength hd)
  · exact h

theorem answerTankRemove (h : s.PublishedRanges) (l : List Byte) : (answerTankRemove l s).2.PublishedRanges := by
  refine check h (check h (check h ?_))
  split
  · exact check h (h.removeTank _)
  · exact h

theorem answerStrapLoad (h : s.PublishedRanges) (l : List Byte) : (answerStrapLoad l s).2.PublishedRanges := by
  refine check h (check h (check h ?_))
  split
  · exact h
  · split
    · exact h
    · next hd =>
      split
      · exact h
      · next ht => exact h.loadStrap hd (readStrap_lawful ht)

theorem answerTankService (h : s.PublishedRanges) (l : List Byte) : (answerTankService l s).2.PublishedRanges := by
  refine check h (check h ?_)
  split
  · refine check h (check h ?_)
    split
    · exact h
    · exact h.setService _ _
  · exact h

theorem answerTankClass (h : s.PublishedRanges) (l : List Byte) : (answerTankClass l s).2.PublishedRanges := by
  refine check h ?_
  split
  · exact check h (h.changeClass _ _)
  · exact h

theorem answerTankLimits (h : s.PublishedRanges) (l : List Byte) : (answerTankLimits l s).2.PublishedRanges := by
  refine check h (check h ?_)
  split
  · refine check h ?_
    split
    · exact h
    · dsimp only
      split
      · exact h.setLimits _ _
      · exact h
  · exact h

theorem answerTankNotice (h : s.PublishedRanges) (l : List Byte) : (answerTankNotice l s).2.PublishedRanges := by
  refine check h ?_
  split
  · next t n _ _ =>
    have noted : (s.updTank t fun r => { r with notices := some n }).PublishedRanges := h.updTank_beyond rfl rfl rfl rfl
    exact check h noted
  · exact h

theorem answerBalanceSet (h : s.PublishedRanges) (l : List Byte) : (answerBalanceSet l s).2.PublishedRanges := by
  refine check h (check h ?_)
  split
  · exact h.of_measures (measures_of_same rfl rfl rfl)
  · exact h

theorem answerGaugeReadmit (h : s.PublishedRanges) (l : List Byte) : (answerGaugeReadmit l s).2.PublishedRanges := by
  refine check h ?_
  split
  · exact h
  · split
    · exact h
    · next hc =>
      split
      · exact h.readmit hc
      · exact h

theorem answerSettingsSave (h : s.PublishedRanges) (l : List Byte) : (answerSettingsSave l s).2.PublishedRanges := by
  refine check h (check h ?_)
  split
  · exact h
  · exact h.beginSave _

theorem answerCommissionEnd (h : s.PublishedRanges) (l : List Byte) : (answerCommissionEnd l s).2.PublishedRanges := by
  refine check h (check h (check h ?_))
  split
  · exact h
  · next m _ =>
    have marked : State.PublishedRanges { s with sts := { s.sts with workingFlag := false } } :=
      h.of_measures (measures_of_same rfl rfl rfl)
    refine check h ?_
    exact (marked.beginSave m).of_measures (changeMode_measures _ _ _)

/-- Whatever the owner of a request does, it keeps the published values in range. -/
theorem handler {kind : Byte} {f : Handler} (hf : handlerOf kind = some f) (h : s.PublishedRanges) (l : List Byte) :
    (f l s).2.PublishedRanges := by
  unfold handlerOf at hf
  split at hf <;> cases hf
  · exact h.answerTankDefine l
  · exact h.answerTankRemove l
  · exact h.answerStrapLoad l
  · exact h.answerTankService l
  · exact h.answerTankClass l
  · exact h.answerTankLimits l
  · exact h.answerTankNotice l
  · exact h.answerBalanceSet l
  · exact (answerTankGet_state l s).symm ▸ h
  · exact h.answerGaugeReadmit l
  · exact (answerGaugeGet_state l s).symm ▸ h
  · exact h.of_measures (answerValveSet_measures l s)
  · exact h.of_measures (answerValveReset_measures l s)
  · exact (answerValveGet_state l s).symm ▸ h
  · exact h.of_measures (answerActuatorSet_measures l s)
  · exact h.of_measures (answerPumpReset_measures l s)
  · exact h.of_measures (answerSourceSet_measures l s)
  · exact h.of_measures (answerSourcePermit_measures l s)
  · exact (answerSourceGet_state l s).symm ▸ h
  · exact h.of_measures (answerRuleSet_measures l s)
  · exact (answerRuleGet_state l s).symm ▸ h
  · exact h.of_measures (answerShoreOpen_measures l s)
  · exact h.of_measures (answerShoreClose_measures l s)
  · exact h.of_measures (answerProbeCheck_measures l s)
  · exact h.of_measures (answerOrderSubmit_measures l s)
  · exact h.of_measures (answerOrderCancel_measures l s)
  · exact h.of_measures (answerStopAll_measures l s)
  · exact h.of_measures (answerOrderResume_measures l s)
  · exact h.of_measures (answerOrderRemove_measures l s)
  · exact (answerOrderGet_state l s).symm ▸ h
  · exact (answerOrderList_state l s).symm ▸ h
  · exact h.of_measures (answerChannelSet_measures l s)
  · exact h.of_measures (answerChannelOut_measures l s)
  · exact h.of_measures (answerChannelIn_measures l s)
  · exact (answerChannelGet_state l s).symm ▸ h
  · exact h.of_measures (answerDutySet_measures l s)
  · exact h.of_measures (answerSupplyAdvance_measures l s)
  · exact (answerSupplyGet_state l s).symm ▸ h
  · exact h.of_measures (answerModeSet_measures l s)
  · exact h.of_measures (answerSupervisionSet_measures l s)
  · exact h.of_measures (answerHeartbeat_measures l s)
  · exact (answerStatusGet_state l s).symm ▸ h
  · exact h.of_measures (answerFetchReports_measures l s)
  · exact h.of_measures (answerReportEnable_measures l s)
  · exact h.of_measures (answerRestart_measures l s)
  · exact h.answerSettingsSave l
  · exact h.answerCommissionEnd l

theorem answer (h : s.PublishedRanges) (r : Request) : (s.answer r).2.PublishedRanges := by
  unfold State.answer
  split
  · exact h
  · exact check h (h.handler ‹_› _)

/-! ### The control link -/

/-- The link's own records, the pins and what is queued are none of the measures. -/
theorem of_same (h : s.PublishedRanges) (ht : u.tt = s.tt) (hg : u.gu = s.gu) (hs : u.sts = s.sts) : u.PublishedRanges :=
  h.of_measures (measures_of_same (by rw [ht]) (by rw [hg]) (by rw [hs]))

theorem serve (h : s.PublishedRanges) (r : Request) : (s.serve r).PublishedRanges := by
  have joined : State.PublishedRanges { s with lu := { s.lu with intake := s.lu.intake ++ [r] } } := h.of_same rfl rfl rfl
  exact (joined.answer r).of_same rfl rfl rfl

theorem receive (h : s.PublishedRanges) (r : Request) : (s.receive r).PublishedRanges := by
  unfold State.receive
  split
  · exact h
  · split
    · exact h.serve r
    · split
      · exact h.of_same rfl rfl rfl
      · exact h

theorem setFramer (h : s.PublishedRanges) (f : Framer) : (s.setFramer f).PublishedRanges := h.of_same rfl rfl rfl

theorem bytesIn (h : s.PublishedRanges) (bs : List Byte) : (s.bytesIn bs).PublishedRanges :=
  List.foldlRecOn _ _ (motive := PublishedRanges) (h.setFramer _) fun _ hx r _ => (hx.receive r).deliver

theorem sent (h : s.PublishedRanges) : s.sent.PublishedRanges := by
  unfold State.sent
  split
  · exact h
  · exact h.of_same rfl rfl rfl

/-- An event happens to a part that runs, and its notices are delivered; nothing happens to any other. -/
theorem react {f : State → State} (h : s.PublishedRanges) (hf : (f s).PublishedRanges) : (s.react f).PublishedRanges := by
  unfold State.react
  split
  · exact hf.deliver
  · exact h

/-- An event that leaves the measures. -/
theorem react_measures {f : State → State} (h : s.PublishedRanges) (hf : (f s).measures = s.measures) :
    (s.react f).PublishedRanges := h.react (h.of_measures hf)

/-- An event that acts or leaves the state as it is. -/
theorem react_ite {c : State → Prop} [∀ x, Decidable (c x)] {f g : State → State} (h : s.PublishedRanges)
    (hf : (f s).measures = s.measures) (hg : (g s).measures = s.measures) :
    (s.react fun x => if c x then f x else g x).PublishedRanges :=
  h.react_measures (ite_measures hf hg)

theorem frame (h : s.PublishedRanges) (r : Request) : (s.frame r).PublishedRanges :=
  h.react ((h.setFramer _).receive r)

/-! ### The gauges and the inclinometer -/

theorem sampleRequest (h : s.PublishedRanges) {t : TankIx} (hu : execSampleRequest t s = .next u) : u.PublishedRanges := by
  cases hu
  refine h.react ?_
  split
  · next c hc =>
    split
    · exact h
    · refine h.setGauge fun x hx => ?_
      cases hx
      exact h.gauge t c hc
  · exact h

theorem sampleAnswer (h : s.PublishedRanges) {t : TankIx} {a : Sys2Proof.ConverterAnswer}
    (hu : execSampleAnswer t a s = .next u) : u.PublishedRanges := by
  cases hu
  refine h.react ?_
  split
  · next c hc =>
    split
    · split
      · exact h.takeSample hc _
      · exact h
    · exact h
  · exact h

theorem sampleTimeout (h : s.PublishedRanges) {t : TankIx} (hu : execSampleTimeout t s = .next u) : u.PublishedRanges := by
  cases hu
  refine h.react ?_
  split
  · next c hc =>
    split
    · exact h.takeSample hc _
    · exact h
  · exact h

theorem attitudeSample (h : s.PublishedRanges) {list trim : BitVec 16} (hu : execAttitudeSample list trim s = .next u) :
    u.PublishedRanges := by
  cases hu
  refine h.react_measures ?_
  dsimp only
  split <;> exact measures_of_same rfl rfl rfl

theorem attitudeStale (h : s.PublishedRanges) (hu : execAttitudeStale s = .next u) : u.PublishedRanges := by
  cases hu
  exact h.react_ite (measures_of_same rfl rfl rfl) rfl

/-! ### Field inputs, power and store -/

theorem setPins (h : s.PublishedRanges) (x : Pins) : State.PublishedRanges { s with pins := x } := h.of_same rfl rfl rfl

theorem runSignal (h : s.PublishedRanges) {w : Watermaker} {b : Bool} (hu : execRunSignal w b s = .next u) :
    u.PublishedRanges := by
  cases hu
  refine (h.setPins _).react_measures ?_
  split
  · rfl
  · split
    · exact measures_of_intake (State.makerRise_beyondIntake _ w)
    · exact measures_of_intake (State.makerFall_beyondIntake _ w)

theorem powerUp (h : s.PublishedRanges) (hu : execPowerUp s = .next u) : u.PublishedRanges := by
  cases hu
  split
  · exact h.begin _ _
  · exact (h.begin _ _).stopPart _

theorem resetnHeld (h : s.PublishedRanges) (hu : execResetnHeld s = .next u) : u.PublishedRanges := by
  cases hu
  split
  · exact h.setPins _
  · exact (h.setPins _).stopPart _

theorem resetLine (h : s.PublishedRanges) (hu : execResetLine s = .next u) : u.PublishedRanges := by
  cases hu
  split
  · exact h.setPins _
  · exact (h.setPins _).begin _ _

theorem restartRequest (h : s.PublishedRanges) (hu : execRestartRequest s = .next u) : u.PublishedRanges := by
  cases hu
  split
  · exact h.begin _ _
  · exact h

theorem loadEnd (h : s.PublishedRanges) (hu : execLoadEnd s = .next u) : u.PublishedRanges := by
  cases hu
  refine h.react ?_
  split
  · exact h.load
  · exact h

/-! ### Every command, every step -/

/-- Every command keeps the published values in range. -/
theorem exec (h : s.PublishedRanges) {i : Sys2Proof.Instr} (hu : exec i s = .next u) : u.PublishedRanges := by
  cases hr : i.request with
  | some r =>
    rw [exec_request hr] at hu
    cases hu
    exact h.frame r
  | none =>
    cases i with
    | frameDiscarded bs => cases hu; exact h.react (h.bytesIn _)
    | receiveGap bs b => cases hu; exact h.react (((h.bytesIn _).setFramer _).bytesIn _)
    | framingError bs => cases hu; exact h.react ((h.bytesIn _).setFramer _)
    | rxdBreak bs => cases hu; exact h.react ((h.bytesIn _).setFramer _)
    | replySent => cases hu; exact h.react h.sent
    | powerUp => exact h.powerUp hu
    | resetnHeld => exact h.resetnHeld hu
    | resetLine => exact h.resetLine hu
    | restartRequest => exact h.restartRequest hu
    | loadEnd => exact h.loadEnd hu
    | saveEnd => cases hu; exact h.react h.endSave
    | sampleRequest t => exact h.sampleRequest hu
    | sampleAnswer t a => exact h.sampleAnswer hu
    | sampleTimeout t => exact h.sampleTimeout hu
    | attitudeSample l t => exact h.attitudeSample hu
    | attitudeStale => exact h.attitudeStale hu
    | valveFeedback v a b => cases hu; exact (h.setPins _).react_ite rfl (feedback_measures _ _ _)
    | travelTimeout v => cases hu; exact h.react_ite (valveFault_measures _ _ _) rfl
    | pumpFeedback c b => cases hu; exact (h.setPins _).react_ite rfl (pumpFeedback_measures _ _ _)
    | startTimeout c => cases hu; exact h.react_ite (pumpFault_measures _ _ _) rfl
    | stopTimeout c => cases hu; exact h.react_ite (pumpFault_measures _ _ _) rfl
    | conductivitySample x v => cases hu; exact h.react_ite rfl (conductivity_measures _ _ _)
    | runSignal w b => exact h.runSignal hu
    | flushEnd w => cases hu; exact h.react_measures (measures_of_intake (s.endFlush_beyondIntake w))
    | dumpLimit w => cases hu; exact h.react_measures (s.dumpExpired_measures w)
    | sourcePulse x => cases hu; exact h.react_measures (s.sourcePulse_measures x)
    | probeCheckEnd x => cases hu; exact h.react_ite (endCheck_measures _ _) rfl
    | channelPulse c => cases hu; exact h.react_measures (s.channelPulse_measures c)
    | noFlow c => cases hu; exact h.react_measures (s.flowLost_measures c)
    | wakeLimit => cases hu; exact h.react_measures (measures_of_modes s.wakeLimitExpires_beyondModes)
    | falseWake => cases hu; exact h.react_measures (measures_of_modes s.confirmExpires_beyondModes)
    | supervisionExpiry => cases hu; exact h.react_measures (measures_of_modes s.supervisionExpires_beyondModes)
    | powerLoss => cases hu; exact h.stopPart _
    | _ => cases hr

theorem idle (h : s.PublishedRanges) (hu : s.idle = .next u) : u.PublishedRanges := by
  unfold State.idle at hu
  split at hu
  · split at hu
    · exact h.exec hu
    · cases hu
      exact h.of_same rfl rfl rfl
  · cases hu
    exact h

theorem step (h : s.PublishedRanges) (hu : step s = .next u) : u.PublishedRanges := by
  unfold Machine.step at hu
  split at hu
  · next c rest _ =>
    have taken : State.PublishedRanges { s with pending := rest } := h.of_same rfl rfl rfl
    exact taken.exec hu
  · exact h.idle hu

end Sys2Proof.Machine.State.PublishedRanges
end

section
open Sys2Proof Sys2Proof.Machine

/-- Settles O60: `State.PublishedRanges` holds before the step and every command keeps it; a published level and a published
volume lie in the range that it gives the tank's record. -/
theorem stepsKeepThePublishedRanges : Obligations.StepsKeepThePublishedRanges := by
  intro s u hlaw hstep
  have h : u.PublishedRanges := (s.publishedLaw_iff.mp hlaw).step hstep
  exact ⟨u.publishedLaw_iff.mpr h, fun t => ⟨fun l hl => (h.tank t).level_le hl, volumeWithin_iff.mp (h.tank t).volume⟩⟩
end

section
/-!
PROOF. What a step does to a law over the acting blocks (the Actuator Unit, the Intake Router, the Transfer Engine, the Supply
Selector and the Plant Mode Controller) and the notices in flight. `State.KeptByCommands` lists the operations that commands
bring to these blocks, each with the checks that stand before it; a law that each of them keeps is kept by every step
(`State.KeptByCommands.step`). What the Link Unit, the Tank Table, the Gauging Unit and the store do beside that informs these
blocks alone (`State.Informs`).
-/
namespace Sys2Proof.Machine

/-- An event has left the records of the acting blocks as they were; notices were only added. -/
structure State.Informs (s u : State) : Prop where
  au : u.au = s.au
  ir : u.ir = s.ir
  te : u.te = s.te
  ss : u.ss = s.ss
  pmc : u.pmc = s.pmc
  msgs : s.msgs <+: u.msgs

namespace State.Informs

variable {b s u : State}

theorem refl (s : State) : s.Informs s := ⟨rfl, rfl, rfl, rfl, rfl, List.prefix_refl _⟩

theorem trans (h : b.Informs s) (k : s.Informs u) : b.Informs u :=
  ⟨k.au.trans h.au, k.ir.trans h.ir, k.te.trans h.te, k.ss.trans h.ss, k.pmc.trans h.pmc, h.msgs.trans k.msgs⟩

theorem of_same (hau : u.au = s.au) (hir : u.ir = s.ir) (hte : u.te = s.te) (hss : u.ss = s.ss) (hpmc : u.pmc = s.pmc)
    (hm : u.msgs = s.msgs) : s.Informs u :=
  ⟨hau, hir, hte, hss, hpmc, by rw [hm]⟩

theorem foldl {α : Type} {f : State → α → State} (hf : ∀ x a, b.Informs x → b.Informs (f x a)) (l : List α)
    (h : b.Informs s) : b.Informs (l.foldl f s) := by
  induction l generalizing s with
  | nil => exact h
  | cons a l ih => exact ih (hf _ _ h)

theorem emit (h : b.Informs s) (m : Msg) : b.Informs (s.emit m) :=
  h.trans ⟨rfl, rfl, rfl, rfl, rfl, List.prefix_append _ _⟩

theorem tell (h : b.Informs s) (ms : List Msg) : b.Informs (s.tell ms) :=
  h.trans ⟨rfl, rfl, rfl, rfl, rfl, List.prefix_append _ _⟩

theorem report (h : b.Informs s) (k : ReportKind) (x y z : Nat) : b.Informs (s.report k x y z) :=
  h.trans (of_same rfl rfl rfl rfl rfl rfl)

theorem updTank (h : b.Informs s) (t : TankIx) (f : TankRecord → TankRecord) : b.Informs (s.updTank t f) :=
  h.trans (of_same rfl rfl rfl rfl rfl rfl)

theorem setGauge (h : b.Informs s) (t : TankIx) (c : Option GaugeChannel) : b.Informs (s.setGauge t c) :=
  h.trans (of_same rfl rfl rfl rfl rfl rfl)

/-! ### The Tank Table and the Gauging Unit -/

theorem tellTank (h : b.Informs s) (t : TankIx) (d : Bool) (c : ClassCause) (old : TankRecord) :
    b.Informs (s.tellTank t d c old) := by
  unfold State.tellTank
  dsimp only
  split
  · exact h.tell _
  · exact h

theorem reMoment (h : b.Informs s) : b.Informs s.reMoment := by
  unfold State.reMoment
  dsimp only
  split
  · exact h
  · have put : b.Informs { s with tt := { s.tt with moment := momentOf s.tt.tanks } } :=
      h.trans (of_same rfl rfl rfl rfl rfl rfl)
    exact put.emit _

theorem takeCrossing (h : b.Informs s) (t : TankIx) (vol : Nat) (n : NoticeEnables) (x : Threshold × Direction) :
    b.Informs (State.takeCrossing t vol n s x) := by
  have noted : b.Informs (s.noteCrossing t vol n x) := by
    unfold State.noteCrossing
    split
    · exact h.report _ _ _ _
    · exact h
  rw [State.takeCrossing_eq]
  split
  · exact noted.emit _
  · exact noted

theorem takeStates (h : b.Informs s) (t : TankIx) (vol : Nat) (new : ThStates) : b.Informs (s.takeStates t vol new) := by
  unfold State.takeStates
  dsimp only
  split
  · exact foldl (fun _ x k => k.takeCrossing t vol _ x) _ (h.updTank _ _)
  · exact h.updTank _ _

theorem publish (h : b.Informs s) (t : TankIx) (level vol : Nat) (g : GaugeState) : b.Informs (s.publish t level vol g) := by
  unfold State.publish
  dsimp only
  split
  · exact h
  · exact (((h.updTank _ _).takeStates _ _ _).tellTank _ _ _ _).reMoment

theorem setLimits (h : b.Informs s) (t : TankIx) (m : Limits) : b.Informs (s.setLimits t m) := by
  unfold State.setLimits
  dsimp only
  split
  · split
    · exact h.updTank _ _
    · exact ((h.updTank _ _).takeStates _ _ _).tellTank _ _ _ _
  · exact h.updTank _ _

theorem changeClass (h : b.Informs s) (t : TankIx) (c : QClass) : b.Informs (s.changeClass t c) := by
  unfold State.changeClass
  dsimp only
  split
  · exact h
  · exact (foldl (fun _ _ k => k.emit _) _ (h.updTank _ _)).tellTank _ _ _ _

theorem setService (h : b.Informs s) (t : TankIx) (v : Service) : b.Informs (s.setService t v) :=
  (h.updTank _ _).tellTank _ _ _ _

theorem restartChannel (h : b.Informs s) (t : TankIx) : b.Informs (s.restartChannel t) := by
  unfold State.restartChannel
  split
  · exact (((h.setGauge _ _).updTank _ _).report _ _ _ _).tell _
  · exact h

theorem defineTank (h : b.Informs s) (t : TankIx) (d : TankDef) : b.Informs (s.defineTank t d) :=
  (((h.updTank _ _).tellTank _ _ _ _).reMoment).restartChannel _

theorem removeTank (h : b.Informs s) (t : TankIx) : b.Informs (s.removeTank t) :=
  (((h.updTank _ _).setGauge _ _).tellTank _ _ _ _).reMoment

theorem loadStrap (h : b.Informs s) (t : TankIx) (tb : List StrapPoint) : b.Informs (s.loadStrap t tb) :=
  (((h.updTank _ _).tellTank _ _ _ _).reMoment).restartChannel _

theorem readmit (h : b.Informs s) (t : TankIx) (c : GaugeChannel) : b.Informs (s.readmit t c) :=
  (((((h.setGauge _ _).updTank _ _).tellTank _ _ _ _).reMoment).report _ _ _ _).tell _

theorem publishChannel (h : b.Informs s) (t : TankIx) (c : GaugeChannel) : b.Informs (s.publishChannel t c) := by
  unfold State.publishChannel
  split
  · exact (h.setGauge _ _).publish _ _ _ _
  · exact h.setGauge _ _

theorem takeSample (h : b.Informs s) (t : TankIx) (c : GaugeChannel) (raw : Option Nat) :
    b.Informs (s.takeSample t c raw) := by
  unfold State.takeSample
  dsimp only
  split
  · exact h.setGauge _ _
  · split
    · exact h.publishChannel _ _
    · split
      · exact (((h.publishChannel _ _).updTank _ _).report _ _ _ _).tell _
      · exact ((h.publishChannel _ _).report _ _ _ _).tell _

end State.Informs

/-! ### The operations that commands bring to the acting blocks -/

/-- A law that each operation of a command keeps, behind the checks that stand before it. -/
structure State.KeptByCommands (P : State → Prop) : Prop where
  informs : ∀ {s u : State}, P s → s.Informs u → P u
  hostCommand : ∀ {s : State} {v : Valve} {e : ValveEnd}, P s → s.mode = .commission → (s.valve v).state ≠ .fault →
    s.ownerActive v.owner = false → ¬(e = .b ∧ s.anotherOpen v = true) → P (s.hostCommand v e)
  resetValve : ∀ {s : State} {v : Valve}, P s → (s.valve v).state = .fault → P (s.resetValve v)
  feedback : ∀ {s : State} {v : Valve} {p : Position}, P s → p ≠ (s.valve v).reported → P (s.feedback v p)
  travelTimeout : ∀ {s : State} {v : Valve}, P s → (s.valve v).state.target.isSome → P (s.valveFault v .travelTimeout)
  travelTime : ∀ {s : State} (n : Nat), P s → P { s with au := { s.au with travelTimeout := n } }
  resetPump : ∀ {s : State} {c : Channel}, P s → (s.pump c).state = .fault → P (s.resetPump c)
  pumpFeedback : ∀ {s : State} {c : Channel} {on : Bool}, P s → (s.pump c).feedback ≠ on → P (s.pumpFeedback c on)
  startTimeout : ∀ {s : State} {c : Channel}, P s → (s.pump c).state = .starting → P (s.pumpFault c .startTimeout)
  stopTimeout : ∀ {s : State} {c : Channel}, P s → (s.pump c).state = .stopping → P (s.pumpFault c .stopTimeout)
  setSource : ∀ {s : State} (x : Source) (v : SourceSettings), P s → P (s.setSource x v)
  permitSwitch : ∀ {s : State} (w : Watermaker) (give : Bool), P s → P (s.permitSwitch w give)
  setRules : ∀ {s : State} (r : Vector Rule 8), P s → P { s with ir := { s.ir with rules := r } }
  decideAll : ∀ {s : State}, P s → P s.decideAll
  openShore : ∀ {s : State}, P s → P s.openShore
  endShore : ∀ {s : State} (e : EndReason), P s → P (s.endShore e)
  beginCheck : ∀ {s : State} (x : Source), P s → P (s.beginCheck x)
  endCheck : ∀ {s : State} (x : Source), P s → P (s.endCheck x)
  conductivity : ∀ {s : State} (x : Source) (v : Nat), P s → P (s.conductivity x v)
  makerRise : ∀ {s : State} (w : Watermaker), P s → P (s.makerRise w)
  makerFall : ∀ {s : State} (w : Watermaker), P s → P (s.makerFall w)
  endFlush : ∀ {s : State} (w : Watermaker), P s → P (s.endFlush w)
  dumpExpired : ∀ {s : State} (w : Watermaker), P s → P (s.dumpExpired w)
  sourcePulse : ∀ {s : State} (x : Source), P s → P (s.sourcePulse x)
  submit : ∀ {s : State} {id : Nat} (priority : Nat) (policy : Policy) (legs : List Leg), P s →
    s.te.orders.length < storeSize → s.order id = none → P (s.submit id priority policy legs)
  cancel : ∀ {s : State} (id : Nat), P s → P (s.cancel id)
  settle : ∀ {s : State}, P s → P s.settle
  resume : ∀ {s : State} {o : Order}, P s → s.order o.id = some o → o.state = .held → P (s.resume o.id)
  removeOrder : ∀ {s : State} {o : Order}, P s → s.order o.id = some o → o.state.live = false →
    P { s with te := { s.te with orders := s.te.orders.filter (·.id ≠ o.id) } }
  setChannel : ∀ {s : State} (c : Channel) (v : ChannelSettings), P s →
    P (s.updChan c fun r => { r with meterFactor := v.meterFactor, noFlowTime := v.noFlowTime })
  takeOut : ∀ {s : State} (c : Channel), P s → P (s.takeOut c)
  takeIn : ∀ {s : State} {c : Channel}, P s → (s.pump c).state ≠ .fault → P (s.takeIn c)
  channelPulse : ∀ {s : State} (c : Channel), P s → P (s.channelPulse c)
  flowLost : ∀ {s : State} (c : Channel), P s → P (s.flowLost c)
  setDuty : ∀ {s : State} (l : List TankIx), P s → P (s.setDuty l)
  advance : ∀ {s : State} (t : TankIx), P s → P (s.advance t)
  setMode : ∀ {s : State} (m : Mode), P s → P (s.setMode m)
  setSupervision : ∀ {s : State} (period : Nat) (kind : SupKind), P s →
    P (s.updMode fun m => { m with period := period, kind := kind })
  takeHeartbeat : ∀ {s : State}, P s → P s.takeHeartbeat
  changeMode : ∀ {s : State} (m : Mode), P s → P (s.changeMode m none)
  wakeLimitExpires : ∀ {s : State}, P s → P s.wakeLimitExpires
  confirmExpires : ∀ {s : State}, P s → P s.confirmExpires
  supervisionExpires : ∀ {s : State}, P s → P s.supervisionExpires
  begin : ∀ (s : State) (c : ResetCause) (k : Kept), P (s.begin c k)
  load : ∀ {s : State}, P s → P s.load
  take : ∀ {s : State} {m : Msg} {rest : List Msg}, P s → s.msgs = m :: rest → P (State.take m { s with msgs := rest })
  keepDumpTimers : ∀ {s : State}, P s → P s.keepDumpTimers

namespace State.KeptByCommands

variable {P : State → Prop} {s u : State}

theorem deliver (k : KeptByCommands P) (h : P s) : P s.deliver :=
  State.deliver_induction P s h (fun _ _ _ hx hm => k.take hx hm) fun _ hx => k.keepDumpTimers hx

theorem foldl {α : Type} {f : State → α → State} (hf : ∀ x a, P x → P (f x a)) (l : List α) (h : P s) :
    P (l.foldl f s) := by
  induction l generalizing s with
  | nil => exact h
  | cons a l ih => exact ih (hf _ _ h)

/-! ### The answers to the requests -/

/-- A check that refuses leaves the state as it is; the check passed decides about what follows it. -/
theorem check {c : Prop} [Decidable c] {st : Status} {a : Answer × State} (h : P s) (hn : ¬c → P a.2) :
    P (if c then refuse st s else a).2 := by
  split
  · exact h
  · exact hn ‹_›

/-- An accepted request leaves the state that its effect makes. -/
theorem accepted {l : List Byte} (h : P s) : P (accept l s).2 := h

theorem answerTankDefine (k : KeptByCommands P) (h : P s) (l : List Byte) : P (answerTankDefine l s).2 := by
  refine check h fun _ => check h fun _ => check h fun _ => ?_
  split
  · exact k.informs h ((Informs.refl s).defineTank _ _)
  · exact h

theorem answerTankRemove (k : KeptByCommands P) (h : P s) (l : List Byte) : P (answerTankRemove l s).2 := by
  refine check h fun _ => check h fun _ => check h fun _ => ?_
  split
  · exact check h fun _ => k.informs h ((Informs.refl s).removeTank _)
  · exact h

theorem answerStrapLoad (k : KeptByCommands P) (h : P s) (l : List Byte) : P (answerStrapLoad l s).2 := by
  refine check h fun _ => check h fun _ => check h fun _ => ?_
  split
  · exact h
  · split
    · exact h
    · split
      · exact h
      · exact k.informs h ((Informs.refl s).loadStrap _ _)

theorem answerTankService (k : KeptByCommands P) (h : P s) (l : List Byte) : P (answerTankService l s).2 := by
  refine check h fun _ => check h fun _ => ?_
  split
  · refine check h fun _ => check h fun _ => ?_
    split
    · exact h
    · exact k.informs h ((Informs.refl s).setService _ _)
  · exact h

theorem answerTankClass (k : KeptByCommands P) (h : P s) (l : List Byte) : P (answerTankClass l s).2 := by
  refine check h fun _ => ?_
  split
  · exact check h fun _ => k.informs h ((Informs.refl s).changeClass _ _)
  · exact h

theorem answerTankLimits (k : KeptByCommands P) (h : P s) (l : List Byte) : P (answerTankLimits l s).2 := by
  refine check h fun _ => check h fun _ => ?_
  split
  · refine check h fun _ => ?_
    split
    · exact h
    · dsimp only
      split
      · exact k.informs h ((Informs.refl s).setLimits _ _)
      · exact h
  · exact h

theorem answerTankNotice (k : KeptByCommands P) (h : P s) (l : List Byte) : P (answerTankNotice l s).2 := by
  refine check h fun _ => ?_
  split
  · exact check h fun _ => accepted (k.informs h ((Informs.refl s).updTank _ _))
  · exact h

theorem answerBalanceSet (k : KeptByCommands P) (h : P s) (l : List Byte) : P (answerBalanceSet l s).2 := by
  refine check h fun _ => check h fun _ => ?_
  split
  · next lim hys _ =>
    have put : s.Informs { s with tt := { s.tt with mLim := lim, mHys := hys } } := Informs.of_same rfl rfl rfl rfl rfl rfl
    exact accepted (k.informs h (put.emit _))
  · exact h

theorem answerGaugeReadmit (k : KeptByCommands P) (h : P s) (l : List Byte) : P (answerGaugeReadmit l s).2 := by
  refine check h fun _ => ?_
  split
  · exact h
  · split
    · exact h
    · split
      · exact k.informs h ((Informs.refl s).readmit _ _)
      · exact h

theorem answerValveSet (k : KeptByCommands P) (h : P s) (l : List Byte) : P (answerValveSet l s).2 := by
  refine check h fun _ => check h fun hm => ?_
  split
  · exact check h fun hf => check h fun ha => check h fun ho =>
      k.hostCommand h (not_not.mp hm) hf (Bool.eq_false_iff.mpr ha) ho
  · exact h

theorem answerValveReset (k : KeptByCommands P) (h : P s) (l : List Byte) : P (answerValveReset l s).2 := by
  refine check h fun _ => ?_
  split
  · split
    · exact k.resetValve h ‹_›
    · exact h
  · exact h

theorem answerActuatorSet (k : KeptByCommands P) (h : P s) (l : List Byte) : P (answerActuatorSet l s).2 := by
  refine check h fun _ => check h fun _ => check h fun _ => ?_
  split
  · exact k.travelTime _ h
  · exact h

theorem answerPumpReset (k : KeptByCommands P) (h : P s) (l : List Byte) : P (answerPumpReset l s).2 := by
  refine check h fun _ => ?_
  split
  · split
    · exact k.resetPump h ‹_›
    · exact h
  · exact h

theorem answerSourceSet (k : KeptByCommands P) (h : P s) (l : List Byte) : P (answerSourceSet l s).2 := by
  refine check h fun _ => check h fun _ => check h fun _ => ?_
  split
  · exact k.setSource _ _ h
  · exact h

theorem answerSourcePermit (k : KeptByCommands P) (h : P s) (l : List Byte) : P (answerSourcePermit l s).2 := by
  refine check h fun _ => ?_
  split
  · exact k.permitSwitch _ _ h
  · exact h

theorem answerRuleSet (k : KeptByCommands P) (h : P s) (l : List Byte) : P (answerRuleSet l s).2 := by
  refine check h fun _ => check h fun _ => check h fun _ => ?_
  split
  · exact k.decideAll (k.setRules _ h)
  · exact h

theorem answerShoreOpen (k : KeptByCommands P) (h : P s) (l : List Byte) : P (answerShoreOpen l s).2 :=
  check h fun _ => check h fun _ => check h fun _ => check h fun _ => k.openShore h

theorem answerShoreClose (k : KeptByCommands P) (h : P s) (l : List Byte) : P (answerShoreClose l s).2 :=
  check h fun _ => k.endShore _ h

theorem answerProbeCheck (k : KeptByCommands P) (h : P s) (l : List Byte) : P (answerProbeCheck l s).2 := by
  refine check h fun _ => ?_
  split
  · exact h
  · exact check h fun _ => k.beginCheck _ h

theorem answerOrderSubmit (k : KeptByCommands P) (h : P s) (l : List Byte) : P (answerOrderSubmit l s).2 := by
  refine check h fun _ => check h fun _ => check h fun hroom => check h fun _ => check h fun hid => ?_
  split
  · exact h
  · exact check h fun _ => k.submit _ _ _ h (not_le.mp hroom) (Option.not_isSome_iff_eq_none.mp hid)

theorem answerOrderCancel (k : KeptByCommands P) (h : P s) (l : List Byte) : P (answerOrderCancel l s).2 := by
  refine check h fun _ => ?_
  split
  · exact h
  · exact check h fun _ => k.settle (k.cancel _ h)

theorem answerStopAll (k : KeptByCommands P) (h : P s) (l : List Byte) : P (answerStopAll l s).2 :=
  check h fun _ => k.settle (foldl (fun _ _ hx => k.cancel _ hx) _ h)

theorem answerOrderResume (k : KeptByCommands P) (h : P s) (l : List Byte) : P (answerOrderResume l s).2 := by
  refine check h fun _ => check h fun _ => ?_
  split
  · exact h
  · next o ho =>
    split
    · exact k.resume h ((State.order_id ho).symm ▸ ho) ‹_›
    · exact h

theorem answerOrderRemove (k : KeptByCommands P) (h : P s) (l : List Byte) : P (answerOrderRemove l s).2 := by
  refine check h fun _ => ?_
  split
  · exact h
  · next o ho => exact check h fun hl => k.removeOrder h ((State.order_id ho).symm ▸ ho) (Bool.eq_false_iff.mpr hl)

theorem answerChannelSet (k : KeptByCommands P) (h : P s) (l : List Byte) : P (answerChannelSet l s).2 := by
  refine check h fun _ => check h fun _ => check h fun _ => ?_
  split
  · exact k.setChannel _ _ h
  · exact h

theorem answerChannelOut (k : KeptByCommands P) (h : P s) (l : List Byte) : P (answerChannelOut l s).2 := by
  refine check h fun _ => ?_
  split
  · exact h
  · exact k.takeOut _ h

theorem answerChannelIn (k : KeptByCommands P) (h : P s) (l : List Byte) : P (answerChannelIn l s).2 := by
  refine check h fun _ => ?_
  split
  · exact h
  · exact check h fun _ => check h fun hf => k.takeIn h hf

theorem answerDutySet (k : KeptByCommands P) (h : P s) (l : List Byte) : P (answerDutySet l s).2 := by
  refine check h fun _ => check h fun _ => ?_
  split
  · exact h
  · exact k.setDuty _ h

theorem answerSupplyAdvance (k : KeptByCommands P) (h : P s) (l : List Byte) : P (answerSupplyAdvance l s).2 := by
  refine check h fun _ => check h fun _ => ?_
  split
  · exact accepted (k.advance _ h)
  · exact h

theorem answerModeSet (k : KeptByCommands P) (h : P s) (l : List Byte) : P (answerModeSet l s).2 := by
  refine check h fun _ => check h fun _ => ?_
  split
  · exact h
  · exact check h fun _ => check h fun _ => check h fun _ => k.setMode _ h

theorem answerSupervisionSet (k : KeptByCommands P) (h : P s) (l : List Byte) : P (answerSupervisionSet l s).2 := by
  refine check h fun _ => check h fun _ => check h fun _ => ?_
  split
  · exact h
  · exact k.setSupervision _ _ h

theorem answerHeartbeat (k : KeptByCommands P) (h : P s) (l : List Byte) : P (answerHeartbeat l s).2 :=
  check h fun _ => k.takeHeartbeat h

theorem answerFetchReports (k : KeptByCommands P) (h : P s) (l : List Byte) : P (answerFetchReports l s).2 := by
  refine check h fun _ => ?_
  split
  · exact h
  · exact k.informs h (Informs.of_same rfl rfl rfl rfl rfl rfl)

theorem answerReportEnable (k : KeptByCommands P) (h : P s) (l : List Byte) : P (answerReportEnable l s).2 := by
  refine check h fun _ => ?_
  split
  · exact h
  · exact k.informs h (Informs.of_same rfl rfl rfl rfl rfl rfl)

theorem answerRestart (k : KeptByCommands P) (h : P s) (l : List Byte) : P (answerRestart l s).2 :=
  check h fun _ => check h fun _ => k.informs h (Informs.of_same rfl rfl rfl rfl rfl rfl)

theorem answerSettingsSave (k : KeptByCommands P) (h : P s) (l : List Byte) : P (answerSettingsSave l s).2 := by
  refine check h fun _ => check h fun _ => ?_
  split
  · exact h
  · exact k.informs h (Informs.of_same rfl rfl rfl rfl rfl rfl)

theorem answerCommissionEnd (k : KeptByCommands P) (h : P s) (l : List Byte) : P (answerCommissionEnd l s).2 := by
  refine check h fun _ => check h fun _ => check h fun _ => ?_
  split
  · exact h
  · exact check h fun _ => k.changeMode _ (k.informs h (Informs.of_same rfl rfl rfl rfl rfl rfl))

/-- Whatever the owner of a request does, it keeps the law. -/
theorem handler (k : KeptByCommands P) {kind : Byte} {f : Handler} (hf : handlerOf kind = some f) (h : P s) (l : List Byte) :
    P (f l s).2 := by
  unfold handlerOf at hf
  split at hf <;> cases hf
  · exact k.answerTankDefine h l
  · exact k.answerTankRemove h l
  · exact k.answerStrapLoad h l
  · exact k.answerTankService h l
  · exact k.answerTankClass h l
  · exact k.answerTankLimits h l
  · exact k.answerTankNotice h l
  · exact k.answerBalanceSet h l
  · exact (answerTankGet_state l s).symm ▸ h
  · exact k.answerGaugeReadmit h l
  · exact (answerGaugeGet_state l s).symm ▸ h
  · exact k.answerValveSet h l
  · exact k.answerValveReset h l
  · exact (answerValveGet_state l s).symm ▸ h
  · exact k.answerActuatorSet h l
  · exact k.answerPumpReset h l
  · exact k.answerSourceSet h l
  · exact k.answerSourcePermit h l
  · exact (answerSourceGet_state l s).symm ▸ h
  · exact k.answerRuleSet h l
  · exact (answerRuleGet_state l s).symm ▸ h
  · exact k.answerShoreOpen h l
  · exact k.answerShoreClose h l
  · exact k.answerProbeCheck h l
  · exact k.answerOrderSubmit h l
  · exact k.answerOrderCancel h l
  · exact k.answerStopAll h l
  · exact k.answerOrderResume h l
  · exact k.answerOrderRemove h l
  · exact (answerOrderGet_state l s).symm ▸ h
  · exact (answerOrderList_state l s).symm ▸ h
  · exact k.answerChannelSet h l
  · exact k.answerChannelOut h l
  · exact k.answerChannelIn h l
  · exact (answerChannelGet_state l s).symm ▸ h
  · exact k.answerDutySet h l
  · exact k.answerSupplyAdvance h l
  · exact (answerSupplyGet_state l s).symm ▸ h
  · exact k.answerModeSet h l
  · exact k.answerSupervisionSet h l
  · exact k.answerHeartbeat h l
  · exact (answerStatusGet_state l s).symm ▸ h
  · exact k.answerFetchReports h l
  · exact k.answerReportEnable h l
  · exact k.answerRestart h l
  · exact k.answerSettingsSave h l
  · exact k.answerCommissionEnd h l

theorem answer (k : KeptByCommands P) (h : P s) (r : Request) : P (s.answer r).2 := by
  unfold State.answer
  split
  · exact h
  · exact check h fun _ => k.handler ‹_› h _

/-! ### The control link -/

theorem serve (k : KeptByCommands P) (h : P s) (r : Request) : P (s.serve r) := by
  have hin : P { s with lu := { s.lu with intake := s.lu.intake ++ [r] } } :=
    k.informs h (Informs.of_same rfl rfl rfl rfl rfl rfl)
  exact k.informs (k.answer hin r) (Informs.of_same rfl rfl rfl rfl rfl rfl)

theorem receive (k : KeptByCommands P) (h : P s) (r : Request) : P (s.receive r) := by
  unfold State.receive
  split
  · exact h
  · split
    · exact k.serve h r
    · split
      · exact k.informs h (Informs.of_same rfl rfl rfl rfl rfl rfl)
      · exact h

theorem setFramer (k : KeptByCommands P) (h : P s) (f : Framer) : P (s.setFramer f) :=
  k.informs h (Informs.of_same rfl rfl rfl rfl rfl rfl)

theorem bytesIn (k : KeptByCommands P) (h : P s) (bs : List Byte) : P (s.bytesIn bs) :=
  foldl (fun _ r hx => k.deliver (k.receive hx r)) _ (k.setFramer h _)

theorem sent (k : KeptByCommands P) (h : P s) : P s.sent := by
  unfold State.sent
  split
  · exact h
  · exact k.informs h (Informs.of_same rfl rfl rfl rfl rfl rfl)

/-- An event happens to a part that runs, and its notices are delivered; nothing happens to any other. -/
theorem react (k : KeptByCommands P) {f : State → State} (h : P s) (hf : P s → P (f s)) : P (s.react f) := by
  unfold State.react
  split
  · exact k.deliver (hf h)
  · exact h

/-- An event with a condition, outside which it changes nothing. -/
theorem react_if (k : KeptByCommands P) {c : State → Prop} [∀ x, Decidable (c x)] {f : State → State} (h : P s)
    (hf : c s → P (f s)) : P (s.react fun s => if c s then f s else s) := by
  refine k.react h fun _ => ?_
  split
  · exact hf ‹_›
  · exact h

/-- An event that a condition rules out. -/
theorem react_unless (k : KeptByCommands P) {c : State → Prop} [∀ x, Decidable (c x)] {f : State → State} (h : P s)
    (hf : ¬c s → P (f s)) : P (s.react fun s => if c s then s else f s) := by
  refine k.react h fun _ => ?_
  split
  · exact h
  · exact hf ‹_›

/-! ### Gauges and the inclinometer -/

theorem sampleRequest (k : KeptByCommands P) (h : P s) {t : TankIx} (hu : execSampleRequest t s = .next u) : P u := by
  cases hu
  refine k.react h fun _ => ?_
  split
  · split
    · exact h
    · exact k.informs h ((Informs.refl s).setGauge _ _)
  · exact h

theorem sampleAnswer (k : KeptByCommands P) (h : P s) {t : TankIx} {a : Sys2Proof.ConverterAnswer}
    (hu : execSampleAnswer t a s = .next u) : P u := by
  cases hu
  refine k.react h fun _ => ?_
  split
  · split
    · split
      · exact k.informs h ((Informs.refl s).takeSample _ _ _)
      · exact h
    · exact h
  · exact h

theorem sampleTimeout (k : KeptByCommands P) (h : P s) {t : TankIx} (hu : execSampleTimeout t s = .next u) : P u := by
  cases hu
  refine k.react h fun _ => ?_
  split
  · split
    · exact k.informs h ((Informs.refl s).takeSample _ _ _)
    · exact h
  · exact h

theorem attitudeSample (k : KeptByCommands P) (h : P s) {list trim : BitVec 16}
    (hu : execAttitudeSample list trim s = .next u) : P u := by
  cases hu
  refine k.react h fun _ => ?_
  dsimp only
  split
  · exact k.informs h (Informs.of_same rfl rfl rfl rfl rfl rfl)
  · exact k.informs h (Informs.of_same rfl rfl rfl rfl rfl rfl)

theorem attitudeStale (k : KeptByCommands P) (h : P s) (hu : execAttitudeStale s = .next u) : P u := by
  cases hu
  exact k.react_if h fun _ => k.informs h (Informs.of_same rfl rfl rfl rfl rfl rfl)

/-! ### Field inputs and timers -/

theorem setPins (k : KeptByCommands P) (h : P s) (x : Pins) : P { s with pins := x } :=
  k.informs h (Informs.of_same rfl rfl rfl rfl rfl rfl)

theorem runSignal (k : KeptByCommands P) (h : P s) {w : Watermaker} {b : Bool} (hu : execRunSignal w b s = .next u) : P u := by
  cases hu
  refine k.react (k.setPins h _) fun hx => ?_
  split
  · exact hx
  · split
    · exact k.makerRise _ hx
    · exact k.makerFall _ hx

/-! ### Power and store -/

theorem stopPart (k : KeptByCommands P) (h : P s) (x : Power) : P (s.stopPart x) :=
  k.informs h (Informs.of_same rfl rfl rfl rfl rfl rfl)

theorem powerUp (k : KeptByCommands P) (hu : execPowerUp s = .next u) : P u := by
  cases hu
  split
  · exact k.begin _ _ _
  · exact k.stopPart (k.begin _ _ _) _

theorem resetnHeld (k : KeptByCommands P) (h : P s) (hu : execResetnHeld s = .next u) : P u := by
  cases hu
  split
  · exact k.setPins h _
  · exact k.stopPart (k.setPins h _) _

theorem resetLine (k : KeptByCommands P) (h : P s) (hu : execResetLine s = .next u) : P u := by
  cases hu
  split
  · exact k.setPins h _
  · exact k.begin _ _ _

theorem restartRequest (k : KeptByCommands P) (h : P s) (hu : execRestartRequest s = .next u) : P u := by
  cases hu
  split
  · exact k.begin _ _ _
  · exact h

theorem endSave (k : KeptByCommands P) (h : P s) : P s.endSave := by
  unfold State.endSave
  split
  · exact k.informs h (Informs.of_same rfl rfl rfl rfl rfl rfl)
  · exact h

/-! ### Every command, every step -/

/-- Every command keeps the law. -/
theorem exec (k : KeptByCommands P) (h : P s) {i : Sys2Proof.Instr} (hu : exec i s = .next u) : P u := by
  cases hr : i.request with
  | some r =>
    rw [exec_request hr] at hu
    cases hu
    exact k.react h fun _ => k.receive (k.setFramer h _) r
  | none =>
    cases i with
    | frameDiscarded bs => cases hu; exact k.react h fun _ => k.bytesIn h _
    | receiveGap bs b => cases hu; exact k.react h fun _ => k.bytesIn (k.setFramer (k.bytesIn h _) _) _
    | framingError bs => cases hu; exact k.react h fun _ => k.setFramer (k.bytesIn h _) _
    | rxdBreak bs => cases hu; exact k.react h fun _ => k.setFramer (k.bytesIn h _) _
    | replySent => cases hu; exact k.react h k.sent
    | powerUp => exact k.powerUp hu
    | resetnHeld => exact k.resetnHeld h hu
    | resetLine => exact k.resetLine h hu
    | restartRequest => exact k.restartRequest h hu
    | loadEnd => cases hu; exact k.react_if h fun _ => k.load h
    | saveEnd => cases hu; exact k.react h k.endSave
    | sampleRequest t => exact k.sampleRequest h hu
    | sampleAnswer t a => exact k.sampleAnswer h hu
    | sampleTimeout t => exact k.sampleTimeout h hu
    | attitudeSample l t => exact k.attitudeSample h hu
    | attitudeStale => exact k.attitudeStale h hu
    | valveFeedback v a b => cases hu; exact k.react_unless (k.setPins h _) fun hne => k.feedback (k.setPins h _) hne
    | travelTimeout v => cases hu; exact k.react_if h fun hc => k.travelTimeout h hc.1
    | pumpFeedback c b => cases hu; exact k.react_unless (k.setPins h _) fun hne => k.pumpFeedback (k.setPins h _) hne
    | startTimeout c => cases hu; exact k.react_if h fun hc => k.startTimeout h hc.1
    | stopTimeout c => cases hu; exact k.react_if h fun hc => k.stopTimeout h hc.1
    | conductivitySample x v => cases hu; exact k.react_unless h fun _ => k.conductivity x v h
    | runSignal w b => exact k.runSignal h hu
    | flushEnd w => cases hu; exact k.react h (k.endFlush w)
    | dumpLimit w => cases hu; exact k.react h (k.dumpExpired w)
    | sourcePulse x => cases hu; exact k.react h (k.sourcePulse x)
    | probeCheckEnd x => cases hu; exact k.react_if h fun _ => k.endCheck x h
    | channelPulse c => cases hu; exact k.react h (k.channelPulse c)
    | noFlow c => cases hu; exact k.react h (k.flowLost c)
    | wakeLimit => cases hu; exact k.react h k.wakeLimitExpires
    | falseWake => cases hu; exact k.react h k.confirmExpires
    | supervisionExpiry => cases hu; exact k.react h k.supervisionExpires
    | powerLoss => cases hu; exact k.stopPart h _
    | _ => cases hr

theorem idle (k : KeptByCommands P) (h : P s) (hu : s.idle = .next u) : P u := by
  unfold State.idle at hu
  split at hu
  · split at hu
    · exact k.exec h hu
    · cases hu
      exact k.informs h (Informs.of_same rfl rfl rfl rfl rfl rfl)
  · cases hu
    exact h

/-- A law that every operation of a command keeps is kept by every step. -/
theorem step (k : KeptByCommands P) (h : P s) (hu : step s = .next u) : P u := by
  unfold Machine.step at hu
  split at hu
  · next c rest _ =>
    have taken : P { s with pending := rest } := k.informs h (Informs.of_same rfl rfl rfl rfl rfl rfl)
    exact k.exec taken hu
  · exact k.idle h hu

end State.KeptByCommands
end Sys2Proof.Machine
end

section
/-!
PROOF. What the movement rules of a valve leave of the record of each valve (R55 to R62), and how an operation can change a
record without opening the valve (`ValveRecord.Narrows`).
-/
namespace Sys2Proof.Machine

/-! ### Valves by their numbers -/

theorem Valve.ix_injective : Function.Injective Valve.ix := fun v w h =>
  Option.some.inj (by rw [← Valve.ofNumber_number v, ← Valve.ofNumber_number w, Valve.number, Valve.number, h])

theorem Valve.mem_all (v : Valve) : v ∈ Valve.all :=
  List.mem_filterMap.mpr ⟨v.ix.val, List.mem_range.mpr v.ix.isLt, Valve.ofNumber_number v⟩

theorem Valve.mem_owner_valves (v : Valve) : v ∈ v.owner.valves := by simp [Owner.valves, Valve.mem_all]

theorem Owner.owner_of_mem {o : Owner} {v : Valve} (h : v ∈ o.valves) : v.owner = o := by
  simpa using (List.mem_filter.mp h).2

/-- An update of a valve leaves every other valve. -/
theorem State.updValve_valve_other (s : State) {v w : Valve} (f : ValveRecord → ValveRecord) (h : w ≠ v) :
    (s.updValve v f).valve w = s.valve w :=
  s.updValve_valve_ne f fun e => h (Valve.ix_injective e)

/-! ### How a valve's record can change without the valve being opened -/

/-- A valve that is commanded to its B end and not in FAULT (R52). -/
def ValveRecord.isOpen (r : ValveRecord) : Prop := r.commanded = .b ∧ r.state ≠ .fault

theorem State.commandedOpen_iff (s : State) (v : Valve) : s.commandedOpen v = true ↔ (s.valve v).isOpen := by
  simp [State.commandedOpen, ValveRecord.isOpen]

/-- A record that an operation leaves obedient, and open only where it was open, then still under its host mark. -/
structure ValveRecord.Narrows (r q : ValveRecord) : Prop where
  obedient : r.obedient → q.obedient
  isOpen : r.obedient → q.isOpen → r.isOpen
  hostMark : r.obedient → q.isOpen → r.hostMark = true → q.hostMark = true

/-- A valve stands at an end or moves to it, and is commanded there. -/
structure ValveRecord.BoundFor (e : ValveEnd) (r : ValveRecord) : Prop where
  commanded : r.commanded = e
  state : r.state = e.atEnd ∨ r.state = e.moving

namespace ValveRecord

variable {r q p : ValveRecord} {e : ValveEnd}

theorem Narrows.refl (r : ValveRecord) : r.Narrows r := ⟨id, fun _ => id, fun _ _ => id⟩

theorem Narrows.trans (h : r.Narrows q) (k : q.Narrows p) : r.Narrows p :=
  ⟨fun hr => k.obedient (h.obedient hr), fun hr hp => h.isOpen hr (k.isOpen (h.obedient hr) hp), fun hr hp hm =>
    k.hostMark (h.obedient hr) hp (h.hostMark hr (k.isOpen (h.obedient hr) hp) hm)⟩

/-- A valve that is not open has not been opened. -/
theorem Narrows.of_closed (ho : r.obedient → q.obedient) (hq : ¬q.isOpen) : r.Narrows q :=
  ⟨ho, fun _ h => absurd h hq, fun _ h => absurd h hq⟩

/-- A change of neither the commanded end nor the state nor the host mark. -/
theorem Narrows.of_same (hc : q.commanded = r.commanded) (hs : q.state = r.state) (hm : q.hostMark = r.hostMark) :
    r.Narrows q := by
  refine ⟨?_, ?_, fun _ _ => by rw [hm]; exact id⟩
  · simp only [ValveRecord.obedient, hc, hs]
    exact id
  · simp only [ValveRecord.isOpen, hc, hs]
    exact fun _ => id

/-- A valve in FAULT is not open, and obeys no end. -/
theorem Narrows.of_fault (h : q.state = .fault) : r.Narrows q :=
  of_closed (fun _ => by simp [ValveRecord.obedient, h]) fun ho => ho.2 h

theorem BoundFor.obedient (h : r.BoundFor e) : r.obedient := by
  obtain ⟨hc, hs⟩ := h
  cases e <;> rcases hs with hs | hs <;> simp [ValveRecord.obedient, hs, hc, ValveEnd.atEnd, ValveEnd.moving]

theorem BoundFor.not_isOpen (h : r.BoundFor .a) : ¬r.isOpen := fun ho =>
  absurd (h.commanded.symm.trans ho.1) (by decide)

/-- A valve bound for its A end has not been opened. -/
theorem BoundFor.narrows (h : q.BoundFor .a) : r.Narrows q := Narrows.of_closed (fun _ => h.obedient) h.not_isOpen

/-- An obedient valve at an end or moving to it is commanded there. -/
theorem boundFor_of_state (h : r.obedient) (hs : r.state = e.atEnd ∨ r.state = e.moving) : r.BoundFor e := by
  refine ⟨?_, hs⟩
  cases e
  · exact h.1 hs
  · exact h.2 hs

end ValveRecord

/-! ### What a movement leaves of the valves -/

namespace State

variable (s : State)

@[simp] theorem tell_valve (ms : List Msg) (v : Valve) : (s.tell ms).valve v = s.valve v := rfl

theorem arrive_valve_self (v : Valve) (e : ValveEnd) :
    (s.arrive v e).valve v = { s.valve v with timer := none, state := e.atEnd, resetting := false } := by
  simp only [State.arrive]
  split <;> simp

theorem arrive_valve_other {v w : Valve} (e : ValveEnd) (h : w ≠ v) : (s.arrive v e).valve w = s.valve w := by
  simp only [State.arrive]
  split <;> simp [updValve_valve_other _ _ h]

theorem startMove_valve_other {v w : Valve} (e : ValveEnd) (h : w ≠ v) : (s.startMove v e).valve w = s.valve w := by
  simp only [State.startMove]
  split
  · rw [arrive_valve_other _ _ h, updValve_valve_other _ _ h]
  · exact s.updValve_valve_other _ h

/-- A movement binds the valve for its end, and leaves its host mark. -/
theorem startMove_boundFor (v : Valve) (e : ValveEnd) :
    ((s.startMove v e).valve v).BoundFor e ∧ ((s.startMove v e).valve v).hostMark = (s.valve v).hostMark := by
  simp only [State.startMove]
  split
  · rw [arrive_valve_self, updValve_valve_self]
    exact ⟨⟨rfl, .inl rfl⟩, rfl⟩
  · rw [updValve_valve_self]
    exact ⟨⟨rfl, .inr rfl⟩, rfl⟩

theorem drive_valve_other {v w : Valve} (e : ValveEnd) (h : w ≠ v) : (s.drive v e).valve w = s.valve w := by
  simp only [State.drive]
  split
  · rfl
  · exact s.startMove_valve_other e h

/-- The movement rules bind an obedient valve for the end, and leave its host mark. -/
theorem drive_boundFor {v : Valve} (e : ValveEnd) (h : (s.valve v).obedient) :
    ((s.drive v e).valve v).BoundFor e ∧ ((s.drive v e).valve v).hostMark = (s.valve v).hostMark := by
  simp only [State.drive]
  split
  · exact ⟨ValveRecord.boundFor_of_state h ‹_›, rfl⟩
  · exact s.startMove_boundFor v e

theorem returnValve_valve_other {v w : Valve} (h : w ≠ v) : (s.returnValve v).valve w = s.valve w := by
  simp only [State.returnValve]
  split
  · split
    · exact s.updValve_valve_other _ h
    · rw [drive_valve_other _ _ h, updValve_valve_other _ _ h]
  · rfl

/-- A return narrows its valve (R62). -/
theorem returnValve_narrows_self (v : Valve) : (s.valve v).Narrows ((s.returnValve v).valve v) := by
  simp only [State.returnValve]
  split
  · split
    · next hf =>
      rw [updValve_valve_self]
      exact .of_fault hf
    · have bound (h : (s.valve v).obedient) :
          (((s.updValve v fun r => { r with hostMark := false, driver := .return }).drive v .a).valve v).BoundFor .a :=
        (drive_boundFor _ .a (by rw [updValve_valve_self]; exact h)).1
      exact ⟨fun h => (bound h).obedient, fun h ho => absurd ho (bound h).not_isOpen, fun h ho =>
        absurd ho (bound h).not_isOpen⟩
  · exact .refl _

/-- A return leaves no host mark on its valve (R62). -/
theorem returnValve_hostMark_self (v : Valve) : ((s.returnValve v).valve v).hostMark = false := by
  have driven (x : State) : ((x.drive v .a).valve v).hostMark = (x.valve v).hostMark := by
    unfold State.drive
    dsimp only
    split
    · rfl
    · exact (x.startMove_boundFor v .a).2
  simp only [State.returnValve]
  split
  · split
    · rw [updValve_valve_self]
    · rw [driven, updValve_valve_self]
  · next hm => exact Bool.eq_false_iff.mpr hm

theorem returnValve_narrows (v w : Valve) : (s.valve w).Narrows ((s.returnValve v).valve w) := by
  by_cases h : w = v
  · subst h
    exact s.returnValve_narrows_self w
  · rw [returnValve_valve_other _ h]
    exact .refl _

theorem returnValve_hostMark {v w : Valve} (h : (s.valve w).hostMark = false) :
    ((s.returnValve v).valve w).hostMark = false := by
  by_cases e : w = v
  · subst e
    exact s.returnValve_hostMark_self w
  · rw [returnValve_valve_other _ e]
    exact h

theorem foldl_returnValve_narrows (l : List Valve) (w : Valve) :
    (s.valve w).Narrows ((l.foldl State.returnValve s).valve w) := by
  induction l generalizing s with
  | nil => exact .refl _
  | cons v l ih => exact (s.returnValve_narrows v w).trans (ih _)

/-- Every valve that is returned has lost its host mark (R62). -/
theorem foldl_returnValve_hostMark (l : List Valve) {w : Valve} (h : w ∈ l ∨ (s.valve w).hostMark = false) :
    ((l.foldl State.returnValve s).valve w).hostMark = false := by
  induction l generalizing s with
  | nil => simpa using h
  | cons v l ih =>
    refine ih _ ?_
    rcases h with h | h
    · rcases List.mem_cons.mp h with rfl | h
      · exact .inr (s.returnValve_hostMark_self w)
      · exact .inl h
    · exact .inr (s.returnValve_hostMark h)

/-! ### An owner's command (R55, R62) -/

/-- The other valves of the owner are returned before an owner's command. -/
def returnOthers (v : Valve) (s : State) : State := (v.owner.valves.filter (· ≠ v)).foldl State.returnValve s

theorem returnOthers_valve_self (v : Valve) : (s.returnOthers v).valve v = s.valve v := by
  have keep (l : List Valve) (h : v ∉ l) (x : State) : (l.foldl State.returnValve x).valve v = x.valve v := by
    induction l generalizing x with
    | nil => rfl
    | cons w l ih =>
      have hw : v ≠ w ∧ v ∉ l := by simpa using h
      exact (ih hw.2 _).trans (x.returnValve_valve_other hw.1)
  exact keep _ (by simp) s

/-- A command first returns the owner's other valves, and sets mark and demand. -/
def demanded (v : Valve) (e : ValveEnd) (s : State) : State :=
  (s.returnOthers v).updValve v fun r => { r with hostMark := false, demand := e }

/-- The owner drives a valve, and a reset of it ends. -/
def ownerDriven (v : Valve) (s : State) : State := s.updValve v fun r => { r with driver := .owner, resetting := false }

/-- A command by the state of the valve (R55): a FAULT answered, the end answered where it is there, the movement rules else. -/
theorem command_eq (v : Valve) (e : ValveEnd) : s.command v e =
    if ((s.demanded v e).valve v).state = .fault then
      (s.demanded v e).emit (.valve v (.failed (((s.demanded v e).valve v).reason.getD .travelTimeout)))
    else if ((s.demanded v e).valve v).state = e.atEnd then ((s.demanded v e).ownerDriven v).emit (.valve v e.answer)
    else ((s.demanded v e).ownerDriven v).drive v e := rfl

theorem demanded_valve_self (v : Valve) (e : ValveEnd) :
    (s.demanded v e).valve v = { s.valve v with hostMark := false, demand := e } := by
  rw [demanded, updValve_valve_self, returnOthers_valve_self]

/-- A command touches the commanded valve alone beside those it returns. -/
theorem command_valve_other {v w : Valve} (e : ValveEnd) (h : w ≠ v) :
    (s.command v e).valve w = (s.returnOthers v).valve w := by
  have hd : (s.demanded v e).valve w = (s.returnOthers v).valve w := updValve_valve_other _ _ h
  have ho : ((s.demanded v e).ownerDriven v).valve w = (s.returnOthers v).valve w := (updValve_valve_other _ _ h).trans hd
  rw [command_eq]
  split
  · exact hd
  · split
    · exact ho
    · rw [drive_valve_other _ _ h, ho]

/-- A command to an obedient valve that is not in FAULT binds it for the end; a valve in FAULT stays there. No host mark is left. -/
theorem command_valve_self {v : Valve} (e : ValveEnd) (h : (s.valve v).obedient) :
    (((s.command v e).valve v).state = .fault ∨ ((s.command v e).valve v).BoundFor e) ∧
      ((s.command v e).valve v).hostMark = false := by
  have ho : ((s.demanded v e).ownerDriven v).valve v =
      { s.valve v with hostMark := false, demand := e, driver := .owner, resetting := false } := by
    rw [ownerDriven, updValve_valve_self, demanded_valve_self]
  rw [command_eq, demanded_valve_self]
  split
  · next hf =>
    rw [emit_valve, demanded_valve_self]
    exact ⟨.inl hf, rfl⟩
  · split
    · next he =>
      rw [emit_valve, ho]
      exact ⟨.inr ⟨(ValveRecord.boundFor_of_state h (.inl he)).commanded, .inl he⟩, rfl⟩
    · obtain ⟨hb, hm⟩ := drive_boundFor ((s.demanded v e).ownerDriven v) (v := v) e (by rw [ho]; exact h)
      exact ⟨.inr hb, hm.trans (by rw [ho])⟩

/-- The other valves of the owner are narrowed by a command, and keep no host mark. -/
theorem command_narrows_other {v w : Valve} (e : ValveEnd) (h : w ≠ v) :
    (s.valve w).Narrows ((s.command v e).valve w) ∧
      (w.owner = v.owner → ((s.command v e).valve w).hostMark = false) := by
  rw [command_valve_other _ _ h]
  refine ⟨s.foldl_returnValve_narrows _ w, fun ho => s.foldl_returnValve_hostMark _ (.inl ?_)⟩
  simpa [h] using ho ▸ Valve.mem_owner_valves w

/-- A command to the A end narrows every valve. -/
theorem command_a_narrows (v w : Valve) : (s.valve w).Narrows ((s.command v .a).valve w) := by
  by_cases h : w = v
  · subst h
    refine ⟨fun ho => ?_, fun ho hq => ?_, fun ho hq => ?_⟩ <;> rcases (s.command_valve_self .a ho).1 with hf | hb
    · exact (ValveRecord.Narrows.of_fault hf).obedient ho
    · exact hb.obedient
    · exact absurd hf hq.2
    · exact absurd hq hb.not_isOpen
    · exact absurd hf hq.2
    · exact absurd hq hb.not_isOpen
  · exact (s.command_narrows_other .a h).1

end State
end Sys2Proof.Machine
end

section
/-!
PROOF. What holds of a state after every operation of the Transfer Engine where each update and each command that the engine is
made of keeps it (`State.ClosedUnderTransfer`), and the same of the Supply Selector (`State.ClosedUnderSupply`). A law is
carried through these two blocks by looking at the updates alone.
-/
namespace Sys2Proof.Machine

/-! ### The Transfer Engine -/

/-- A predicate that the updates of the Transfer Engine keep: its own records, claims and entries, reports, the commands that close
any valve or open a valve of a channel, and the pumps' commands. -/
structure State.ClosedUnderTransfer (P : State → Prop) : Prop where
  setTransfer : ∀ {s : State} (e : TransferEngine), P s → P { s with te := e }
  report : ∀ {s : State} (k : ReportKind) (x y z : Nat), P s → P (s.report k x y z)
  claim : ∀ {s : State} (t : TankIx) (c : Option Channel), P s → P (s.updTank t fun r => { r with claim := c })
  entryEnd : ∀ {s : State} (t : TankIx) (e : Entrant), P s → P (s.entryEnd t e)
  entryNotice : ∀ {s : State} (t : TankIx) (c : Channel) (w : QClass), P s → P (s.entryNotice t c.entrant w).2
  close : ∀ {s : State} (v : Valve), P s → P (s.command v .a)
  openOwn : ∀ {s : State} {c : Channel} {v : Valve}, v.owner = c.owner → P s → P (s.command v .b)
  pumpStart : ∀ {s : State} (c : Channel), P s → P (s.pumpStart c)
  pumpStop : ∀ {s : State} (c : Channel), P s → P (s.pumpStop c)

namespace State.ClosedUnderTransfer

variable {P : State → Prop} {s : State}

/-- Operations one after another, each of which keeps the predicate. -/
theorem foldl {α : Type} {f : State → α → State} (hf : ∀ x a, P x → P (f x a)) (l : List α) (h : P s) :
    P (l.foldl f s) := by
  induction l generalizing s with
  | nil => exact h
  | cons a l ih => exact ih (hf _ _ h)

theorem updChan (k : ClosedUnderTransfer P) (c : Channel) (f : ChannelRecord → ChannelRecord) (h : P s) :
    P (s.updChan c f) := by
  cases c <;> exact k.setTransfer _ h

theorem updOrder (k : ClosedUnderTransfer P) (id : Nat) (f : Order → Order) (h : P s) : P (s.updOrder id f) :=
  k.setTransfer _ h

theorem updLeg (k : ClosedUnderTransfer P) (id i : Nat) (f : Leg → Leg) (h : P s) : P (s.updLeg id i f) :=
  k.setTransfer _ h

theorem reportOrder (k : ClosedUnderTransfer P) (id : Nat) (h : P s) : P (s.reportOrder id) := by
  simp only [State.reportOrder]
  split
  · exact k.report _ _ _ _ h
  · exact h

theorem enterOrder (k : ClosedUnderTransfer P) (id : Nat) (st : OrderState) (f : Order → Order) (h : P s) :
    P (s.enterOrder id st f) := by
  refine k.reportOrder _ ?_
  split
  · exact k.updOrder _ _ h
  · exact k.setTransfer _ (k.updOrder _ _ h)

theorem endLeg (k : ClosedUnderTransfer P) (id i : Nat) (r : LegResult) (h : P s) : P (s.endLeg id i r) :=
  k.report _ _ _ _ (k.updLeg _ _ _ h)

theorem takeLegEnd (k : ClosedUnderTransfer P) (id i : Nat) (r : LegResult) (h : P s) : P (s.takeLegEnd id i r) := by
  simp only [State.takeLegEnd]
  split
  · exact k.endLeg _ _ _ h
  · exact k.enterOrder _ _ _ (k.endLeg _ _ _ h)

theorem takeReturn (k : ClosedUnderTransfer P) (id i : Nat) (c : ReturnCause) (h : P s) : P (s.takeReturn id i c) := by
  simp only [State.takeReturn]
  split
  · exact h
  · split
    · exact k.enterOrder _ _ _ (k.endLeg _ _ _ h)
    · split
      · exact k.enterOrder _ _ _ h
      · exact k.enterOrder _ _ _ h
      · exact k.setTransfer _ (k.enterOrder _ _ _ h)

theorem setChannel (k : ClosedUnderTransfer P) (c : Channel) (st : ChannelState) (h : P s) : P (s.setChannel c st) :=
  k.report _ _ _ _ (k.updChan _ _ h)

theorem closeRun (k : ClosedUnderTransfer P) (c : Channel) (cause : StopCause) (h : P s) : P (s.closeRun c cause) := by
  have stored : P (State.storeOutcome (s.chan c).order cause s) := by
    unfold State.storeOutcome
    split
    · exact k.takeLegEnd _ _ _ h
    · exact k.takeReturn _ _ _ h
    · exact h
  have released : P ((State.storeOutcome (s.chan c).order cause s).releaseClaims c) :=
    foldl (fun _ _ hx => k.claim _ _ hx) _ stored
  exact k.setChannel _ _ (k.updChan _ _ released)

/-! ### Stopping a run -/

theorem closeValves (k : ClosedUnderTransfer P) (c : Channel) (h : P s) : P (s.closeValves c) :=
  foldl (fun _ _ hx => k.close _ hx) _ h

theorem endRunEntry (k : ClosedUnderTransfer P) (made : Bool) (c : Channel) (dest : Option TankIx) (h : P s) :
    P (s.endRunEntry made c dest) := by
  unfold State.endRunEntry
  split
  · exact k.updChan _ _ (foldl (fun _ _ hx => k.entryEnd _ _ hx) _ h)
  · exact h

theorem stopPumpOrClose (k : ClosedUnderTransfer P) (told : PumpState) (c : Channel) (h : P s) :
    P (s.stopPumpOrClose told c) := by
  unfold State.stopPumpOrClose
  split
  · exact k.pumpStop _ (k.updChan _ _ h)
  · exact k.pumpStop _ (k.updChan _ _ h)
  · exact h
  · exact k.closeValves _ h
  · exact k.closeValves _ h

theorem stopRun (k : ClosedUnderTransfer P) (c : Channel) (cause : StopCause) (h : P s) : P (s.stopRun c cause) := by
  rw [State.stopRun_eq]
  exact k.stopPumpOrClose _ _ (k.endRunEntry _ _ _ (k.updChan _ _ h))

theorem evaluate (k : ClosedUnderTransfer P) (c : Channel) (e : Evaluation) (h : P s) : P (s.evaluate c e) := by
  simp only [State.evaluate]
  split
  · split
    · split
      · exact k.stopRun _ _ h
      · exact h
    · exact h
  · exact h

/-! ### The arbiter -/

theorem suction_owner (c : Channel) (t : TankIx) : (c.suction t).owner = c.owner := by cases c <;> rfl

theorem delivery_owner (c : Channel) (d : Dest) : (c.delivery d).owner = c.owner := by cases c <;> cases d <;> rfl

theorem beginRun (k : ClosedUnderTransfer P) (c : Channel) (id i : Nat) (l : Leg) (h : P s) : P (s.beginRun c id i l) :=
  k.evaluate _ _ (k.openOwn (delivery_owner c _) (k.openOwn (suction_owner c _) (k.updChan _ _ (k.updLeg _ _ _ h))))

theorem weigh (k : ClosedUnderTransfer P) (c : Channel) (os : List Order) (h : P s) : P (State.weigh c os s).1 := by
  induction os generalizing s with
  | nil => exact h
  | cons o os ih =>
    simp only [State.weigh]
    split
    · exact ih h
    · split
      · exact ih (k.setTransfer _ h)
      · split
        · exact ih (k.setTransfer _ h)
        · exact k.setTransfer _ h

theorem give (k : ClosedUnderTransfer P) (c : Channel) (o : Order) (l : Leg) (h : P s) : P (s.give c o l) := by
  have claimed {y : State} (ts : List TankIx) (hy : P y) :
      P (ts.foldl (fun (s : State) t => s.updTank t fun r => { r with claim := some c }) y) :=
    foldl (fun _ _ hx => k.claim _ _ hx) _ hy
  have given := k.updChan c (fun r => { r with claims := l.tanks }) (k.setChannel c .busy (k.updChan c
    (fun r => { r with order := some (o.id, o.current) }) (k.enterOrder o.id .active (fun o => { o with channel := some c }) h)))
  simp only [State.give]
  split
  · exact k.closeRun _ _ (claimed _ given)
  · exact k.beginRun _ _ _ _ (claimed _ given)

theorem tryGive (k : ClosedUnderTransfer P) (c : Channel) (h : P s) : P (s.tryGive c).1 := by
  have weighed := k.weigh c s.waiting h
  simp only [State.tryGive]
  split
  · split <;> rename_i hw <;> rw [hw] at weighed
    · exact k.give _ _ _ weighed
    · exact weighed
  · exact h

theorem passes (k : ClosedUnderTransfer P) (n : Nat) (h : P s) : P (State.passes n s) := by
  induction n generalizing s with
  | zero => exact h
  | succ n ih =>
    simp only [State.passes]
    split
    · exact ih (k.tryGive _ (k.tryGive _ h))
    · exact k.tryGive _ (k.tryGive _ h)

theorem arbitrate (k : ClosedUnderTransfer P) (h : P s) : P s.arbitrate := by
  simp only [State.arbitrate]
  split
  · exact k.passes _ (k.setTransfer _ h)
  · exact k.setTransfer _ h

theorem closeIfOver (k : ClosedUnderTransfer P) (c : Channel) (h : P s) : P (s.closeIfOver c).1 := by
  simp only [State.closeIfOver]
  split
  · exact k.closeRun _ _ h
  · exact h

theorem settle (k : ClosedUnderTransfer P) (h : P s) : P s.settle := by
  simp only [State.settle]
  split
  · exact k.arbitrate (k.closeIfOver _ (k.closeIfOver _ h))
  · exact k.closeIfOver _ (k.closeIfOver _ h)

/-! ### Answers of the Actuator Unit -/

theorem channelValve (k : ClosedUnderTransfer P) (c : Channel) (v : Valve) (a : ValveAnswer) (h : P s) :
    P (s.channelValve c v a) := by
  simp only [State.channelValve]
  split
  · split
    · split
      · split
        · exact k.evaluate _ _ (k.pumpStart _ (k.updChan _ _ (k.updChan _ _ h)))
        · exact k.updChan _ _ h
      · exact h
    · exact k.updChan _ _ h
    · split
      · exact k.stopRun _ _ (k.updChan _ _ h)
      · exact k.updChan _ _ (k.updChan _ _ h)
    · exact h
  · exact h

theorem enterPumping (k : ClosedUnderTransfer P) (c : Channel) (h : P s) : P (s.enterPumping c) := by
  have entered := k.updChan c (fun r =>
    { r with phase := some .pumping, noFlow := some (after s.clock ((r.runNoFlow.getD r.noFlowTime) * 10)) }) h
  simp only [State.enterPumping]
  split
  · exact entered
  · split
    · exact k.evaluate _ _ entered
    · refine k.evaluate _ _ ?_
      split
      · exact k.entryNotice _ _ _ entered
      · exact k.updChan _ _ (k.entryNotice _ _ _ entered)

theorem failChannel (k : ClosedUnderTransfer P) (st : ChannelState) (c : Channel) (h : P s) : P (s.failChannel st c) := by
  unfold State.failChannel
  split
  · exact k.setChannel _ _ h
  · exact k.setChannel _ _ h
  · exact h

theorem channelPumpFault (k : ClosedUnderTransfer P) (c : Channel) (h : P s) : P (s.channelPumpFault c) := by
  have failed : P (State.failChannel (s.chan c).state c
      (s.updChan c fun r => { r with pumpTold := .fault, outReason := some .pumpFault })) :=
    k.failChannel _ _ (k.updChan _ _ h)
  unfold State.channelPumpFault
  dsimp only
  split
  · exact k.stopRun _ _ failed
  · split
    · split
      · exact k.updChan _ _ failed
      · exact k.closeValves _ (k.updChan _ _ failed)
    · exact failed

theorem channelPump (k : ClosedUnderTransfer P) (c : Channel) (a : PumpAnswer) (h : P s) : P (s.channelPump c a) := by
  simp only [State.channelPump]
  split
  · split
    · exact k.enterPumping _ (k.updChan _ _ h)
    · exact k.updChan _ _ h
  · split
    · exact k.closeValves _ (k.updChan _ _ h)
    · exact k.updChan _ _ h
  · exact k.channelPumpFault _ h
  · exact k.channelPumpFault _ h

/-! ### Notices -/

theorem evaluateTank (k : ClosedUnderTransfer P) (t : TankIx) (e : Evaluation) (c : Channel) (h : P s) :
    P (s.evaluateTank t e c) := by
  simp only [State.evaluateTank]
  split
  · exact k.evaluate _ _ h
  · exact h

theorem transferTank (k : ClosedUnderTransfer P) (t : TankIx) (e : Evaluation) (h : P s) : P (s.transferTank t e) :=
  k.arbitrate (k.settle (k.evaluateTank _ _ _ (k.evaluateTank _ _ _ h)))

theorem transferConflict (k : ClosedUnderTransfer P) (c : Channel) (h : P s) : P (s.transferConflict c) :=
  k.settle (k.evaluate _ _ h)

theorem transferMoment (k : ClosedUnderTransfer P) (h : P s) : P s.transferMoment := by
  have settled : P (s.evaluateBoth fun _ => { guard := true }).settle := k.settle (k.evaluate _ _ (k.evaluate _ _ h))
  simp only [State.transferMoment]
  split
  · exact k.arbitrate settled
  · exact settled

theorem channelMode (k : ClosedUnderTransfer P) (new : Mode) (c : Channel) (h : P s) : P (s.channelMode new c) := by
  simp only [State.channelMode]
  split
  · split
    · exact k.stopRun _ _ h
    · exact k.updChan _ _ h
  · split
    · exact k.stopRun _ _ h
    · exact h
  · exact h

theorem transferMode (k : ClosedUnderTransfer P) (new : Mode) (h : P s) : P (s.transferMode new) := by
  have settled := k.settle (k.channelMode new .tc2 (k.channelMode new .tc1 h))
  simp only [State.transferMode]
  split
  · exact k.arbitrate settled
  · exact settled

/-! ### Flow -/

theorem channelPulse (k : ClosedUnderTransfer P) (c : Channel) (h : P s) : P (s.channelPulse c) := by
  simp only [State.channelPulse]
  split
  · refine k.settle (k.evaluate _ _ ?_)
    split
    · exact k.updLeg _ _ _ (k.updChan _ _ (k.updChan _ _ h))
    · exact k.updChan _ _ (k.updChan _ _ h)
  · exact k.updChan _ _ h

theorem flowLost (k : ClosedUnderTransfer P) (c : Channel) (h : P s) : P (s.flowLost c) := by
  simp only [State.flowLost]
  split
  · exact k.settle (k.stopRun _ _ h)
  · exact h

/-! ### Requests -/

theorem submit (k : ClosedUnderTransfer P) (id priority : Nat) (policy : Policy) (legs : List Leg) (h : P s) :
    P (s.submit id priority policy legs) := by
  have roomy : P s.renumber := by
    unfold State.renumber
    split
    · exact h
    · exact k.setTransfer _ h
  exact k.arbitrate (k.reportOrder _ (k.setTransfer _ roomy))

theorem cancel (k : ClosedUnderTransfer P) (id : Nat) (h : P s) : P (s.cancel id) := by
  have cancelWaiting (o : Order) : P ((if o.leg.any (fun l => 0 < l.runs) = true then
      s.endLeg id o.current .cancelled else s).enterOrder id .cancelled fun o => { o with heldByFallback := false }) := by
    refine k.enterOrder _ _ _ ?_
    split
    · exact k.endLeg _ _ _ h
    · exact h
  simp only [State.cancel]
  split
  · exact h
  · split
    · exact cancelWaiting _
    · exact cancelWaiting _
    · split
      · exact h
      · split
        · split
          · exact k.stopRun _ _ (k.updOrder _ _ h)
          · exact k.updOrder _ _ h
        · exact k.updOrder _ _ h
    · exact h

theorem resume (k : ClosedUnderTransfer P) (id : Nat) (h : P s) : P (s.resume id) := k.arbitrate (k.enterOrder _ _ _ h)

theorem takeOut (k : ClosedUnderTransfer P) (c : Channel) (h : P s) : P (s.takeOut c) := by
  simp only [State.takeOut]
  split
  · exact k.setChannel _ _ (k.updChan _ _ h)
  · split
    · exact k.settle (k.stopRun _ _ (k.setChannel _ _ (k.updChan _ _ h)))
    · exact k.setChannel _ _ (k.updChan _ _ h)
  · exact h

theorem takeIn (k : ClosedUnderTransfer P) (c : Channel) (h : P s) : P (s.takeIn c) := by
  simp only [State.takeIn]
  split
  · exact k.arbitrate (k.setChannel _ _ (k.updChan _ _ h))
  · exact h

end State.ClosedUnderTransfer

/-! ### The Supply Selector -/

/-- A predicate that the updates of the Supply Selector keep: its own record, reports, and the commands to supply valves. -/
structure State.ClosedUnderSupply (P : State → Prop) : Prop where
  updSupply : ∀ {s : State} (f : SupplySelector → SupplySelector), P s → P (s.updSupply f)
  report : ∀ {s : State} (k : ReportKind) (x y z : Nat), P s → P (s.report k x y z)
  command : ∀ {s : State} (t : TankIx) (e : ValveEnd), P s → P (s.command (.tank t .supply) e)

namespace State.ClosedUnderSupply

variable {P : State → Prop} {s : State}

theorem reportSupply (k : ClosedUnderSupply P) (old : SupplySelector) (h : P s) : P (s.reportSupply old) := by
  simp only [State.reportSupply]
  split
  · exact h
  · exact k.report _ _ _ _ h

theorem closeSupply (k : ClosedUnderSupply P) (t : TankIx) (h : P s) : P (s.closeSupply t) := by
  simp only [State.closeSupply]
  split
  · exact h
  · exact k.command _ _ h

theorem switchTo (k : ClosedUnderSupply P) (t : TankIx) (h : P s) : P (s.switchTo t) := k.command _ _ (k.updSupply _ h)

theorem changeTo (k : ClosedUnderSupply P) (t : TankIx) (c : SoftReason) (h : P s) : P (s.changeTo t c) :=
  k.command _ _ (k.updSupply _ h)

theorem findSupply (k : ClosedUnderSupply P) (h : P s) : P s.findSupply := by
  simp only [State.findSupply]
  split
  · exact k.switchTo _ h
  · exact h

theorem giveUpSwitch (k : ClosedUnderSupply P) (t : TankIx) (h : P s) : P (s.giveUpSwitch t) := by
  have given := k.updSupply (fun x => { x with next := none }) (k.closeSupply t h)
  simp only [State.giveUpSwitch]
  split
  · exact k.switchTo _ given
  · exact k.updSupply _ given

theorem giveUpChange (k : ClosedUnderSupply P) (cur t : TankIx) (h : P s) : P (s.giveUpChange cur t) := by
  have given := k.updSupply (fun x => { x with next := none }) (k.closeSupply t h)
  simp only [State.giveUpChange]
  split
  · exact k.command _ _ (k.updSupply _ given)
  · exact k.updSupply _ given

theorem breakSupply (k : ClosedUnderSupply P) (t : TankIx) (r : SupplyReason) (h : P s) : P (s.breakSupply t r) := by
  have broken := k.updSupply (fun x => { x with current := none, last := some r }) (k.closeSupply t h)
  simp only [State.breakSupply]
  split
  · exact k.switchTo _ broken
  · exact k.updSupply _ broken

theorem examineCore (k : ClosedUnderSupply P) (o : Option TankIx) (h : P s) : P (s.examineCore o) := by
  simp only [State.examineCore]
  split
  case h_1 => exact k.findSupply h
  case h_2 => exact k.findSupply h
  case h_3 =>
    split
    · exact k.giveUpSwitch _ h
    · split
      · exact k.updSupply _ h
      · exact h
  case h_4 =>
    split
    · exact k.breakSupply _ _ h
    · split
      · split
        · exact k.changeTo _ _ h
        · exact k.updSupply _ h
      · exact h
  case h_5 =>
    split
    · exact k.breakSupply _ _ h
    · split
      · exact k.updSupply _ h
      · split
        · exact k.changeTo _ _ h
        · exact h
  case h_6 =>
    split
    · exact k.updSupply _ (k.closeSupply _ h)
    · split
      · exact k.updSupply _ (k.closeSupply _ h)
      · split
        · exact k.giveUpChange _ _ h
        · exact h
  case h_7 => exact h

theorem examine (k : ClosedUnderSupply P) (o : Option TankIx) (h : P s) : P (s.examine o) := by
  simp only [State.examine]
  split
  · exact h
  · exact k.reportSupply _ (k.examineCore _ h)

theorem supplyValve (k : ClosedUnderSupply P) (v : Valve) (a : ValveAnswer) (h : P s) : P (s.supplyValve v a) := by
  simp only [State.supplyValve]
  split <;> exact k.examine _ h

theorem actOnDuty (k : ClosedUnderSupply P) (h : P s) : P s.actOnDuty := by
  have away (t : TankIx) : P (if s.ss.duty.contains t && s.eligible t then s
      else match s.firstEligible [t] with
        | some u => s.changeTo u .duty
        | none => s) := by
    split
    · exact h
    · split
      · exact k.changeTo _ _ h
      · exact h
  unfold State.actOnDuty
  dsimp only
  split
  · exact away _
  · exact away _
  · split
    · exact h
    · exact k.giveUpChange _ _ h
  · split
    · exact h
    · exact k.giveUpSwitch _ h
  · exact k.findSupply h
  · exact k.findSupply h
  · exact h

theorem setDuty (k : ClosedUnderSupply P) (l : List TankIx) (h : P s) : P (s.setDuty l) :=
  k.reportSupply _ (k.actOnDuty (k.updSupply _ h))

theorem advance (k : ClosedUnderSupply P) (t : TankIx) (h : P s) : P (s.advance t) := k.reportSupply _ (k.changeTo _ _ h)

end State.ClosedUnderSupply
end Sys2Proof.Machine
end

section
/-!
PROOF. Which operations open no valve of an owner (`State.Spares`): those of the Actuator Unit, the host's command apart, and
those of the other owners. They leave the Intake Router's records and the plant mode, and every notice in flight.
-/
namespace Sys2Proof.Machine

/-- The router's records and the mode record stay as they are, and so do the notices in flight, to which some may be added. -/
structure State.Aside (s u : State) : Prop where
  ir : u.ir = s.ir
  pmc : u.pmc = s.pmc
  msgs : s.msgs <+: u.msgs

/-- Beside that, no valve of an owner is opened. -/
structure State.Spares (o : Owner) (s u : State) : Prop extends s.Aside u where
  narrows : ∀ v : Valve, v.owner = o → (s.valve v).Narrows (u.valve v)

namespace State.Aside

variable {b s u : State}

theorem refl (s : State) : s.Aside s := ⟨rfl, rfl, List.prefix_refl _⟩

theorem trans (h : b.Aside s) (k : s.Aside u) : b.Aside u :=
  ⟨k.ir.trans h.ir, k.pmc.trans h.pmc, h.msgs.trans k.msgs⟩

/-- An operation of the Actuator Unit touches neither the router nor the mode. -/
theorem of_actuators (h : u.beyondActuators = s.beyondActuators) (g : s.Grows u) : s.Aside u := by
  obtain ⟨l, hl, -⟩ := g.msgs
  exact ⟨show u.beyondActuators.ir = s.beyondActuators.ir by rw [h], show u.beyondActuators.pmc = s.beyondActuators.pmc by rw [h],
    l, hl.symm⟩

theorem of_informs (h : s.Informs u) : s.Aside u := ⟨h.ir, h.pmc, h.msgs⟩

theorem of_updValve (v : Valve) (f : ValveRecord → ValveRecord) : s.Aside (s.updValve v f) := ⟨rfl, rfl, List.prefix_refl _⟩

theorem of_setPump (c : Channel) (p : PumpRecord) : s.Aside (s.setPump c p) := by
  cases c <;> exact ⟨rfl, rfl, List.prefix_refl _⟩

theorem of_emit (m : Msg) : s.Aside (s.emit m) := ⟨rfl, rfl, List.prefix_append _ _⟩

theorem of_tell (ms : List Msg) : s.Aside (s.tell ms) := ⟨rfl, rfl, List.prefix_append _ _⟩

theorem of_arrive (v : Valve) (e : ValveEnd) : s.Aside (s.arrive v e) := by
  simp only [State.arrive]
  split
  · exact (of_updValve _ _).trans (of_emit _)
  · exact (of_updValve _ _).trans (of_tell _)
  · exact of_updValve _ _

theorem of_startMove (v : Valve) (e : ValveEnd) : s.Aside (s.startMove v e) := by
  simp only [State.startMove]
  split
  · exact (of_updValve _ _).trans (of_arrive _ _)
  · exact of_updValve _ _

theorem of_drive (v : Valve) (e : ValveEnd) : s.Aside (s.drive v e) := by
  simp only [State.drive]
  split
  · exact refl s
  · exact of_startMove _ _

theorem of_hostCommand (v : Valve) (e : ValveEnd) : s.Aside (s.hostCommand v e) := (of_updValve _ _).trans (of_drive _ _)

end State.Aside

namespace State.Spares

variable {o : Owner} {b s u : State}

theorem refl (s : State) : s.Spares o s := ⟨.refl s, fun _ _ => .refl _⟩

theorem trans (h : b.Spares o s) (k : s.Spares o u) : b.Spares o u :=
  ⟨h.toAside.trans k.toAside, fun v hv => (h.narrows v hv).trans (k.narrows v hv)⟩

/-- An operation that leaves the valves. -/
theorem of_au (h : s.Aside u) (hau : ∀ v, u.valve v = s.valve v) : s.Spares o u := ⟨h, fun v _ => by rw [hau]; exact .refl _⟩

theorem foldl {α : Type} {f : State → α → State} (hf : ∀ x a, b.Spares o x → b.Spares o (f x a)) (l : List α)
    (h : b.Spares o s) : b.Spares o (l.foldl f s) := by
  induction l generalizing s with
  | nil => exact h
  | cons a l ih => exact ih (hf _ _ h)

theorem informs (h : b.Spares o s) (k : s.Informs u) : b.Spares o u :=
  h.trans (of_au (.of_informs k) fun v => by rw [State.valve, k.au]; rfl)

theorem emit (h : b.Spares o s) (m : Msg) : b.Spares o (s.emit m) := h.informs ((Informs.refl s).emit m)

theorem tell (h : b.Spares o s) (ms : List Msg) : b.Spares o (s.tell ms) := h.informs ((Informs.refl s).tell ms)

theorem report (h : b.Spares o s) (k : ReportKind) (x y z : Nat) : b.Spares o (s.report k x y z) :=
  h.informs ((Informs.refl s).report k x y z)

theorem updTank (h : b.Spares o s) (t : TankIx) (f : TankRecord → TankRecord) : b.Spares o (s.updTank t f) :=
  h.informs ((Informs.refl s).updTank t f)

theorem tellTank (h : b.Spares o s) (t : TankIx) (d : Bool) (c : ClassCause) (r : TankRecord) :
    b.Spares o (s.tellTank t d c r) :=
  h.informs ((Informs.refl s).tellTank t d c r)

theorem entryEnd (h : b.Spares o s) (t : TankIx) (e : Entrant) : b.Spares o (s.entryEnd t e) := h.updTank _ _

theorem entryNotice (h : b.Spares o s) (t : TankIx) (e : Entrant) (c : QClass) : b.Spares o (s.entryNotice t e c).2 := by
  simp only [State.entryNotice]
  split
  · exact h
  · split
    · split
      · exact (h.updTank _ _).tellTank _ _ _ _
      · exact ((h.updTank _ _).report _ _ _ _).tellTank _ _ _ _
    · split
      · dsimp only
        exact h.updTank _ _
      · exact h

/-! ### Valves -/

/-- A change of one valve's record that narrows it. -/
theorem updValve (h : b.Spares o s) (v : Valve) (f : ValveRecord → ValveRecord)
    (hf : v.owner = o → (s.valve v).Narrows (f (s.valve v))) : b.Spares o (s.updValve v f) := by
  refine h.trans ⟨.of_updValve v f, fun w hw => ?_⟩
  by_cases e : w = v
  · subst e
    rw [updValve_valve_self]
    exact hf hw
  · rw [updValve_valve_other _ _ e]
    exact .refl _

/-- An operation on one valve that touches no other one, and narrows it where it is of the owner. -/
theorem of_one {v : Valve} (h : s.Aside u) (hw : ∀ w, w ≠ v → u.valve w = s.valve w)
    (hv : v.owner = o → (s.valve v).Narrows (u.valve v)) : s.Spares o u := by
  refine ⟨h, fun w ho => ?_⟩
  by_cases e : w = v
  · subst e
    exact hv ho
  · rw [hw w e]
    exact .refl _

/-- A valve in FAULT or elsewhere that starts to move to the A end is not opened. -/
theorem startMove_a (h : b.Spares o s) (v : Valve) : b.Spares o (s.startMove v .a) :=
  h.trans (of_one (.of_startMove v .a) (fun _ hw => s.startMove_valve_other .a hw) fun _ =>
    (s.startMove_boundFor v .a).1.narrows)

/-- A valve arrives at the end it is moving to. -/
theorem arrive (h : b.Spares o s) {v : Valve} {e : ValveEnd} (he : (s.valve v).state = e.moving) : b.Spares o (s.arrive v e) := by
  refine h.trans (of_one (.of_arrive v e) (fun _ hw => s.arrive_valve_other e hw) fun _ => ?_)
  rw [arrive_valve_self]
  have bound (hr : (s.valve v).obedient) : (s.valve v).commanded = e :=
    (ValveRecord.boundFor_of_state hr (.inr he)).commanded
  refine ⟨fun hr => ?_, fun hr ho => ?_, fun _ _ hm => hm⟩
  · exact ValveRecord.BoundFor.obedient (e := e) ⟨bound hr, .inl rfl⟩
  · exact ⟨ho.1, by rw [he]; cases e <;> simp [ValveEnd.moving]⟩

theorem valveFault (h : b.Spares o s) (v : Valve) (f : ValveFault) : b.Spares o (s.valveFault v f) :=
  (h.updValve v _ fun _ => .of_fault rfl).tell _

theorem feedback (h : b.Spares o s) (v : Valve) (p : Position) : b.Spares o (s.feedback v p) := by
  have stored : b.Spares o (s.updValve v fun r => { r with reported := p }) :=
    h.updValve v _ fun _ => .of_same rfl rfl rfl
  simp only [State.feedback]
  split
  · next hs =>
    split
    · exact stored.arrive hs
    · exact stored
  · next hs =>
    split
    · exact stored.arrive hs
    · exact stored
  · split
    · exact stored
    · exact stored.valveFault _ _
  · split
    · exact stored
    · exact stored.valveFault _ _
  · exact stored

theorem resetValve (h : b.Spares o s) {v : Valve} (hf : (s.valve v).state = .fault) : b.Spares o (s.resetValve v) :=
  (h.updValve v _ fun _ => .of_fault hf).startMove_a v

theorem returnValve (h : b.Spares o s) (v : Valve) : b.Spares o (s.returnValve v) :=
  h.trans ⟨.of_actuators (s.returnValve_beyondActuators v) ((State.Grows.refl s).returnValve v), fun w _ =>
    s.returnValve_narrows v w⟩

theorem returnAll (h : b.Spares o s) : b.Spares o s.returnAll := foldl (fun _ v k => k.returnValve v) _ h

theorem command_aside (s : State) (v : Valve) (e : ValveEnd) : s.Aside (s.command v e) :=
  .of_actuators (s.command_beyondActuators v e) ((State.Grows.refl s).command v e)

/-- A command to the A end opens no valve. -/
theorem close (h : b.Spares o s) (v : Valve) : b.Spares o (s.command v .a) :=
  h.trans ⟨command_aside s v .a, fun w _ => s.command_a_narrows v w⟩

/-- A command of another owner opens no valve of this one. -/
theorem command (h : b.Spares o s) {v : Valve} (hv : v.owner ≠ o) (e : ValveEnd) : b.Spares o (s.command v e) :=
  h.trans ⟨command_aside s v e, fun w hw =>
    (s.command_narrows_other e (v := v) fun k => hv (by rw [← k, hw])).1⟩

/-! ### Pumps -/

theorem setPump (h : b.Spares o s) (c : Channel) (p : PumpRecord) : b.Spares o (s.setPump c p) :=
  h.trans (of_au (.of_setPump c p) fun v => s.setPump_valve c p v)

theorem pumpRunning (h : b.Spares o s) (c : Channel) : b.Spares o (s.pumpRunning c) := (h.setPump _ _).emit _

theorem pumpStopped (h : b.Spares o s) (c : Channel) : b.Spares o (s.pumpStopped c) := (h.setPump _ _).emit _

theorem pumpFault (h : b.Spares o s) (c : Channel) (f : PumpFault) : b.Spares o (s.pumpFault c f) := (h.setPump _ _).tell _

theorem resetPump (h : b.Spares o s) (c : Channel) : b.Spares o (s.resetPump c) := (h.setPump _ _).emit _

theorem pumpStart (h : b.Spares o s) (c : Channel) : b.Spares o (s.pumpStart c) := by
  have started (p : PumpRecord) (x : Bool) :
      b.Spares o (if x = true then (s.setPump c p).pumpRunning c else s.setPump c p) := by
    split
    · exact (h.setPump _ _).pumpRunning _
    · exact h.setPump _ _
  simp only [State.pumpStart]
  split
  · exact started _ _
  · exact started _ _
  · exact h
  · exact h.emit _
  · exact h.emit _

theorem pumpStop (h : b.Spares o s) (c : Channel) : b.Spares o (s.pumpStop c) := by
  have stopped (p : PumpRecord) (x : Bool) :
      b.Spares o (if x = true then s.setPump c p else (s.setPump c p).pumpStopped c) := by
    split
    · exact h.setPump _ _
    · exact (h.setPump _ _).pumpStopped _
  simp only [State.pumpStop]
  split
  · exact stopped _ _
  · exact stopped _ _
  · exact h
  · exact h.emit _
  · exact h.emit _

theorem pumpFeedback (h : b.Spares o s) (c : Channel) (on : Bool) : b.Spares o (s.pumpFeedback c on) := by
  have stored := h.setPump c { s.pump c with feedback := on }
  simp only [State.pumpFeedback]
  split
  · split
    · exact stored.pumpRunning _
    · exact stored
  · split
    · exact stored
    · exact stored.pumpFault _ _
  · split
    · exact stored
    · exact stored.pumpStopped _
  · exact stored

/-! ### The Transfer Engine and the Supply Selector -/

theorem channel_owner_ne (c : Channel) : c.owner ≠ Owner.ir := by cases c <;> decide

/-- The Transfer Engine opens none of the router's valves. -/
theorem underTransfer (b : State) : ClosedUnderTransfer (b.Spares .ir) where
  setTransfer _ h := h.trans (of_au ⟨rfl, rfl, List.prefix_refl _⟩ fun _ => rfl)
  report k x y z h := h.report k x y z
  claim t _ h := h.updTank t _
  entryEnd t e h := h.entryEnd t e
  entryNotice t c w h := h.entryNotice t c.entrant w
  close v h := h.close v
  openOwn hv h := h.command (hv ▸ channel_owner_ne _) .b
  pumpStart c h := h.pumpStart c
  pumpStop c h := h.pumpStop c

/-- The Supply Selector opens none of the router's valves. -/
theorem underSupply (b : State) : ClosedUnderSupply (b.Spares .ir) where
  updSupply _ h := h.trans (of_au ⟨rfl, rfl, List.prefix_refl _⟩ fun _ => rfl)
  report k x y z h := h.report k x y z
  command t e h := h.command (v := .tank t .supply) (show Owner.ss ≠ Owner.ir by decide) e

end State.Spares
end Sys2Proof.Machine
end

section
/-!
PROOF. What holds of a state after every operation of the Intake Router where each update and each command that the router is made
of keeps it (`State.ClosedUnderIntake`), and the law of the permits (R75) as such a predicate.
-/
namespace Sys2Proof.Machine

/-- A change of a source's record that leaves what its permit follows from, and the permit. -/
def SourceRecord.KeepsPermit (f : SourceRecord → SourceRecord) : Prop :=
  ∀ r, (f r).give = r.give ∧ (f r).inhibited = r.inhibited ∧ (f r).permit = r.permit

/-- A predicate that the updates of the Intake Router keep: its records but for the permits, reports, the entries of the main, the
commands to its valves, the notice to itself, and the two operations on a permit. -/
structure State.ClosedUnderIntake (P : State → Prop) : Prop where
  updSource : ∀ {s : State} (x : Source) {f : SourceRecord → SourceRecord}, SourceRecord.KeepsPermit f → P s → P (s.updSource x f)
  setMainRaw : ∀ {s : State} (m : ProductMain), P s → P (s.setMainRaw m)
  report : ∀ {s : State} (k : ReportKind) (x y z : Nat), P s → P (s.report k x y z)
  decide : ∀ {s : State}, P s → P (s.emit .decide)
  command : ∀ {s : State} (v : Valve) (e : ValveEnd), P s → P (s.command v e)
  entryEnd : ∀ {s : State} (t : TankIx), P s → P (s.entryEnd t .intake)
  entryNotice : ∀ {s : State} (t : TankIx) (c : QClass), P s → P (s.entryNotice t .intake c).2
  inhibit : ∀ {s : State} (w : Watermaker) (c : InhibitCause), P s → P (s.inhibit w c)

namespace State.ClosedUnderIntake

variable {P : State → Prop} {s : State}

/-- Operations one after another, each of which keeps the predicate. -/
theorem foldl {α : Type} {f : State → α → State} (hf : ∀ x a, P x → P (f x a)) (l : List α) (h : P s) :
    P (l.foldl f s) := by
  induction l generalizing s with
  | nil => exact h
  | cons a l ih => exact ih (hf _ _ h)

/-- Both branches of a choice keep the predicate. -/
theorem ite {c : Prop} [Decidable c] {a b : State} (ha : P a) (hb : P b) : P (if c then a else b) := by
  split
  · exact ha
  · exact hb

theorem keep (k : ClosedUnderIntake P) (x : Source) (f : SourceRecord → SourceRecord)
    (hf : SourceRecord.KeepsPermit f := by exact fun _ => ⟨rfl, rfl, rfl⟩) (h : P s) : P (s.updSource x f) :=
  k.updSource x hf h

/-! ### State changes with their reports -/

theorem setMaker (k : ClosedUnderIntake P) (w : Watermaker) (st : SourceState) (d : Option DumpReason) (h : P s) :
    P (s.setMaker w st d) := by
  simp only [State.setMaker]
  exact ite h (k.report _ _ _ _ (k.keep _ _ (h := h)))

theorem setShore (k : ClosedUnderIntake P) (st : SourceState) (e : Option EndReason) (h : P s) : P (s.setShore st e) := by
  have stored := k.keep .shore (fun r => { r with state := st, endReason := e }) (h := h)
  simp only [State.setShore]
  exact ite (k.report _ _ _ _ stored) stored

theorem setMain (k : ClosedUnderIntake P) (m : ProductMain) (h : P s) : P (s.setMain m) := by
  simp only [State.setMain]
  exact ite (k.setMainRaw m h) (k.report _ _ _ _ (k.setMainRaw m h))

theorem keepDumpTimer (k : ClosedUnderIntake P) (w : Watermaker) (h : P s) : P (s.keepDumpTimer w) := by
  simp only [State.keepDumpTimer]
  split
  · exact k.keep w.source (fun r => { r with dump := some s.clock }) (h := h)
  · exact k.keep w.source (fun r => { r with dump := none }) (h := h)
  · exact h

theorem keepDumpTimers (k : ClosedUnderIntake P) (h : P s) : P s.keepDumpTimers :=
  k.keepDumpTimer .wm2 (k.keepDumpTimer .wm1 h)

/-! ### The product main -/

theorem closeOutlet (k : ClosedUnderIntake P) (x : Source) (h : P s) : P (s.closeOutlet x) := by
  unfold State.closeOutlet
  split
  · exact k.command _ _ h
  · exact ite h (k.command _ _ h)

theorem openOutlet (k : ClosedUnderIntake P) (x : Source) (h : P s) : P (s.openOutlet x) := k.command _ _ h

theorem turnAway (k : ClosedUnderIntake P) (x : Source) (d : DumpReason) (h : P s) : P (s.turnAway x d) := by
  cases x
  case wm1 => exact k.setMaker _ _ _ h
  case wm2 => exact k.setMaker _ _ _ h
  case shore =>
    simp only [State.turnAway]
    exact ite (k.setShore _ _ h) (k.setShore _ _ h)

theorem dropRoute (k : ClosedUnderIntake P) (x : Source) (h : P s) :
    P ((s.closeOutlet x).updSource x fun r => { r with route := none }) :=
  k.keep _ _ (h := k.closeOutlet x h)

theorem shedOne (k : ClosedUnderIntake P) (x : Source) (h : P s) : P (s.shedOne x) := by
  simp only [State.shedOne]
  split
  · exact ite h (k.turnAway _ _ (k.setMainRaw _ (k.dropRoute x h)))
  · exact h

theorem shedJoined (k : ClosedUnderIntake P) (h : P s) : P s.shedJoined := foldl (fun _ x hs => k.shedOne x hs) _ h

theorem headFor (k : ClosedUnderIntake P) (t : TankIx) (st : MainState) (h : P s) : P (s.headFor t st) :=
  k.shedJoined (k.command _ _ (k.setMain _ h))

theorem changeover (k : ClosedUnderIntake P) (h : P s) : P s.changeover.1 := by
  simp only [State.changeover]
  split
  · exact k.headFor _ _ h
  · exact h

theorem closeNext (k : ClosedUnderIntake P) (h : P s) : P s.closeNext := by
  unfold State.closeNext
  split
  · exact ite h (k.command _ _ h)
  · exact h

theorem chooseAgain (k : ClosedUnderIntake P) (h : P s) : P s.chooseAgain.1 := by
  unfold State.chooseAgain
  split
  · exact k.setMainRaw _ h
  · split
    · exact k.shedJoined (k.setMain _ h)
    · split
      · exact k.headFor _ _ h
      · exact k.setMainRaw _ h

theorem loseNext (k : ClosedUnderIntake P) (h : P s) : P s.loseNext.1 := by
  rw [State.loseNext_eq]
  exact k.chooseAgain (k.closeNext h)

theorem release (k : ClosedUnderIntake P) (h : P s) : P s.release :=
  k.decide (k.setMain _ (foldl (fun _ _ hs => k.entryEnd _ hs) _ (foldl (fun _ _ hs => k.command _ _ hs) _
    (foldl (fun _ _ hs => k.command _ _ hs) _ h))))

theorem tankForHolder (k : ClosedUnderIntake P) (h : P s) : P s.tankForHolder.1 := by
  unfold State.tankForHolder
  dsimp only
  generalize (match s.ir.main.heading, s.ir.main.cls with
    | some t, some c => s.holderGroup.contains t && s.canAccept c t
    | _, _ => false) = keeps
  rw [apply_ite Prod.fst, apply_ite Prod.fst]
  exact ite h (ite (k.changeover h) (k.loseNext h))

theorem leaveMain (k : ClosedUnderIntake P) (n : Nat) (x : Source) (h : P s) : P (s.leaveMain n x) := by
  induction n generalizing s x with
  | zero => exact h
  | succ n ih =>
    have left := k.dropRoute x h
    simp only [State.leaveMain]
    split
    · exact k.setMainRaw _ left
    · split
      · split
        · exact k.release left
        · have found := fun m => k.tankForHolder (k.setMainRaw m left)
          exact ite (found _) (k.turnAway _ _ (ih _ (found _)))
      · exact left

theorem holderOverflow (k : ClosedUnderIntake P) (h : P s) : P s.holderOverflow := by
  unfold State.holderOverflow
  split
  · exact k.turnAway _ _ (k.leaveMain _ _ h)
  · exact h

theorem orOverflow (k : ClosedUnderIntake P) {r : State × Bool} (h : P r.1) : P (State.orOverflow r) := by
  unfold State.orOverflow
  exact ite h (k.holderOverflow h)

theorem interruptSource (k : ClosedUnderIntake P) (x : Source) (h : P s) : P (s.interruptSource x) := by
  unfold State.interruptSource
  split
  · exact ite (k.setShore _ _ (k.command _ _ h)) h
  · exact k.closeOutlet x h

theorem interruptTank (k : ClosedUnderIntake P) (t : TankIx) (h : P s) : P (s.interruptTank t) := by
  unfold State.interruptTank
  exact k.entryEnd t (ite h (k.command _ _ h))

theorem headAnew (k : ClosedUnderIntake P) (next : Option TankIx) (c : Option QClass) (h : P s) : P (s.headAnew next c) := by
  simp only [State.headAnew]
  split
  · exact k.setMain _ h
  · split
    · exact k.headFor _ _ (k.setMainRaw _ h)
    · exact k.holderOverflow (k.setMainRaw _ h)

theorem interrupt (k : ClosedUnderIntake P) (h : P s) : P s.interrupt := by
  rw [State.interrupt_eq]
  exact k.headAnew _ _ (foldl (fun _ _ hs => k.interruptTank _ hs) _ (foldl (fun _ _ hs => k.interruptSource _ hs) _ h))

theorem nextOpened (k : ClosedUnderIntake P) (t : TankIx) (h : P s) : P (s.nextOpened t) := by
  unfold State.nextOpened
  split
  · exact h
  · next c _ =>
    have noted := k.entryNotice t c h
    dsimp only
    split
    · exact k.orOverflow (k.loseNext (k.setMainRaw _ noted))
    · split
      · exact k.setMain _ (foldl (fun _ _ hs => k.entryEnd _ (k.command _ _ hs)) _ noted)
      · exact foldl (fun _ _ hs => k.openOutlet _ hs) _ (k.setMain _ noted)

/-! ### Decisions -/

theorem keepOff (k : ClosedUnderIntake P) (x : Source) (d : DumpReason) (h : P s) : P (s.keepOff x d) := by
  cases x
  case shore =>
    simp only [State.keepOff]
    exact ite (k.turnAway _ _ h) (k.turnAway _ _ (k.command _ _ h))
  all_goals
    simp only [State.keepOff]
    exact ite h (k.command _ _ (k.turnAway _ _ h))

theorem setOnMain (k : ClosedUnderIntake P) (x : Source) (h : P s) : P (s.setOnMain x) := by
  cases x
  · exact k.setMaker _ _ _ h
  · exact k.setMaker _ _ _ h
  · exact k.setShore _ _ h

theorem ask (k : ClosedUnderIntake P) (x : Source) (rt : Route) (h : P s) : P (s.ask x rt) := by
  have routed := k.keep x (fun r => { r with route := some rt }) (h := h)
  have joined := fun m => k.setMainRaw m (k.setOnMain x routed)
  simp only [State.ask]
  split
  · split
    · exact k.setOnMain x (k.headFor _ _ (k.setMainRaw _ routed))
    · exact k.keepOff _ _ h
  · split
    · exact ite (k.openOutlet _ (joined _)) (joined _)
    · exact k.keepOff _ _ h

theorem endShore (k : ClosedUnderIntake P) (e : EndReason) (h : P s) : P (s.endShore e) := by
  simp only [State.endShore]
  exact ite h (k.setShore _ _ (k.keep _ _ (h := ite (k.leaveMain _ _ h) (k.command _ _ h))))

theorem decideFor (k : ClosedUnderIntake P) (x : Source) (h : P s) : P (s.decideFor x) := by
  have ruled := fun rule => k.keep x (fun r => { r with rule := rule }) (h := h)
  simp only [State.decideFor]
  split
  · exact ite (k.turnAway _ _ (k.leaveMain _ _ (ruled _))) (k.keepOff _ _ (ruled _))
  · exact k.endShore _ (ruled _)
  · split
    · exact ite (k.keep _ _ (h := ruled _)) (k.ask _ _ (k.leaveMain _ _ (ruled _)))
    · exact ite (k.ask _ _ (k.setShore _ _ (ruled _))) (k.ask _ _ (ruled _))

theorem decideIf (k : ClosedUnderIntake P) (x : Source) (h : P s) : P (s.decideIf x) := ite (k.decideFor x h) h

theorem decideAll (k : ClosedUnderIntake P) (h : P s) : P s.decideAll := foldl (fun _ x hs => k.decideIf x hs) _ h

/-! ### Notices and answers -/

theorem mainOnTank (k : ClosedUnderIntake P) (t : TankIx) (h : P s) : P (s.mainOnTank t) := by
  simp only [State.mainOnTank]
  split
  · exact h
  · exact ite (k.interrupt h) (ite (k.orOverflow (k.loseNext h)) (ite (k.orOverflow (k.changeover h)) h))

theorem intakeTank (k : ClosedUnderIntake P) (t : TankIx) (h : P s) : P (s.intakeTank t) :=
  k.decideAll (k.mainOnTank t (k.setMainRaw _ h))

theorem intakeConflict (k : ClosedUnderIntake P) (t : TankIx) (h : P s) : P (s.intakeConflict t) :=
  k.decideAll (ite (k.interrupt h) h)

theorem intakeValve (k : ClosedUnderIntake P) (v : Valve) (a : ValveAnswer) (h : P s) : P (s.intakeValve v a) := by
  simp only [State.intakeValve]
  refine k.decideAll ?_
  split
  · exact ite (k.nextOpened _ h) h
  · exact ite (k.orOverflow (k.loseNext h)) (ite (k.interrupt h) h)
  · exact k.inhibit _ _ h
  · exact ite (k.setShore _ _ h) h
  · exact k.endShore _ h
  · exact h

/-! ### Run signals, grading, checks, pulses -/

theorem setGrade (k : ClosedUnderIntake P) (x : Source) (g : Grade) (h : P s) : P (s.setGrade x g) := by
  have stored := k.keep x (fun r => { r with grade := g, counter := 0, worst := none }) (h := h)
  simp only [State.setGrade]
  exact ite stored (k.report _ _ _ _ stored)

theorem makerRise (k : ClosedUnderIntake P) (w : Watermaker) (h : P s) : P (s.makerRise w) := by
  have risen : P ((((s.setMaker w .flushing none).setGrade w.source .bad).command (.diverter w) .a).updSource w.source fun r =>
      { r with flush := some (after (((s.setMaker w .flushing none).setGrade w.source .bad).command (.diverter w) .a).clock
        (r.settings.flushTime * 10)) }) :=
    k.keep _ _ (h := k.command _ _ (k.setGrade _ _ (k.setMaker _ _ _ h)))
  simp only [State.makerRise]
  exact ite (ite risen (k.decideAll risen)) h

theorem makerFall (k : ClosedUnderIntake P) (w : Watermaker) (h : P s) : P (s.makerFall w) := by
  have fallen := k.keep w.source (fun r => { r with flush := none, dump := none, rule := none }) (h := k.setMaker w .stopped none h)
  simp only [State.makerFall]
  exact ite (ite (k.leaveMain _ _ fallen) (k.command _ _ fallen)) h

theorem conductivity (k : ClosedUnderIntake P) (x : Source) (v : Nat) (h : P s) : P (s.conductivity x v) := by
  have graded := fun g n w =>
    k.keep x (fun r => { r with last := some (min v 9999), grade := g, counter := n, worst := w }) (h := h)
  simp only [State.conductivity]
  exact ite (k.keep _ _ (h := h)) (ite (graded _ _ _) (k.decideAll (k.report _ _ _ _ (graded _ _ _))))

theorem beginCheck (k : ClosedUnderIntake P) (x : Source) (h : P s) : P (s.beginCheck x) := k.decideAll (k.keep _ _ (h := h))

theorem endCheck (k : ClosedUnderIntake P) (x : Source) (h : P s) : P (s.endCheck x) :=
  k.decideAll (k.report _ _ _ _ (k.keep _ _ (h := h)))

theorem sourcePulse (k : ClosedUnderIntake P) (x : Source) (h : P s) : P (s.sourcePulse x) := by
  simp only [State.sourcePulse]
  refine ite h (k.updSource x (fun r => ?_) h)
  cases x <;> dsimp only <;> (repeat' split) <;> exact ⟨rfl, rfl, rfl⟩

theorem dumpExpired (k : ClosedUnderIntake P) (w : Watermaker) (h : P s) : P (s.dumpExpired w) := by
  simp only [State.dumpExpired]
  exact ite (k.inhibit _ _ h) h

theorem endFlush (k : ClosedUnderIntake P) (w : Watermaker) (h : P s) : P (s.endFlush w) := by
  simp only [State.endFlush]
  exact ite (k.decideFor _ (k.keep _ _ (h := h))) h

theorem openShore (k : ClosedUnderIntake P) (h : P s) : P s.openShore := k.decideFor _ (k.setShore _ _ h)

theorem setSource (k : ClosedUnderIntake P) (x : Source) (v : SourceSettings) (h : P s) : P (s.setSource x v) := by
  have stored := k.keep x (fun r => { r with settings := v, counter := 0, worst := none }) (h := h)
  have expired (w : Watermaker) (t : Clock) {y : State} (hy : P y) :
      P (if v.dumpLimit * 10 ≤ elapsed y.clock t then y.dumpExpired w else y) := ite (k.dumpExpired w hy) hy
  simp only [State.setSource]
  refine k.decideAll ?_
  split
  · split
    · exact expired .wm1 _ stored
    · exact stored
  · split
    · exact expired .wm2 _ stored
    · exact stored
  · exact stored

end State.ClosedUnderIntake
end Sys2Proof.Machine
end

section
/-!
PROOF. A law over the Intake Router, its valves and the mode record (`State.RouterLaw`): what the Actuator Unit, the Transfer
Engine and the Supply Selector do keeps it, so what a command keeps of it (`State.KeptByCommands`) comes down to the router's own
operations, the host's command to a valve, and the changes of the mode record.
-/
namespace Sys2Proof.Machine

/-- No notice of a change of mode to the router. -/
def Msg.notIntakeMode : Msg → Prop
  | .mode .ir _ _ => False
  | _ => True

/-- A law that no operation breaks which spares the router's valves, and that the router keeps as it takes its notices and the
Plant Mode Controller as it changes the mode record. -/
structure State.NoticeLaw (P : State → Prop) : Prop where
  spares : ∀ {s u : State}, P s → s.Spares .ir u → P u
  popped : ∀ {s : State} {m : Msg} {rest : List Msg}, P s → s.msgs = m :: rest → m.notIntakeMode → P { s with msgs := rest }
  decideAll : ∀ {s : State}, P s → P s.decideAll
  intakeTank : ∀ {s : State} (t : TankIx), P s → P (s.intakeTank t)
  intakeConflict : ∀ {s : State} (t : TankIx), P s → P (s.intakeConflict t)
  intakeValve : ∀ {s : State} (v : Valve) (a : ValveAnswer), P s → P (s.intakeValve v a)
  intakeMode : ∀ {s : State} {old new : Mode} {rest : List Msg}, P s → s.msgs = .mode .ir old new :: rest →
    P (State.intakeMode old new { s with msgs := rest })
  updMode : ∀ {s : State} {f : ModeController → ModeController}, (∀ p, (f p).mode = p.mode ∧ (f p).left = p.left) → P s →
    P (s.updMode f)
  changeMode : ∀ {s : State} (m : Mode) (w : Option WakeRecord), P s → P (s.changeMode m w)
  keepDumpTimers : ∀ {s : State}, P s → P s.keepDumpTimers

/-- Beside that, a law that each operation of a request or an event of the router keeps, the host's command to a valve, the load,
and that a start brings about. -/
structure State.RouterLaw (P : State → Prop) : Prop extends State.NoticeLaw P where
  hostCommand : ∀ {s : State} {v : Valve} {e : ValveEnd}, P s → (s.valve v).state ≠ .fault →
    s.ownerActive v.owner = false → ¬(e = .b ∧ s.anotherOpen v = true) → P (s.hostCommand v e)
  setSource : ∀ {s : State} (x : Source) (v : SourceSettings), P s → P (s.setSource x v)
  permitSwitch : ∀ {s : State} (w : Watermaker) (give : Bool), P s → P (s.permitSwitch w give)
  setRules : ∀ {s : State} (r : Vector Rule 8), P s → P { s with ir := { s.ir with rules := r } }
  openShore : ∀ {s : State}, P s → P s.openShore
  endShore : ∀ {s : State} (e : EndReason), P s → P (s.endShore e)
  beginCheck : ∀ {s : State} (x : Source), P s → P (s.beginCheck x)
  endCheck : ∀ {s : State} (x : Source), P s → P (s.endCheck x)
  conductivity : ∀ {s : State} (x : Source) (v : Nat), P s → P (s.conductivity x v)
  makerRise : ∀ {s : State} (w : Watermaker), P s → P (s.makerRise w)
  makerFall : ∀ {s : State} (w : Watermaker), P s → P (s.makerFall w)
  endFlush : ∀ {s : State} (w : Watermaker), P s → P (s.endFlush w)
  dumpExpired : ∀ {s : State} (w : Watermaker), P s → P (s.dumpExpired w)
  sourcePulse : ∀ {s : State} (x : Source), P s → P (s.sourcePulse x)
  begin : ∀ (s : State) (c : ResetCause) (k : Kept), P (s.begin c k)
  takeImage : ∀ {s : State} (im : Image), P s → P (s.takeImage im)

namespace State.NoticeLaw

variable {P : State → Prop} {s : State}

/-- What the Transfer Engine does from a state that meets the law. -/
theorem byTransfer (k : NoticeLaw P) {f : State → State}
    (hf : ∀ {Q : State → Prop} {s : State}, ClosedUnderTransfer Q → Q s → Q (f s)) (h : P s) : P (f s) :=
  k.spares h (hf (Spares.underTransfer s) (.refl s))

/-- What the Supply Selector does from a state that meets the law. -/
theorem bySupply (k : NoticeLaw P) {f : State → State}
    (hf : ∀ {Q : State → Prop} {s : State}, ClosedUnderSupply Q → Q s → Q (f s)) (h : P s) : P (f s) :=
  k.spares h (hf (Spares.underSupply s) (.refl s))

theorem of_informs (k : NoticeLaw P) {u : State} (h : P s) (hu : s.Informs u) : P u := k.spares h ((Spares.refl s).informs hu)

theorem report (k : NoticeLaw P) (r : ReportKind) (x y z : Nat) (h : P s) : P (s.report r x y z) :=
  k.spares h ((Spares.refl s).report r x y z)

/-! ### The Plant Mode Controller -/

theorem completeWarming (k : NoticeLaw P) (way : Nat) (w : WakeRecord) (h : P s) : P (s.completeWarming way w) := by
  have told : P (match w.cause with
      | .crossing t th d => s.reportPlant (tankCode t) 5 (th.code * 65536 + d.code * 256 + way)
      | .host => s) := by
    split
    · exact k.report _ _ _ _ h
    · exact h
  unfold State.completeWarming
  dsimp only
  split
  · exact k.changeMode _ _ told
  · exact k.updMode (fun _ => ⟨rfl, rfl⟩) told

theorem examineWarming (k : NoticeLaw P) (h : P s) : P s.examineWarming := by
  unfold State.examineWarming
  split
  · split
    · exact k.completeWarming _ _ h
    · exact h
  · exact h

theorem enterWaking (k : NoticeLaw P) (c : WakeCause) (m : Option Mode) (h : P s) : P (s.enterWaking c m) :=
  k.examineWarming (k.changeMode _ _ h)

theorem takeWake (k : NoticeLaw P) (t : TankIx) (th : Threshold) (d : Direction) (h : P s) : P (s.takeWake t th d) := by
  unfold State.takeWake
  split
  · exact k.enterWaking _ _ h
  · exact h

theorem setMode (k : NoticeLaw P) (m : Mode) (h : P s) : P (s.setMode m) := by
  unfold State.setMode
  split
  · exact h
  · split
    · exact k.enterWaking _ _ h
    · split
      · split
        · exact k.changeMode _ _ h
        · split
          · exact k.updMode (fun _ => ⟨rfl, rfl⟩) h
          · exact k.changeMode _ _ h
      · exact k.changeMode _ _ h
    · exact k.changeMode _ _ h

theorem wakeLimitExpires (k : NoticeLaw P) (h : P s) : P s.wakeLimitExpires := by
  unfold State.wakeLimitExpires
  split
  · split
    · exact k.completeWarming _ _ h
    · exact h
  · exact h

theorem confirmExpires (k : NoticeLaw P) (h : P s) : P s.confirmExpires := by
  unfold State.confirmExpires
  split
  · split
    · exact k.changeMode _ _ (k.report _ _ _ _ h)
    · exact h
  · exact h

theorem lapse (k : NoticeLaw P) (c : SupCause) (h : P s) : P (s.lapse c) := by
  unfold State.lapse
  split
  · exact k.report _ _ _ _ (k.updMode (fun _ => ⟨rfl, rfl⟩) h)
  · exact k.changeMode _ _ (k.report _ _ _ _ h)
  · exact h

theorem supervisionExpires (k : NoticeLaw P) (h : P s) : P s.supervisionExpires := by
  unfold State.supervisionExpires
  split
  · exact k.lapse _ h
  · exact h

theorem takeHeartbeat (k : NoticeLaw P) (h : P s) : P s.takeHeartbeat := by
  have watched := k.updMode (f := fun p => { p with sup := .watching, timer := some s.newTimer }) (fun _ => ⟨rfl, rfl⟩) h
  unfold State.takeHeartbeat
  split
  · exact h
  · exact k.lapse _ h
  · dsimp only
    split
    · exact k.report _ _ _ _ watched
    · exact watched

/-! ### Notices -/

theorem setTold (k : NoticeLaw P) (b : Block) (t : TankIx) (g : Option GaugeState) (h : P s) : P (s.setTold b t g) :=
  k.of_informs h (by cases b <;> exact Informs.of_same rfl rfl rfl rfl rfl rfl)

theorem takeTank (k : NoticeLaw P) (b : Block) (t : TankIx) (c : TankChange) (h : P s) : P (s.takeTank b t c) := by
  have told : P (if (s.tank t).service = .undefined then s.setTold b t none else s) := by
    split
    · exact k.setTold _ _ _ h
    · exact h
  unfold State.takeTank
  cases b
  · exact told
  · exact told
  · exact k.intakeTank t told
  · exact k.byTransfer (fun kt => kt.transferTank _ _) told
  · exact k.bySupply (fun ks => ks.examine _) told
  · exact k.examineWarming told

theorem takeGauge (k : NoticeLaw P) (b : Block) (t : TankIx) (g : GaugeState) (h : P s) : P (s.takeGauge b t g) := by
  have told := k.setTold b t (some g) h
  unfold State.takeGauge
  cases b
  · exact told
  · exact told
  · exact k.intakeTank t told
  · exact k.byTransfer (fun kt => kt.transferTank _ _) told
  · exact k.bySupply (fun ks => ks.examine _) told
  · exact k.examineWarming told

theorem gaugeMode_informs (s : State) (old : Mode) : s.Informs (s.gaugeMode old) := by
  unfold State.gaugeMode
  split <;> exact Informs.of_same rfl rfl rfl rfl rfl rfl

/-- A change of mode is taken by another block than the router. -/
theorem takeMode (k : NoticeLaw P) {b : Block} (hb : b ≠ .ir) (old new : Mode) (h : P s) : P (s.takeMode b old new) := by
  cases b
  case gu => exact k.of_informs h (gaugeMode_informs s old)
  case au =>
    refine k.spares h ?_
    simp only [State.takeMode, State.actuatorMode]
    split
    · exact (Spares.refl s).returnAll
    · exact .refl s
  case ir => exact absurd rfl hb
  case te => exact k.byTransfer (fun kt => kt.transferMode _) h
  case ss =>
    simp only [State.takeMode]
    split
    · exact k.bySupply (fun ks => ks.examine _) h
    · exact h
  case pmc => exact h

theorem takeValve (k : NoticeLaw P) (v : Valve) (a : ValveAnswer) (h : P s) : P (s.takeValve v a) := by
  unfold State.takeValve
  split
  · exact k.intakeValve v a h
  · exact k.byTransfer (f := fun s => (s.channelValve .tc1 v a).settle) (fun kt hs => kt.settle (kt.channelValve _ _ _ hs)) h
  · exact k.byTransfer (f := fun s => (s.channelValve .tc2 v a).settle) (fun kt hs => kt.settle (kt.channelValve _ _ _ hs)) h
  · exact k.bySupply (fun ks => ks.supplyValve _ _) h

theorem takeConflict (k : NoticeLaw P) (t : TankIx) (e : Entrant) (h : P s) : P (s.takeConflict t e) := by
  cases e
  · exact k.intakeConflict t h
  · exact k.byTransfer (fun kt => kt.transferConflict _) h
  · exact k.byTransfer (fun kt => kt.transferConflict _) h

theorem take (k : NoticeLaw P) {m : Msg} {rest : List Msg} (h : P s) (hm : s.msgs = m :: rest) :
    P (State.take m { s with msgs := rest }) := by
  cases m with
  | tank b t c => exact k.takeTank b t c (k.popped h hm trivial)
  | gauge b t g => exact k.takeGauge b t g (k.popped h hm trivial)
  | mode b old new =>
    by_cases hb : b = .ir
    · subst hb
      exact k.intakeMode h hm
    · refine k.takeMode hb old new (k.popped h hm ?_)
      cases b
      case ir => exact absurd rfl hb
      all_goals trivial
  | moment m =>
    exact k.byTransfer (f := State.transferMoment) (fun kt => kt.transferMoment)
      (k.of_informs (k.popped h hm trivial) (Informs.of_same rfl rfl rfl rfl rfl rfl))
  | balance => exact k.byTransfer (fun kt => kt.transferMoment) (k.popped h hm trivial)
  | conflict t e => exact k.takeConflict t e (k.popped h hm trivial)
  | wake t th d => exact k.takeWake t th d (k.popped h hm trivial)
  | valve v a => exact k.takeValve v a (k.popped h hm trivial)
  | pump c a =>
    exact k.byTransfer (f := fun s => (s.channelPump c a).settle) (fun kt hs => kt.settle (kt.channelPump _ _ hs))
      (k.popped h hm trivial)
  | decide => exact k.decideAll (k.popped h hm trivial)
  | report r => exact k.of_informs (k.popped h hm trivial) (Informs.of_same rfl rfl rfl rfl rfl rfl)

/-- The notices in flight are taken, and the dump timers follow. -/
theorem deliver (k : NoticeLaw P) (h : P s) : P s.deliver :=
  State.deliver_induction P s h (fun _ _ _ hx hm => k.take hx hm) fun _ hx => k.keepDumpTimers hx

end State.NoticeLaw

namespace State.RouterLaw

variable {P : State → Prop} {s : State}

theorem load (k : RouterLaw P) (h : P s) : P s.load := by
  have marked : P { s.takeImage s.sts.toLoad with
      sts := { (s.takeImage s.sts.toLoad).sts with
        workingFlag := s.sts.toLoad.commissioning, storeValid := s.sts.checksumAgrees } } :=
    k.toNoticeLaw.of_informs (k.takeImage _ h) (Informs.of_same rfl rfl rfl rfl rfl rfl)
  exact k.changeMode s.sts.firstMode none marked

/-- A law of the router is kept by every command. -/
theorem keptByCommands (k : RouterLaw P) : KeptByCommands P where
  informs h hu := k.toNoticeLaw.of_informs h hu
  hostCommand h _ hf ha ho := k.hostCommand h hf ha ho
  resetValve h hf := k.spares h ((Spares.refl _).resetValve hf)
  feedback h _ := k.spares h ((Spares.refl _).feedback _ _)
  travelTimeout h _ := k.spares h ((Spares.refl _).valveFault _ _)
  travelTime _ h := k.spares h (Spares.of_au ⟨rfl, rfl, List.prefix_refl _⟩ fun _ => rfl)
  resetPump h _ := k.spares h ((Spares.refl _).resetPump _)
  pumpFeedback h _ := k.spares h ((Spares.refl _).pumpFeedback _ _)
  startTimeout h _ := k.spares h ((Spares.refl _).pumpFault _ _)
  stopTimeout h _ := k.spares h ((Spares.refl _).pumpFault _ _)
  setSource x v h := k.setSource x v h
  permitSwitch w g h := k.permitSwitch w g h
  setRules r h := k.setRules r h
  decideAll h := k.decideAll h
  openShore h := k.openShore h
  endShore e h := k.endShore e h
  beginCheck x h := k.beginCheck x h
  endCheck x h := k.endCheck x h
  conductivity x v h := k.conductivity x v h
  makerRise w h := k.makerRise w h
  makerFall w h := k.makerFall w h
  endFlush w h := k.endFlush w h
  dumpExpired w h := k.dumpExpired w h
  sourcePulse x h := k.sourcePulse x h
  submit p q l h _ _ := k.toNoticeLaw.byTransfer (fun kt => kt.submit _ p q l) h
  cancel _ h := k.toNoticeLaw.byTransfer (fun kt => kt.cancel _) h
  settle h := k.toNoticeLaw.byTransfer (fun kt => kt.settle) h
  resume h _ _ := k.toNoticeLaw.byTransfer (fun kt => kt.resume _) h
  removeOrder h _ _ := k.spares h (Spares.of_au ⟨rfl, rfl, List.prefix_refl _⟩ fun _ => rfl)
  setChannel _ _ h := k.toNoticeLaw.byTransfer (fun kt => kt.updChan _ _) h
  takeOut _ h := k.toNoticeLaw.byTransfer (fun kt => kt.takeOut _) h
  takeIn h _ := k.toNoticeLaw.byTransfer (fun kt => kt.takeIn _) h
  channelPulse _ h := k.toNoticeLaw.byTransfer (fun kt => kt.channelPulse _) h
  flowLost _ h := k.toNoticeLaw.byTransfer (fun kt => kt.flowLost _) h
  setDuty _ h := k.toNoticeLaw.bySupply (fun ks => ks.setDuty _) h
  advance _ h := k.toNoticeLaw.bySupply (fun ks => ks.advance _) h
  setMode m h := k.toNoticeLaw.setMode m h
  setSupervision _ _ h := k.updMode (fun _ => ⟨rfl, rfl⟩) h
  takeHeartbeat h := k.toNoticeLaw.takeHeartbeat h
  changeMode m h := k.changeMode m none h
  wakeLimitExpires h := k.toNoticeLaw.wakeLimitExpires h
  confirmExpires h := k.toNoticeLaw.confirmExpires h
  supervisionExpires h := k.toNoticeLaw.supervisionExpires h
  begin s c kept := k.begin s c kept
  load h := k.load h
  take h hm := k.toNoticeLaw.take h hm
  keepDumpTimers h := k.keepDumpTimers h

end State.RouterLaw
end Sys2Proof.Machine
end

section
/-!
PROOF. The law of the permits (R75) between the steps: a permit follows its status, or a change of mode is on its way to the
router, which makes both permits follow again.
-/
namespace Sys2Proof.Machine

theorem Watermaker.source_ne {v w : Watermaker} (h : v ≠ w) : v.source ≠ w.source := by
  revert h
  cases v <;> cases w <;> decide

namespace State

/-- The permit of a watermaker as last told follows its status (R75). -/
def permitFollows (s : State) (w : Watermaker) : Prop := (s.source w.source).permit = s.permitStatus w

/-- A change of mode is on its way to the router. -/
def modeOnItsWay (s : State) : Prop := ∃ old new, Msg.mode .ir old new ∈ s.msgs

/-- The permits follow, or the notice that makes them follow is in flight. -/
def permitsKept (s : State) : Prop := (∀ w, s.permitFollows w) ∨ s.modeOnItsWay

variable {s u : State}

theorem modeOnItsWay_of_prefix (h : s.modeOnItsWay) (hm : s.msgs <+: u.msgs) : u.modeOnItsWay := by
  obtain ⟨old, new, hmem⟩ := h
  exact ⟨old, new, hm.subset hmem⟩

/-- A permit depends on its source's switch, mark and permit, and on the mode. -/
theorem permitFollows_of_same {w : Watermaker} (hg : (u.source w.source).give = (s.source w.source).give)
    (hi : (u.source w.source).inhibited = (s.source w.source).inhibited)
    (hp : (u.source w.source).permit = (s.source w.source).permit) (hm : u.production = s.production) (h : s.permitFollows w) :
    u.permitFollows w := by
  simp only [permitFollows, permitStatus, hg, hi, hp, hm] at h ⊢
  exact h

theorem production_of_mode (hm : u.pmc.mode = s.pmc.mode) (hl : u.pmc.left = s.pmc.left) : u.production = s.production := by
  simp only [production, hm, hl]

/-- An operation that leaves what the permits follow from. -/
theorem permitsKept_of_same (hs : ∀ w : Watermaker, (u.source w.source).give = (s.source w.source).give ∧
      (u.source w.source).inhibited = (s.source w.source).inhibited ∧
      (u.source w.source).permit = (s.source w.source).permit)
    (hm : u.production = s.production) (hmsgs : s.msgs <+: u.msgs) (h : s.permitsKept) : u.permitsKept := by
  refine h.imp (fun follows w => ?_) fun k => modeOnItsWay_of_prefix k hmsgs
  obtain ⟨hg, hi, hp⟩ := hs w
  exact permitFollows_of_same hg hi hp hm (follows w)

theorem permitsKept_of_aside (h : s.permitsKept) (k : s.Aside u) : u.permitsKept := by
  have same (x : Source) : u.source x = s.source x := by cases x <;> simp only [source, k.ir]
  exact permitsKept_of_same (fun w => by rw [same]; exact ⟨rfl, rfl, rfl⟩)
    (production_of_mode (by rw [k.pmc]) (by rw [k.pmc])) k.msgs h

/-! ### The operations on a permit -/

@[simp] theorem report_source (k : ReportKind) (a b c : Nat) (x : Source) : (s.report k a b c).source x = s.source x := by
  cases x <;> rfl

theorem updSource_permitStatus_other {x : Source} {w : Watermaker} (f : SourceRecord → SourceRecord) (h : w.source ≠ x) :
    (s.updSource x f).permitStatus w = s.permitStatus w := by
  simp only [permitStatus, updSource_source_ne _ _ h]
  rw [production_of_mode (s := s) (by simp) (by simp)]

/-- The permit of a watermaker is brought to its status. -/
theorem updatePermit_follows (s : State) (w : Watermaker) : (s.updatePermit w).permitFollows w := by
  have set : (s.updSource w.source fun r => { r with permit := s.permitStatus w }).permitFollows w := by
    simp [permitFollows, permitStatus, production]
  simp only [updatePermit]
  split
  · next h => exact h.symm
  · split
    · exact set
    · exact permitFollows_of_same (by simp) (by simp) (by simp) rfl set

/-- The permit of the other watermaker stays as it is. -/
theorem updatePermit_follows_other {w v : Watermaker} (hv : v ≠ w) (h : s.permitFollows v) :
    (s.updatePermit w).permitFollows v := by
  have hne := Watermaker.source_ne hv
  have set : (s.updSource w.source fun r => { r with permit := s.permitStatus w }).permitFollows v := by
    rw [permitFollows, updSource_source_ne _ _ hne, updSource_permitStatus_other _ hne]
    exact h
  simp only [updatePermit]
  split
  · exact h
  · split
    · exact set
    · exact permitFollows_of_same (by simp) (by simp) (by simp) rfl set

theorem updatePermit_msgs (w : Watermaker) : (s.updatePermit w).msgs = s.msgs := by
  simp only [updatePermit]
  (repeat' split) <;> simp

/-- A change to one watermaker's record, after which its permit is brought to its status. -/
theorem permitsKept_updatePermit {w : Watermaker} (h : s.permitsKept) (ho : ∀ v, v ≠ w → s.permitFollows v → u.permitFollows v)
    (hm : s.msgs <+: u.msgs) : (u.updatePermit w).permitsKept := by
  refine h.imp (fun follows v => ?_) fun k => modeOnItsWay_of_prefix k (by rw [updatePermit_msgs]; exact hm)
  by_cases hv : v = w
  · subst hv
    exact u.updatePermit_follows v
  · exact updatePermit_follows_other hv (ho v hv (follows v))

theorem updSource_follows_other {w v : Watermaker} (f : SourceRecord → SourceRecord) (hv : v ≠ w) (h : s.permitFollows v) :
    (s.updSource w.source f).permitFollows v := by
  have hne := Watermaker.source_ne hv
  rw [permitFollows, updSource_source_ne _ _ hne, updSource_permitStatus_other _ hne]
  exact h

theorem permitsKept_permitSwitch (w : Watermaker) (give : Bool) (h : s.permitsKept) : (s.permitSwitch w give).permitsKept :=
  permitsKept_updatePermit h (fun _ hv => updSource_follows_other _ hv) (by simp)

theorem permitsKept_inhibit (w : Watermaker) (c : InhibitCause) (h : s.permitsKept) : (s.inhibit w c).permitsKept := by
  simp only [inhibit]
  split
  · exact h
  · exact permitsKept_updatePermit h (fun _ hv k => permitFollows_of_same (by simp) (by simp) (by simp) rfl
      (updSource_follows_other _ hv k)) (by simp)

/-- Both permits brought to their status follow. -/
theorem updatePermits_follow (s : State) : ((s.updatePermit .wm1).updatePermit .wm2).permitsKept := by
  refine .inl fun w => ?_
  cases w
  · exact updatePermit_follows_other (by decide) (s.updatePermit_follows .wm1)
  · exact updatePermit_follows _ .wm2

/-! ### The law -/

/-- The router keeps the permits. -/
theorem permitsKept_underIntake : ClosedUnderIntake permitsKept where
  updSource x f hf h := by
    refine permitsKept_of_same (fun w => ?_) (production_of_mode (by simp) (by simp)) (by simp) h
    by_cases hw : w.source = x
    · subst hw
      simpa using hf _
    · rw [updSource_source_ne _ _ hw]
      exact ⟨rfl, rfl, rfl⟩
  setMainRaw m h := permitsKept_of_same (fun w => by simp) rfl (List.prefix_refl _) h
  report k x y z h := permitsKept_of_aside h ((Spares.refl (o := .ir) _).report k x y z).toAside
  decide h := permitsKept_of_aside h (.of_emit _)
  command v e h := permitsKept_of_aside h (Spares.command_aside _ v e)
  entryEnd t h := permitsKept_of_aside h ((Spares.refl (o := .ir) _).entryEnd t .intake).toAside
  entryNotice t c h := permitsKept_of_aside h ((Spares.refl (o := .ir) _).entryNotice t .intake c).toAside
  inhibit w c h := permitsKept_inhibit w c h

/-- A change of mode taken by the router makes both permits follow. -/
theorem permitsKept_intakeMode (s : State) (old new : Mode) : (s.intakeMode old new).permitsKept := by
  have k := permitsKept_underIntake
  have rise {y : State} (w : Watermaker) (b : Bool) (hy : y.permitsKept) : (if b then y.makerRise w else y).permitsKept := by
    split
    · exact k.makerRise w hy
    · exact hy
  simp only [intakeMode]
  refine k.decideAll ?_
  split
  · exact rise _ _ (rise _ _ (updatePermits_follow _))
  · exact updatePermits_follow _

/-- A change of mode goes out to the router. -/
theorem changeMode_onItsWay (s : State) (m : Mode) (w : Option WakeRecord) : (s.changeMode m w).modeOnItsWay :=
  ⟨s.pmc.mode, m, List.mem_append_right _ ((permute_perm _ _).mem_iff.mpr (by simp))⟩

theorem permitsKept_routerLaw : RouterLaw permitsKept where
  spares h k := permitsKept_of_aside h k.toAside
  popped h hm hn := by
    refine h.imp (fun follows w => permitFollows_of_same rfl rfl rfl rfl (follows w)) fun ⟨old, new, hmem⟩ => ?_
    rw [hm] at hmem
    rcases List.mem_cons.mp hmem with rfl | hmem
    · exact hn.elim
    · exact ⟨old, new, hmem⟩
  hostCommand h _ _ _ := permitsKept_of_aside h (.of_hostCommand _ _)
  setSource x v h := permitsKept_underIntake.setSource x v h
  permitSwitch w g h := permitsKept_permitSwitch w g h
  setRules r h := permitsKept_of_same (fun w => by cases w <;> exact ⟨rfl, rfl, rfl⟩) rfl (List.prefix_refl _) h
  decideAll h := permitsKept_underIntake.decideAll h
  openShore h := permitsKept_underIntake.openShore h
  endShore e h := permitsKept_underIntake.endShore e h
  beginCheck x h := permitsKept_underIntake.beginCheck x h
  endCheck x h := permitsKept_underIntake.endCheck x h
  conductivity x v h := permitsKept_underIntake.conductivity x v h
  makerRise w h := permitsKept_underIntake.makerRise w h
  makerFall w h := permitsKept_underIntake.makerFall w h
  endFlush w h := permitsKept_underIntake.endFlush w h
  dumpExpired w h := permitsKept_underIntake.dumpExpired w h
  sourcePulse x h := permitsKept_underIntake.sourcePulse x h
  keepDumpTimers h := permitsKept_underIntake.keepDumpTimers h
  intakeTank t h := permitsKept_underIntake.intakeTank t h
  intakeConflict t h := permitsKept_underIntake.intakeConflict t h
  intakeValve v a h := permitsKept_underIntake.intakeValve v a h
  intakeMode _ _ := permitsKept_intakeMode _ _ _
  updMode {s} _ hf h := permitsKept_of_same (s := s) (fun _ => ⟨rfl, rfl, rfl⟩) (production_of_mode (hf _).1 (hf _).2)
    (List.prefix_refl _) h
  changeMode m w _ := .inr (changeMode_onItsWay _ m w)
  begin s c k := .inl fun w => by cases w <;> rfl
  takeImage {s} im h := permitsKept_of_same (s := s) (fun w => by cases w <;> exact ⟨rfl, rfl, rfl⟩) rfl
    (List.prefix_refl _) h

/-- Every step keeps the permits. -/
theorem permitsKept_step (h : s.permitsKept) (hs : step s = .next u) : u.permitsKept :=
  permitsKept_routerLaw.keptByCommands.step h hs

theorem production_iff (s : State) :
    s.production = true ↔ s.mode = .run ∨ s.mode = .commission ∨ (s.mode = .fallback ∧ s.pmc.left = some .run) := by
  unfold production mode
  cases s.pmc.mode <;> simp

/-- The permit of R75 holds in production alone. -/
theorem production_of_permitted {w : Watermaker} (h : s.permitStatus w = .permitted) : s.production = true := by
  unfold permitStatus at h
  dsimp only at h
  split at h
  · cases h
  · split at h
    · next hp => exact (Bool.and_eq_true_iff.mp hp).2
    · cases h

end State
end Sys2Proof.Machine
end

section
open Sys2Proof Sys2Proof.Machine

/-- Settles O59: at a step's end without notices in flight no change of mode is on its way, so the permits follow. -/
theorem stepsKeepThePermitLaw : Obligations.StepsKeepThePermitLaw := by
  intro s u _ hlaw hstep hmsgs
  have follows : u.permitLaw := by
    rcases State.permitsKept_step (.inl hlaw) hstep with follows | ⟨old, new, hmem⟩
    · exact follows
    · rw [hmsgs] at hmem
      cases hmem
  refine ⟨follows, fun w hrun => ?_⟩
  have permitted : u.permitStatus w = .permitted := by
    simpa using (Bool.and_eq_true_iff.mp hrun).2
  exact ⟨(follows w).trans permitted, (State.production_iff u).mp (State.production_of_permitted permitted)⟩
end

section
/-!
PROOF. Which operations of the Intake Router leave the main as it is and open no intake valve (`State.Quiet`).
-/
namespace Sys2Proof.Machine

/-- The record of a tank's intake valve. -/
abbrev State.inlet (s : State) (t : TankIx) : ValveRecord := s.valve (.tank t .intake)

/-- The main is as it was, and no intake valve has been opened. -/
structure State.Quiet (s u : State) : Prop where
  main : u.ir.main = s.ir.main
  narrows : ∀ t : TankIx, (s.inlet t).Narrows (u.inlet t)

theorem Source.outlet_ne_inlet (x : Source) (t : TankIx) : Valve.tank t .intake ≠ x.outlet := by
  cases x <;> simp [Source.outlet]

namespace State.Quiet

variable {b s u : State}

theorem refl (s : State) : s.Quiet s := ⟨rfl, fun _ => .refl _⟩

theorem trans (h : b.Quiet s) (k : s.Quiet u) : b.Quiet u := ⟨k.main.trans h.main, fun t => (h.narrows t).trans (k.narrows t)⟩

theorem spares (h : b.Quiet s) (k : s.Spares .ir u) : b.Quiet u :=
  h.trans ⟨by rw [k.ir], fun t => k.narrows (.tank t .intake) rfl⟩

/-- An operation that leaves the main and the valves. -/
theorem of_same (hm : u.ir.main = s.ir.main) (hau : u.au = s.au) : s.Quiet u :=
  ⟨hm, fun t => by simp only [inlet, valve, hau]; exact .refl _⟩

theorem ite {c : Prop} [Decidable c] {x y : State} (hx : b.Quiet x) (hy : b.Quiet y) : b.Quiet (if c then x else y) := by
  split
  · exact hx
  · exact hy

theorem updSource (h : b.Quiet s) (x : Source) (f : SourceRecord → SourceRecord) : b.Quiet (s.updSource x f) :=
  h.trans (of_same (by simp) (by simp))

theorem report (h : b.Quiet s) (k : ReportKind) (x y z : Nat) : b.Quiet (s.report k x y z) := h.trans (of_same rfl rfl)

theorem emit (h : b.Quiet s) (m : Msg) : b.Quiet (s.emit m) := h.trans (of_same rfl rfl)

theorem entryEnd (h : b.Quiet s) (t : TankIx) (e : Entrant) : b.Quiet (s.entryEnd t e) := h.spares ((Spares.refl s).entryEnd t e)

theorem entryNotice (h : b.Quiet s) (t : TankIx) (e : Entrant) (c : QClass) : b.Quiet (s.entryNotice t e c).2 :=
  h.spares ((Spares.refl s).entryNotice t e c)

/-! ### Commands -/

theorem close (h : b.Quiet s) (v : Valve) : b.Quiet (s.command v .a) :=
  h.trans ⟨by rw [(Spares.command_aside s v .a).ir], fun t => s.command_a_narrows v _⟩

theorem closeOutlet (h : b.Quiet s) (x : Source) : b.Quiet (s.closeOutlet x) := by
  unfold State.closeOutlet
  split
  · exact h.close _
  · exact ite h (h.close _)

/-- Opening an outlet opens no intake valve. -/
theorem openOutlet (h : b.Quiet s) (x : Source) : b.Quiet (s.openOutlet x) :=
  h.trans ⟨by rw [State.openOutlet, (Spares.command_aside s _ .b).ir], fun t =>
    (s.command_narrows_other .b (Source.outlet_ne_inlet x t)).1⟩

/-! ### The sources -/

theorem setMaker (h : b.Quiet s) (w : Watermaker) (st : SourceState) (d : Option DumpReason) : b.Quiet (s.setMaker w st d) := by
  simp only [State.setMaker]
  exact ite h ((h.updSource _ _).report _ _ _ _)

theorem setShore (h : b.Quiet s) (st : SourceState) (e : Option EndReason) : b.Quiet (s.setShore st e) := by
  simp only [State.setShore]
  exact ite ((h.updSource _ _).report _ _ _ _) (h.updSource _ _)

theorem updatePermit (h : b.Quiet s) (w : Watermaker) : b.Quiet (s.updatePermit w) := by
  simp only [State.updatePermit]
  exact ite h (ite (h.updSource _ _) ((h.updSource _ _).report _ _ _ _))

theorem inhibit (h : b.Quiet s) (w : Watermaker) (c : InhibitCause) : b.Quiet (s.inhibit w c) := by
  simp only [State.inhibit]
  exact ite h (((h.updSource _ _).report _ _ _ _).updatePermit w)

theorem dumpExpired (h : b.Quiet s) (w : Watermaker) : b.Quiet (s.dumpExpired w) := by
  simp only [State.dumpExpired]
  exact ite (h.inhibit _ _) h

theorem keepDumpTimer (h : b.Quiet s) (w : Watermaker) : b.Quiet (s.keepDumpTimer w) := by
  simp only [State.keepDumpTimer]
  split
  · exact h.updSource _ _
  · exact h.updSource _ _
  · exact h

theorem turnAway (h : b.Quiet s) (x : Source) (d : DumpReason) : b.Quiet (s.turnAway x d) := by
  unfold State.turnAway
  split
  · exact h.setMaker _ _ _
  · exact h.setMaker _ _ _
  · exact ite (h.setShore _ _) (h.setShore _ _)

theorem setOnMain (h : b.Quiet s) (x : Source) : b.Quiet (s.setOnMain x) := by
  unfold State.setOnMain
  split
  · exact h.setMaker _ _ _
  · exact h.setMaker _ _ _
  · exact h.setShore _ _

theorem keepOff (h : b.Quiet s) (x : Source) (d : DumpReason) : b.Quiet (s.keepOff x d) := by
  unfold State.keepOff
  split
  · exact ite (h.turnAway _ _) ((h.close _).turnAway _ _)
  · exact ite h ((h.turnAway _ _).close _)

/-- A source's outlet is closed and its route dropped (R85). -/
theorem dropRoute (h : b.Quiet s) (x : Source) :
    b.Quiet ((s.closeOutlet x).updSource x fun r => { r with route := none }) := (h.closeOutlet x).updSource _ _

theorem interruptSource (h : b.Quiet s) (x : Source) : b.Quiet (s.interruptSource x) := by
  unfold State.interruptSource
  split
  · exact ite ((h.close _).setShore _ _) h
  · exact h.closeOutlet x

theorem setGrade (h : b.Quiet s) (x : Source) (g : Grade) : b.Quiet (s.setGrade x g) := by
  simp only [State.setGrade]
  exact ite (h.updSource _ _) ((h.updSource _ _).report _ _ _ _)

theorem sourcePulse (h : b.Quiet s) (x : Source) : b.Quiet (s.sourcePulse x) := by
  simp only [State.sourcePulse]
  exact ite h (h.updSource _ _)

theorem permitSwitch (h : b.Quiet s) (w : Watermaker) (give : Bool) : b.Quiet (s.permitSwitch w give) :=
  (h.updSource _ _).updatePermit w

theorem foldl {α : Type} {f : State → α → State} (hf : ∀ x a, b.Quiet x → b.Quiet (f x a)) (l : List α) (h : b.Quiet s) :
    b.Quiet (l.foldl f s) := by
  induction l generalizing s with
  | nil => exact h
  | cons a l ih => exact ih (hf _ _ h)

end State.Quiet
end Sys2Proof.Machine
end

section
/-!
PROOF. The law of the intake valves (R83) in two parts: which tanks' valves may stand open (`State.CoveredBy`), and what the main
holds in its states (`ProductMain.lawful`). What each operation of the main needs and leaves of the two.
-/
namespace Sys2Proof.Machine

/-- A tank's intake valve stands open alone, under host command (R61). -/
def State.loneHost (s : State) (t : TankIx) : Prop := (s.inlet t).hostMark = true ∧ ∀ u, (s.inlet u).isOpen → u = t

/-- Every intake valve obeys, and one that is open is of a given set of tanks or stands open alone under host command. -/
structure State.CoveredBy (A : TankIx → Prop) (s : State) : Prop where
  obedient : ∀ t, (s.inlet t).obedient
  covers : ∀ t, (s.inlet t).isOpen → A t ∨ s.loneHost t

/-- A tank is the main's current or next one. -/
def ProductMain.uses (m : ProductMain) (t : TankIx) : Prop := m.current = some t ∨ m.next = some t

/-- What the main holds in its states (R83, R85), and no source twice. -/
structure ProductMain.lawful (m : ProductMain) : Prop where
  unused : m.state = .unused → m = ProductMain.unused
  opening : m.state = .opening → m.current = none
  delivering : m.state = .delivering → m.next = none
  nodup : m.sources.Nodup

/-- The law of the intake valves, for a main that carries sources of a set. -/
structure State.IntakeLaw (S : Source → Prop) (s : State) : Prop where
  covered : s.CoveredBy s.ir.main.uses
  main : s.ir.main.lawful
  within : ∀ x ∈ s.ir.main.sources, S x

theorem State.intakeValveLaw_iff (s : State) : s.intakeValveLaw ↔ s.IntakeLaw fun _ => True := by
  simp only [intakeValveLaw, commandedOpen_iff]
  constructor
  · rintro ⟨covers, unused, opening, delivering, nodup, obedient⟩
    exact ⟨⟨obedient, fun t ht => or_assoc.mpr (covers t ht)⟩, ⟨unused, opening, delivering, nodup⟩, fun _ _ => trivial⟩
  · rintro ⟨⟨obedient, covers⟩, ⟨unused, opening, delivering, nodup⟩, -⟩
    exact ⟨fun t ht => or_assoc.mp (covers t ht), unused, opening, delivering, nodup, obedient⟩

namespace State.CoveredBy

variable {A B : TankIx → Prop} {s u : State}

theorem mono (h : s.CoveredBy A) (hAB : ∀ t, A t → B t) : s.CoveredBy B := ⟨h.obedient, fun t ht => (h.covers t ht).imp_left (hAB t)⟩

/-- A valve that is closed need not be covered. -/
theorem of_closed (h : s.CoveredBy A) (hAB : ∀ t, A t → (s.inlet t).isOpen → B t) : s.CoveredBy B :=
  ⟨h.obedient, fun t ht => (h.covers t ht).imp_left fun ha => hAB t ha ht⟩

theorem narrowed (h : s.CoveredBy A) (k : ∀ t, (s.inlet t).Narrows (u.inlet t)) : u.CoveredBy A := by
  refine ⟨fun t => (k t).obedient (h.obedient t), fun t ht => ?_⟩
  have opened (x : TankIx) (hx : (u.inlet x).isOpen) : (s.inlet x).isOpen := (k x).isOpen (h.obedient x) hx
  exact (h.covers t (opened t ht)).imp_right fun ⟨hm, alone⟩ =>
    ⟨(k t).hostMark (h.obedient t) ht hm, fun x hx => alone x (opened x hx)⟩

theorem quiet (h : s.CoveredBy A) (k : s.Quiet u) : u.CoveredBy A := h.narrowed k.narrows

/-- A command to CLOSED leaves its valve closed, so its tank need not be covered. -/
theorem close (h : s.CoveredBy A) (t : TankIx) (hAB : ∀ x, A x → x = t ∨ B x) :
    (s.command (.tank t .intake) .a).CoveredBy B := by
  refine (h.quiet ((Quiet.refl s).close _)).of_closed fun x hx ho => (hAB x hx).resolve_left fun hxt => ?_
  subst hxt
  rcases (s.command_valve_self .a (h.obedient x)).1 with hf | hb
  · exact ho.2 hf
  · exact hb.not_isOpen ho

/-- A command to OPEN opens its valve alone; a valve under host command is returned before it. -/
theorem openInlet (h : s.CoveredBy A) {t : TankIx} (hAB : ∀ x, A x → B x) (ht : B t) :
    (s.command (.tank t .intake) .b).CoveredBy B := by
  have other (x : TankIx) (hx : x ≠ t) : (Valve.tank x .intake) ≠ .tank t .intake := by simp [hx]
  refine ⟨fun x => ?_, fun x ho => ?_⟩
  · by_cases hx : x = t
    · subst hx
      rcases (s.command_valve_self .b (h.obedient x)).1 with hf | hb
      · exact (ValveRecord.Narrows.of_fault hf).obedient (h.obedient x)
      · exact hb.obedient
    · exact (s.command_narrows_other .b (other x hx)).1.obedient (h.obedient x)
  · by_cases hx : x = t
    · exact .inl (hx ▸ ht)
    · obtain ⟨narrows, returned⟩ := s.command_narrows_other .b (other x hx)
      refine .inl ((h.covers x (narrows.isOpen (h.obedient x) ho)).elim (hAB x) fun ⟨hm, _⟩ => ?_)
      exact absurd ((returned rfl).symm.trans (narrows.hostMark (h.obedient x) ho hm)) (by decide)

end State.CoveredBy

/-! ### What the main holds -/

namespace ProductMain

variable {m : ProductMain}

theorem sources_joined (m : ProductMain) (l : List Source) : ({ m with joined := l }).sources = m.holder.toList ++ l := rfl

theorem lawful.state_ne_unused (h : m.lawful) (hm : m ≠ ProductMain.unused) : m.state ≠ .unused := fun e => hm (h.unused e)

/-- A main whose sources were thinned out is lawful. -/
theorem lawful.thinned (h : m.lawful) {x : Option Source} {l : List Source} (hs : (x.toList ++ l).Sublist m.sources) :
    ({ m with holder := x, joined := l }).lawful := by
  refine ⟨fun hu => ?_, h.opening, h.delivering, h.nodup.sublist hs⟩
  have e := h.unused hu
  subst e
  have nil : x.toList ++ l = [] := List.sublist_nil.mp hs
  obtain ⟨hx, hl⟩ := List.append_eq_nil_iff.mp nil
  cases x
  · rw [hl]
    rfl
  · cases hx

theorem mem_sources {m : ProductMain} {x : Source} : x ∈ m.sources ↔ m.on x = true := by
  simp [sources, on]

end ProductMain
end Sys2Proof.Machine
end

section
/-!
PROOF. Each operation of the Intake Router keeps the law of the intake valves (`State.IntakeLaw`), one lemma per operation, in the
order of Machine/Intake.lean.
-/
namespace Sys2Proof.Machine

/-- A change of the main with its report. -/
theorem State.setMain_quiet (s : State) (m : ProductMain) : (s.setMainRaw m).Quiet (s.setMain m) := by
  simp only [State.setMain]
  exact Quiet.ite (.refl _) ((Quiet.refl _).report _ _ _ _)

@[simp] theorem State.setMain_main (s : State) (m : ProductMain) : (s.setMain m).ir.main = m := (s.setMain_quiet m).main

@[simp] theorem State.command_main (s : State) (v : Valve) (e : ValveEnd) : (s.command v e).ir.main = s.ir.main := by
  rw [(Spares.command_aside s v e).ir]

@[simp] theorem State.release_main (s : State) : s.release.ir.main = ProductMain.unused := by simp [State.release]

/-- What the search for a tank to head for needs: the current tank covered alone, and no source twice. -/
structure State.ReadyToHead (S : Source → Prop) (s : State) : Prop where
  covered : s.CoveredBy fun t => s.ir.main.current = some t
  nodup : s.ir.main.sources.Nodup
  within : ∀ x ∈ s.ir.main.sources, S x

theorem State.ReadyToHead.quiet {S : Source → Prop} {s u : State} (h : s.ReadyToHead S) (k : s.Quiet u) : u.ReadyToHead S := by
  obtain ⟨covered, nodup, within⟩ := h
  refine ⟨?_, by rw [k.main]; exact nodup, by rw [k.main]; exact within⟩
  rw [k.main]
  exact covered.quiet k

namespace State.IntakeLaw

variable {S T : Source → Prop} {s u : State}

theorem quiet (h : s.IntakeLaw S) (k : s.Quiet u) : u.IntakeLaw S := by
  obtain ⟨covered, main, within⟩ := h
  refine ⟨?_, by rw [k.main]; exact main, by rw [k.main]; exact within⟩
  rw [k.main]
  exact covered.quiet k

theorem mono (h : s.IntakeLaw S) (hT : ∀ x ∈ s.ir.main.sources, T x) : s.IntakeLaw T := ⟨h.covered, h.main, hT⟩

theorem ite {c : Prop} [Decidable c] {x y : State} (hx : c → x.IntakeLaw S) (hy : ¬c → y.IntakeLaw S) :
    (if c then x else y).IntakeLaw S := by
  split
  · exact hx ‹_›
  · exact hy ‹_›

/-- The main is replaced by a lawful one whose tanks cover the open valves. -/
theorem setMainRaw {m : ProductMain} (hc : s.CoveredBy m.uses) (hm : m.lawful) (hS : ∀ x ∈ m.sources, S x) :
    (s.setMainRaw m).IntakeLaw S := ⟨⟨hc.obedient, hc.covers⟩, hm, hS⟩

theorem setMain {m : ProductMain} (hc : s.CoveredBy m.uses) (hm : m.lawful) (hS : ∀ x ∈ m.sources, S x) :
    (s.setMain m).IntakeLaw S := (setMainRaw hc hm hS).quiet (s.setMain_quiet m)

/-- A tank joins or leaves the refused set of a main in use. -/
theorem setRefused (h : s.IntakeLaw S) {l : List TankIx} (hl : s.ir.main.state = .unused → l = []) :
    (s.setMainRaw { s.ir.main with refused := l }).IntakeLaw S := by
  refine setMainRaw h.covered ⟨fun hu => ?_, h.main.opening, h.main.delivering, h.main.nodup⟩ h.within
  rw [h.main.unused hu, hl hu]
  rfl

/-- Sources leave the main without a change of its tanks. -/
theorem thinned (h : s.IntakeLaw S) {x : Option Source} {l : List Source} (hs : (x.toList ++ l).Sublist s.ir.main.sources) :
    (s.setMainRaw { s.ir.main with holder := x, joined := l }).IntakeLaw S :=
  setMainRaw h.covered (h.main.thinned hs) fun y hy => h.within y (hs.subset hy)

theorem joined_erase (m : ProductMain) (x : Source) : (m.holder.toList ++ m.joined.erase x).Sublist m.sources :=
  List.Sublist.append_left List.erase_sublist _

/-- A joined source leaves the main. -/
theorem unjoined (h : s.IntakeLaw S) (x : Source) :
    (s.setMainRaw { s.ir.main with joined := s.ir.main.joined.erase x }).IntakeLaw S :=
  h.thinned (x := s.ir.main.holder) (joined_erase _ x)

/-! ### The product main -/

theorem shedOne (h : s.IntakeLaw S) (x : Source) : (s.shedOne x).IntakeLaw S := by
  unfold State.shedOne
  split
  · refine ite (fun _ => h) fun _ => ?_
    exact ((h.quiet ((Quiet.refl s).dropRoute x)).unjoined x).quiet ((Quiet.refl _).turnAway _ _)
  · exact h

theorem foldl {α : Type} {f : State → α → State} (hf : ∀ x a, x.IntakeLaw S → (f x a).IntakeLaw S) (l : List α)
    (h : s.IntakeLaw S) : (l.foldl f s).IntakeLaw S := by
  induction l generalizing s with
  | nil => exact h
  | cons a l ih => exact ih (hf _ _ h)

theorem shedJoined (h : s.IntakeLaw S) : s.shedJoined.IntakeLaw S := foldl (fun _ x hx => hx.shedOne x) _ h

/-- A main that heads for a tank: its valve is opened, and those of the current tank and of this one may stand open. -/
theorem headFor (h : s.ReadyToHead S) {t : TankIx} {st : MainState} (hu : st ≠ .unused) (hd : st ≠ .delivering)
    (ho : st = .opening → s.ir.main.current = none) : (s.headFor t st).IntakeLaw S := by
  have moved : ((s.setMain { s.ir.main with state := st, next := some t }).command (.tank t .intake) .b).IntakeLaw S := by
    refine ⟨?_, ?_, ?_⟩
    · rw [command_main, setMain_main]
      have kept : (s.setMain { s.ir.main with state := st, next := some t }).CoveredBy fun u => s.ir.main.current = some u :=
        CoveredBy.quiet (s := s.setMainRaw { s.ir.main with state := st, next := some t })
          ⟨h.covered.obedient, h.covered.covers⟩ (s.setMain_quiet _)
      exact kept.openInlet (fun _ => .inl) (.inr rfl)
    · rw [command_main, setMain_main]
      exact ⟨fun e => absurd e hu, ho, fun e => absurd e hd, h.nodup⟩
    · rw [command_main, setMain_main]
      exact h.within
  exact moved.shedJoined

/-- In DELIVERING the current tank is the only one. -/
theorem readyToHead_of_next (h : s.IntakeLaw S) (hn : s.ir.main.next = none) : s.ReadyToHead S :=
  ⟨h.covered.mono fun _ ht => ht.resolve_right (by simp [hn]), h.main.nodup, h.within⟩

theorem changeover (h : s.IntakeLaw S) (hs : s.ir.main.state = .delivering) : s.changeover.1.IntakeLaw S := by
  simp only [State.changeover]
  split
  · exact headFor (h.readyToHead_of_next (h.main.delivering hs)) (by decide) (by decide) fun e => nomatch e
  · exact h

/-- A next tank that is given up is closed, or in FAULT and so not open. -/
theorem closeNext (h : s.IntakeLaw S) : s.closeNext.ReadyToHead S ∧ s.closeNext.ir.main = s.ir.main := by
  unfold State.closeNext
  split
  · next t hn =>
    split
    · next hf =>
      refine ⟨⟨h.covered.of_closed fun u hu ho => hu.resolve_right fun k => ?_, h.main.nodup, h.within⟩, rfl⟩
      obtain rfl : t = u := Option.some.inj (hn.symm.trans k)
      exact ho.2 hf
    · refine ⟨⟨?_, ?_, ?_⟩, command_main s _ _⟩
      · rw [command_main]
        refine h.covered.close t fun u hu => ?_
        exact hu.symm.imp_left fun k => Option.some.inj (k.symm.trans hn)
      · rw [command_main]
        exact h.main.nodup
      · rw [command_main]
        exact h.within
  · next hn => exact ⟨h.readyToHead_of_next hn, rfl⟩

/-- A main without next tank. -/
theorem withoutNext (h : s.ReadyToHead S) (hm : s.ir.main.lawful) :
    (s.setMainRaw { s.ir.main with next := none }).IntakeLaw S := by
  refine setMainRaw (h.covered.mono fun _ => .inl) ⟨fun hu => ?_, hm.opening, fun _ => rfl, hm.nodup⟩ h.within
  rw [hm.unused hu]
  rfl

theorem chooseAgain (h : s.ReadyToHead S) (hm : s.ir.main.lawful) (hs : s.ir.main.state ≠ .delivering) :
    s.chooseAgain.1.IntakeLaw S := by
  unfold State.chooseAgain
  split
  · exact withoutNext h hm
  · next c hc =>
    split
    · have kept : ({ s.ir.main with state := .delivering, next := none } : ProductMain).lawful :=
        ⟨fun (e : MainState.delivering = .unused) => (nomatch e), fun (e : MainState.delivering = .opening) => (nomatch e),
          fun _ => rfl, h.nodup⟩
      exact (setMain (m := { s.ir.main with state := .delivering, next := none }) (h.covered.mono fun _ => .inl) kept
        h.within).shedJoined
    · split
      · refine headFor h (fun hu => ?_) hs hm.opening
        rw [hm.unused hu] at hc
        cases hc
      · exact withoutNext h hm

theorem loseNext (h : s.IntakeLaw S) (hs : s.ir.main.state ≠ .delivering) : s.loseNext.1.IntakeLaw S := by
  rw [State.loseNext_eq]
  obtain ⟨ready, hmain⟩ := h.closeNext
  exact chooseAgain ready (hmain ▸ h.main) (hmain ▸ hs)

/-- A main with a next tank does not deliver. -/
theorem not_delivering (h : s.IntakeLaw S) {t : TankIx} (hn : s.ir.main.next = some t) : s.ir.main.state ≠ .delivering := fun hs =>
  nomatch (h.main.delivering hs).symm.trans hn

/-- Tanks whose intake valves are closed, one after another. -/
theorem covered_closeAll {A : TankIx → Prop} {f : State → TankIx → State}
    (hf : ∀ (x : State) (t : TankIx), (x.command (.tank t .intake) .a).Quiet (f x t) ∨
      ((x.inlet t).state = .fault ∧ x.Quiet (f x t))) (o : Option TankIx) (h : s.CoveredBy fun t => o = some t ∨ A t) :
    (o.toList.foldl f s).CoveredBy A ∧ (o.toList.foldl f s).ir.main = s.ir.main := by
  cases o with
  | none => exact ⟨h.mono fun t ht => ht.resolve_left (by simp), rfl⟩
  | some t =>
    rcases hf s t with k | ⟨hfault, k⟩
    · exact ⟨(h.close t fun u hu => hu.imp_left fun e => (Option.some.inj e).symm).quiet k, k.main.trans (command_main s _ _)⟩
    · refine ⟨(h.of_closed fun u hu ho => hu.resolve_left fun e => ?_).quiet k, k.main⟩
      obtain rfl := Option.some.inj e
      exact ho.2 hfault

/-- A released main holds nothing, and no tank's valve stands open for it (R85). -/
theorem release (h : s.IntakeLaw S) : s.release.IntakeLaw S := by
  have closes (x : State) (t : TankIx) : (x.command (.tank t .intake) .a).Quiet (x.command (.tank t .intake) .a) ∨
      ((x.inlet t).state = .fault ∧ x.Quiet (x.command (.tank t .intake) .a)) := .inl (.refl _)
  obtain ⟨noCurrent, -⟩ := covered_closeAll closes s.ir.main.current h.covered
  obtain ⟨closed, -⟩ := covered_closeAll (A := fun _ => False) closes s.ir.main.next (noCurrent.mono fun _ => .inl)
  have ended := closed.quiet (Quiet.foldl (fun _ t k => k.entryEnd t .intake) s.ir.main.current.toList (.refl _))
  have unused : ProductMain.unused.lawful := ⟨fun _ => rfl, fun _ => rfl, fun _ => rfl, List.nodup_nil⟩
  exact (setMain (ended.mono fun _ => False.elim) unused fun x hx => nomatch hx).quiet ((Quiet.refl _).emit _)

theorem tankForHolder (h : s.IntakeLaw S) : s.tankForHolder.1.IntakeLaw S := by
  unfold State.tankForHolder
  dsimp only
  generalize (match s.ir.main.heading, s.ir.main.cls with
    | some t, some c => s.holderGroup.contains t && s.canAccept c t
    | _, _ => false) = keeps
  rw [apply_ite Prod.fst, apply_ite Prod.fst]
  exact ite (fun _ => h) fun _ => ite (fun hs => h.changeover hs) fun hs => h.loseNext hs

theorem leaveMain (h : s.IntakeLaw S) (n : Nat) (x : Source) : (s.leaveMain n x).IntakeLaw S := by
  induction n generalizing s x with
  | zero => exact h
  | succ n ih =>
    have left := h.quiet ((Quiet.refl s).dropRoute x)
    simp only [State.leaveMain]
    refine ite (fun _ => left.unjoined x) fun _ => ite (fun hh => ?_) fun _ => left
    split
    · exact left.release
    · next g rest hj =>
      have followed := (left.thinned (x := some g) (l := rest) (by
        simp only [ProductMain.sources, hh, hj]
        exact List.sublist_cons_self _ _)).tankForHolder
      exact ite (fun _ => followed) fun _ => (ih followed g).quiet ((Quiet.refl _).turnAway _ _)

/-- A source that has left the main is not on it. -/
theorem leaveMain_left (h : s.IntakeLaw S) (n : Nat) (x : Source) : (s.leaveMain (n + 1) x).IntakeLaw fun y => S y ∧ y ≠ x := by
  have left := h.quiet ((Quiet.refl s).dropRoute x)
  have nodup := left.main.nodup
  simp only [State.leaveMain]
  refine ite (fun hj => ?_) fun hj => ite (fun hh => ?_) fun hh => ?_
  · refine (left.unjoined x).mono fun y hy => ⟨(left.unjoined x).within y hy, fun e => ?_⟩
    subst e
    have hjoined : y ∈ _ := List.contains_iff_mem.mp hj
    rw [ProductMain.sources, List.nodup_append] at nodup
    obtain ⟨-, hnd, hdis⟩ := nodup
    rcases List.mem_append.mp hy with hholder | herased
    · exact hdis y hholder y hjoined rfl
    · exact (List.Nodup.not_mem_erase hnd) herased
  · split
    · exact left.release.mono fun y hy => by
        rw [release_main] at hy
        cases hy
    · next g rest hj' =>
      have followed := (left.thinned (x := some g) (l := rest) (by
        simp only [ProductMain.sources, hh, hj']
        exact List.sublist_cons_self _ _))
      have without := (followed.mono (T := fun y => S y ∧ y ≠ x) fun y hy => ⟨followed.within y hy, fun e => by
        subst e
        simp only [ProductMain.sources, hh, hj'] at nodup
        exact (List.nodup_cons.mp nodup).1 hy⟩).tankForHolder
      exact ite (fun _ => without) fun _ => (without.leaveMain n g).quiet ((Quiet.refl _).turnAway _ _)
  · refine left.mono fun y hy => ⟨left.within y hy, fun e => ?_⟩
    subst e
    rcases List.mem_append.mp hy with hholder | hjoined
    · exact hh (by simpa using hholder)
    · exact hj (List.contains_iff_mem.mpr hjoined)

theorem holderOverflow (h : s.IntakeLaw S) : s.holderOverflow.IntakeLaw S := by
  unfold State.holderOverflow
  split
  · exact (h.leaveMain _ _).quiet ((Quiet.refl _).turnAway _ _)
  · exact h

theorem orOverflow {r : State × Bool} (h : r.1.IntakeLaw S) : (State.orOverflow r).IntakeLaw S :=
  ite (fun _ => h) fun _ => h.holderOverflow

/-! ### Interruption and opening -/

/-- A main that heads anew has no current tank. -/
theorem headAnew {next : Option TankIx} (hn : s.ir.main.next = next) (h : s.CoveredBy fun t => next = some t)
    (hnodup : s.ir.main.sources.Nodup) (hS : ∀ x ∈ s.ir.main.sources, S x) (c : Option QClass) :
    (s.headAnew next c).IntakeLaw S := by
  have opening : ({ s.ir.main with state := .opening, current := none } : ProductMain).lawful :=
    ⟨fun (e : MainState.opening = .unused) => (nomatch e), fun _ => rfl, fun (e : MainState.opening = .delivering) => (nomatch e),
      hnodup⟩
  have covered := h.mono (B := ({ s.ir.main with state := .opening, current := none } : ProductMain).uses)
    fun _ ht => .inr (hn.trans ht)
  unfold State.headAnew
  split
  · exact setMain covered opening hS
  · have opened := setMainRaw covered opening hS
    dsimp only
    split
    · exact headFor (opened.readyToHead_of_next hn) (by decide) (by decide) fun _ => rfl
    · exact opened.holderOverflow

theorem interrupt (h : s.IntakeLaw S) : s.interrupt.IntakeLaw S := by
  have shut := Quiet.foldl (fun _ x k => k.interruptSource x) s.ir.main.sources (.refl s)
  have closes (x : State) (t : TankIx) : (x.command (.tank t .intake) .a).Quiet (x.interruptTank t) ∨
      ((x.inlet t).state = .fault ∧ x.Quiet (x.interruptTank t)) := by
    unfold State.interruptTank
    split
    · next hf => exact .inr ⟨hf, (Quiet.refl _).entryEnd _ _⟩
    · exact .inl ((Quiet.refl _).entryEnd _ _)
  obtain ⟨covered, hmain⟩ := covered_closeAll (A := fun t => s.ir.main.next = some t) closes s.ir.main.current
    (h.covered.quiet shut)
  have main := hmain.trans shut.main
  rw [State.interrupt_eq]
  exact headAnew (by rw [main]) covered (by rw [main]; exact h.main.nodup) (by rw [main]; exact h.within) _

end State.IntakeLaw
end Sys2Proof.Machine
end

section
/-!
PROOF. The law of the intake valves under decisions, notices, signals and requests, and under every step; and with it the number
of intake valves that stand open.
-/
namespace Sys2Proof.Machine

namespace State

/-- The law of the intake valves with any sources on the main. -/
abbrev IntakeLawful (s : State) : Prop := s.IntakeLaw fun _ => True

namespace IntakeLaw

variable {S : Source → Prop} {s u : State}

theorem lawful (h : s.IntakeLaw S) : s.IntakeLawful := h.mono fun _ _ => trivial

/-- The next tank's valve has opened: it becomes the current one, or the choice is made again (R83, R86). -/
theorem nextOpened (h : s.IntakeLawful) {t : TankIx} (hn : s.ir.main.next = some t) : (s.nextOpened t).IntakeLawful := by
  unfold State.nextOpened
  split
  · exact h
  · next c _ =>
    have noted := h.quiet ((Quiet.refl s).entryNotice t .intake c)
    have hn' : (s.entryNotice t .intake c).2.ir.main.next = some t := by
      rw [((Quiet.refl s).entryNotice t .intake c).main]
      exact hn
    dsimp only
    generalize (s.entryNotice t .intake c).2 = y at noted hn'
    have notUnused : y.ir.main.state ≠ .unused := fun hu => by
      rw [noted.main.unused hu] at hn'
      cases hn'
    have delivers (cur : Option TankIx) {x : State} (hx : x.ir.main = y.ir.main) :
        ({ x.ir.main with state := .delivering, current := cur, next := none } : ProductMain).lawful :=
      ⟨fun (e : MainState.delivering = .unused) => (nomatch e), fun (e : MainState.delivering = .opening) => (nomatch e),
        fun _ => rfl, by rw [hx]; exact noted.main.nodup⟩
    split
    · refine orOverflow (IntakeLaw.loseNext (noted.setRefused fun hu => absurd hu notUnused) ?_)
      exact noted.not_delivering hn'
    · refine ite (fun _ => ?_) fun hch => ?_
      · have closes (x : State) (v : TankIx) :
            (x.command (.tank v .intake) .a).Quiet ((x.command (.tank v .intake) .a).entryEnd v .intake) ∨
            ((x.inlet v).state = .fault ∧ x.Quiet ((x.command (.tank v .intake) .a).entryEnd v .intake)) :=
          .inl ((Quiet.refl _).entryEnd _ _)
        obtain ⟨covered, hmain⟩ := covered_closeAll closes y.ir.main.current noted.covered
        exact setMain (covered.mono fun v hv => .inl (hn'.symm.trans hv)) (delivers _ hmain) fun _ _ => trivial
      · have noCurrent : y.ir.main.current = none := by
          cases hs : y.ir.main.state with
          | unused => exact absurd hs notUnused
          | opening => exact noted.main.opening hs
          | delivering => exact absurd hs (noted.not_delivering hn')
          | changing => exact absurd hs hch
        have covered : y.CoveredBy fun v => some t = some v :=
          noted.covered.mono fun v hv => hn'.symm.trans (hv.resolve_left (by simp [noCurrent]))
        have delivering := setMain (S := fun _ => True) (covered.mono fun _ => .inl) (delivers (some t) rfl) fun _ _ => trivial
        exact delivering.quiet (Quiet.foldl (fun _ x k => k.openOutlet x) _ (.refl _))

/-! ### Decisions -/

/-- A source that is not on the main takes it, joins it, or is kept off. -/
theorem ask (h : s.IntakeLaw S) {x : Source} (hx : x ∉ s.ir.main.sources) (rt : Route) : (s.ask x rt).IntakeLawful := by
  have routed := h.lawful.quiet ((Quiet.refl s).updSource x fun r => { r with route := some rt })
  unfold State.ask
  dsimp only
  refine ite (fun hu => ?_) fun hu => ite (fun _ => ?_) fun _ => h.lawful.quiet ((Quiet.refl s).keepOff _ _)
  · have unused := h.main.unused hu
    split
    · refine IntakeLaw.quiet (headFor ⟨?_, ?_, fun _ _ => trivial⟩ (by decide) (by decide) fun _ => ?_)
        ((Quiet.refl _).setOnMain x)
      · refine ⟨routed.covered.obedient, fun t ht => (routed.covered.covers t ht).imp_left fun hc => ?_⟩
        rw [updSource_main, unused] at hc
        exact hc.elim (fun e => nomatch e) fun e => nomatch e
      · exact List.nodup_singleton x
      · simp [unused, ProductMain.unused]
    · exact h.lawful.quiet ((Quiet.refl s).keepOff _ _)
  · have placed := routed.quiet ((Quiet.refl _).setOnMain x)
    have hmain : ((s.updSource x fun r => { r with route := some rt }).setOnMain x).ir.main = s.ir.main := by
      rw [((Quiet.refl _).setOnMain x).main, updSource_main]
    have joined : (((s.updSource x fun r => { r with route := some rt }).setOnMain x).setMainRaw
        { s.ir.main with joined := s.ir.main.joined ++ [x] }).IntakeLawful := by
      refine setMainRaw (hmain ▸ placed.covered) ⟨fun e => absurd e hu, h.main.opening, h.main.delivering, ?_⟩ fun _ _ => trivial
      rw [ProductMain.sources, ← List.append_assoc]
      exact List.nodup_append.mpr ⟨h.main.nodup, List.nodup_singleton x, fun a ha b hb e =>
        hx (List.mem_singleton.mp hb ▸ e ▸ ha)⟩
    exact ite (fun _ => joined.quiet ((Quiet.refl _).openOutlet x)) fun _ => joined

theorem endShore (h : s.IntakeLawful) (e : EndReason) : (s.endShore e).IntakeLawful := by
  unfold State.endShore
  refine ite (fun _ => h) fun _ => ?_
  have closed : (if s.ir.main.on .shore then s.leaveMain 4 .shore else s.command .shore .a).IntakeLawful :=
    ite (fun _ => h.leaveMain _ _) fun _ => h.quiet ((Quiet.refl s).close _)
  exact closed.quiet (((Quiet.refl _).updSource _ _).setShore _ _)

theorem decideFor (h : s.IntakeLawful) (x : Source) : (s.decideFor x).IntakeLawful := by
  have ruled (rule : Option Nat) := h.quiet ((Quiet.refl s).updSource x fun r => { r with rule := rule })
  have off (rule : Option Nat) {y : State} (hon : ¬(s.updSource x fun r => { r with rule := rule }).ir.main.on x = true)
      (hy : (s.updSource x fun r => { r with rule := rule }).Quiet y) : x ∉ y.ir.main.sources := by
    rw [hy.main, ProductMain.mem_sources]
    exact hon
  unfold State.decideFor
  dsimp only
  split
  · exact ite (fun _ => ((ruled _).leaveMain _ _).quiet ((Quiet.refl _).turnAway _ _)) fun _ =>
      (ruled _).quiet ((Quiet.refl _).keepOff _ _)
  · exact (ruled _).endShore _
  · refine ite (fun _ => ite (fun _ => (ruled _).quiet ((Quiet.refl _).updSource _ _)) fun _ => ?_) fun hon =>
      ite (fun hp => ?_) fun _ => (ruled _).ask (off _ hon (.refl _)) _
    · have left := (ruled (s.outcome x).1).leaveMain_left 3 x
      exact left.ask (fun hx => (left.within x hx).2 rfl) _
    · obtain ⟨rfl, -⟩ := hp
      have opened := (Quiet.refl (s.updSource .shore fun r => { r with rule := (s.outcome .shore).1 })).setShore .opening none
      exact ((ruled _).quiet opened).ask (off _ hon opened) _

theorem decideIf (h : s.IntakeLawful) (x : Source) : (s.decideIf x).IntakeLawful := ite (fun _ => h.decideFor x) fun _ => h

theorem decideAll (h : s.IntakeLawful) : s.decideAll.IntakeLawful := foldl (fun _ x hx => hx.decideIf x) _ h

/-! ### Notices and answers -/

theorem mainOnTank (h : s.IntakeLawful) (t : TankIx) : (s.mainOnTank t).IntakeLawful := by
  simp only [State.mainOnTank]
  split
  · exact h
  · refine ite (fun _ => h.interrupt) fun _ => ite (fun hn => ?_) fun _ => ite (fun hd => ?_) fun _ => h
    · exact (h.loseNext (h.not_delivering hn.1)).orOverflow
    · exact (h.changeover hd.2.1).orOverflow

theorem intakeTank (h : s.IntakeLawful) (t : TankIx) : (s.intakeTank t).IntakeLawful := by
  refine IntakeLaw.decideAll (IntakeLaw.mainOnTank (h.setRefused fun hu => ?_) t)
  rw [h.main.unused hu]
  rfl

theorem intakeConflict (h : s.IntakeLawful) (t : TankIx) : (s.intakeConflict t).IntakeLawful :=
  decideAll (ite (fun _ => h.interrupt) fun _ => h)

theorem intakeValve (h : s.IntakeLawful) (v : Valve) (a : ValveAnswer) : (s.intakeValve v a).IntakeLawful := by
  simp only [State.intakeValve]
  refine decideAll ?_
  split
  · exact ite (fun hn => h.nextOpened hn) fun _ => h
  · exact ite (fun hn => (h.loseNext (h.not_delivering hn)).orOverflow) fun _ => ite (fun _ => h.interrupt) fun _ => h
  · exact h.quiet ((Quiet.refl s).inhibit _ _)
  · exact ite (fun _ => h.quiet ((Quiet.refl s).setShore _ _)) fun _ => h
  · exact h.endShore _
  · exact h

/-! ### Run signals, checks and requests -/

theorem makerRise (h : s.IntakeLawful) (w : Watermaker) : (s.makerRise w).IntakeLawful := by
  have risen := h.quiet (((((Quiet.refl s).setMaker w .flushing none).setGrade w.source .bad).close (.diverter w)).updSource
    w.source fun r => { r with flush := some (after (((s.setMaker w .flushing none).setGrade w.source .bad).command
      (.diverter w) .a).clock (r.settings.flushTime * 10)) })
  simp only [State.makerRise]
  exact ite (fun _ => ite (fun _ => risen) fun _ => risen.decideAll) fun _ => h

theorem makerFall (h : s.IntakeLawful) (w : Watermaker) : (s.makerFall w).IntakeLawful := by
  have fallen := h.quiet (((Quiet.refl s).setMaker w .stopped none).updSource w.source fun r =>
    { r with flush := none, dump := none, rule := none })
  simp only [State.makerFall]
  exact ite (fun _ => ite (fun _ => fallen.leaveMain _ _) fun _ => fallen.quiet ((Quiet.refl _).close _)) fun _ => h

theorem conductivity (h : s.IntakeLawful) (x : Source) (v : Nat) : (s.conductivity x v).IntakeLawful := by
  have graded := fun g n w => h.quiet ((Quiet.refl s).updSource x fun r =>
    { r with last := some (min v 9999), grade := g, counter := n, worst := w })
  simp only [State.conductivity]
  exact ite (fun _ => h.quiet ((Quiet.refl s).updSource _ _)) fun _ => ite (fun _ => graded _ _ _) fun _ =>
    ((graded _ _ _).quiet ((Quiet.refl _).report _ _ _ _)).decideAll

theorem intakeMode (h : s.IntakeLawful) (old new : Mode) : (s.intakeMode old new).IntakeLawful := by
  have ended : (if old = .harbour then s.endShore (if new = .fallback then .fallback else .mode) else s).IntakeLawful :=
    ite (fun _ => h.endShore _) fun _ => h
  have permitted := ended.quiet (((Quiet.refl _).updatePermit .wm1).updatePermit .wm2)
  have rise {y : State} (w : Watermaker) (b : Bool) (hy : y.IntakeLawful) : (if b then y.makerRise w else y).IntakeLawful :=
    ite (fun _ => hy.makerRise w) fun _ => hy
  simp only [State.intakeMode]
  exact decideAll (ite (fun _ => rise _ _ (rise _ _ permitted)) fun _ => permitted)

theorem setSource (h : s.IntakeLawful) (x : Source) (v : SourceSettings) : (s.setSource x v).IntakeLawful := by
  have stored := (Quiet.refl s).updSource x fun r => { r with settings := v, counter := 0, worst := none }
  have expired (w : Watermaker) (t : Clock) {y : State} (hy : s.Quiet y) :
      s.Quiet (if v.dumpLimit * 10 ≤ elapsed y.clock t then y.dumpExpired w else y) := Quiet.ite (hy.dumpExpired w) hy
  simp only [State.setSource]
  refine decideAll (h.quiet ?_)
  split
  · split
    · exact expired .wm1 _ stored
    · exact stored
  · split
    · exact expired .wm2 _ stored
    · exact stored
  · exact stored

theorem endFlush (h : s.IntakeLawful) (w : Watermaker) : (s.endFlush w).IntakeLawful := by
  simp only [State.endFlush]
  exact ite (fun _ => (h.quiet ((Quiet.refl s).updSource _ _)).decideFor _) fun _ => h

theorem endCheck (h : s.IntakeLawful) (x : Source) : (s.endCheck x).IntakeLawful :=
  (h.quiet (((Quiet.refl s).updSource _ _).report _ _ _ _)).decideAll

theorem beginCheck (h : s.IntakeLawful) (x : Source) : (s.beginCheck x).IntakeLawful :=
  decideAll (h.quiet ((Quiet.refl s).updSource x fun r => { r with check := some (after s.clock 200), checkSample := none }))

theorem openShore (h : s.IntakeLawful) : s.openShore.IntakeLawful :=
  decideFor (h.quiet ((Quiet.refl s).setShore .opening none)) .shore

theorem keepDumpTimers (h : s.IntakeLawful) : s.keepDumpTimers.IntakeLawful :=
  h.quiet (((Quiet.refl s).keepDumpTimer .wm1).keepDumpTimer .wm2)

/-! ### The host's command (R61) -/

/-- The host opens an intake valve alone: none other stands open. -/
theorem anotherOpen_eq_false {t u : TankIx} (h : ¬s.anotherOpen (.tank t .intake) = true) (ho : (s.inlet u).isOpen) : u = t := by
  by_contra hne
  refine h (List.any_eq_true.mpr ⟨u, List.mem_finRange u, ?_⟩)
  simpa [hne] using (s.commandedOpen_iff _).mpr ho

theorem hostCommand (h : s.IntakeLawful) {v : Valve} {e : ValveEnd} (ho : ¬(e = .b ∧ s.anotherOpen v = true)) :
    (s.hostCommand v e).IntakeLawful := by
  obtain ⟨covered, main, within⟩ := h
  have aside : s.Aside (s.hostCommand v e) := .of_hostCommand v e
  have other (t : TankIx) (ht : Valve.tank t .intake ≠ v) : (s.hostCommand v e).inlet t = s.inlet t := by
    rw [inlet, State.hostCommand, drive_valve_other _ _ ht, updValve_valve_other _ _ ht]
  have bound (hv : (s.valve v).obedient) :
      ((s.hostCommand v e).valve v).BoundFor e ∧ ((s.hostCommand v e).valve v).hostMark = true := by
    obtain ⟨hb, hm⟩ := drive_boundFor (s.updValve v fun r => { r with hostMark := true, driver := .host, resetting := false })
      (v := v) e (by rw [updValve_valve_self]; exact hv)
    exact ⟨hb, hm.trans (by rw [updValve_valve_self])⟩
  refine ⟨?_, by rw [aside.ir]; exact main, by rw [aside.ir]; exact within⟩
  rw [aside.ir]
  by_cases hv : ∃ t, Valve.tank t .intake = v
  · obtain ⟨t, rfl⟩ := hv
    obtain ⟨hbound, hmark⟩ := bound (covered.obedient t)
    have ne (x : TankIx) (hx : x ≠ t) : Valve.tank x .intake ≠ .tank t .intake := by simp [hx]
    refine ⟨fun x => ?_, fun x hx => ?_⟩
    · by_cases hxt : x = t
      · exact hxt ▸ hbound.obedient
      · exact other x (ne x hxt) ▸ covered.obedient x
    · cases e with
      | a =>
        have hxt : x ≠ t := fun k => absurd (k ▸ hx) hbound.not_isOpen
        rw [other x (ne x hxt)] at hx
        refine (covered.covers x hx).imp_right fun ⟨hm, alone⟩ => ⟨by rw [other x (ne x hxt)]; exact hm, fun y hy => ?_⟩
        have hyt : y ≠ t := fun k => absurd (k ▸ hy) hbound.not_isOpen
        exact alone y (other y (ne y hyt) ▸ hy)
      | b =>
        have alone (y : TankIx) (hy : ((s.hostCommand (.tank t .intake) .b).inlet y).isOpen) : y = t := by
          by_contra hyt
          exact hyt (anotherOpen_eq_false (fun k => ho ⟨rfl, k⟩) (other y (ne y hyt) ▸ hy))
        obtain rfl := alone x hx
        exact .inr ⟨hmark, alone⟩
  · have same (t : TankIx) := other t fun k => hv ⟨t, k⟩
    exact covered.narrowed fun t => by rw [same]; exact .refl _

end IntakeLaw

/-! ### Every step -/

theorem begin_intakeLawful (s : State) (c : ResetCause) (k : Kept) : (s.begin c k).IntakeLawful := by
  have closed (t : TankIx) : ((s.begin c k).inlet t).BoundFor .a := by
    simp only [inlet, valve, State.begin, ActuatorUnit.start, Fin.getElem_fin, Vector.tabulate_getElem, ValveRecord.start]
    refine ⟨rfl, ?_⟩
    dsimp only
    split
    · exact .inl rfl
    · exact .inr rfl
  exact ⟨⟨fun t => (closed t).obedient, fun t ht => absurd ht (closed t).not_isOpen⟩,
    ⟨fun _ => rfl, fun _ => rfl, fun _ => rfl, List.nodup_nil⟩, fun _ _ => trivial⟩

theorem intakeLawful_routerLaw : RouterLaw IntakeLawful where
  spares h k := h.quiet ((Quiet.refl _).spares k)
  popped h _ _ := h.quiet (Quiet.of_same rfl rfl)
  hostCommand h _ _ ho := h.hostCommand ho
  setSource x v h := h.setSource x v
  permitSwitch w g h := h.quiet ((Quiet.refl _).permitSwitch w g)
  setRules _ h := h.quiet (Quiet.of_same rfl rfl)
  decideAll h := h.decideAll
  openShore h := h.openShore
  endShore e h := h.endShore e
  beginCheck x h := h.beginCheck x
  endCheck x h := h.endCheck x
  conductivity x v h := h.conductivity x v
  makerRise w h := h.makerRise w
  makerFall w h := h.makerFall w
  endFlush w h := h.endFlush w
  dumpExpired w h := h.quiet ((Quiet.refl _).dumpExpired w)
  sourcePulse x h := h.quiet ((Quiet.refl _).sourcePulse x)
  keepDumpTimers h := h.keepDumpTimers
  intakeTank t h := h.intakeTank t
  intakeConflict t h := h.intakeConflict t
  intakeValve v a h := h.intakeValve v a
  intakeMode {s old new rest} h _ :=
    IntakeLaw.intakeMode (s := { s with msgs := rest }) (h.quiet (Quiet.of_same rfl rfl)) old new
  updMode _ h := h.quiet (Quiet.of_same rfl rfl)
  changeMode _ _ h := h.quiet (Quiet.of_same rfl rfl)
  begin s c k := begin_intakeLawful s c k
  takeImage _ h := h.quiet ⟨rfl, fun _ => .refl _⟩

/-! ### How many valves stand open -/

/-- A list without repetition whose members are all one tank, or all of a given list, is no longer than that. -/
theorem length_le_of_covered {l m : List TankIx} (hl : l.Nodup) (h : (∃ t, ∀ u ∈ l, u = t) ∨ ∀ u ∈ l, u ∈ m) :
    l.length ≤ max 1 m.length := by
  rcases h with ⟨t, h⟩ | h
  · exact le_max_of_le_left ((List.subperm_of_subset hl fun u hu => List.mem_singleton.mpr (h u hu)).length_le)
  · exact le_max_of_le_right (List.subperm_of_subset hl h).length_le

theorem intakeValvesOpen_le {s : State} (h : s.IntakeLawful) :
    s.intakeValvesOpen ≤ if s.ir.main.state = .changing then 2 else 1 := by
  obtain ⟨covered, main, -⟩ := h
  have covers : (∃ t, ∀ u ∈ (List.finRange 12).filter (fun t => s.commandedOpen (.tank t .intake)), u = t) ∨
      ∀ u ∈ (List.finRange 12).filter (fun t => s.commandedOpen (.tank t .intake)),
        u ∈ s.ir.main.current.toList ++ s.ir.main.next.toList := by
    have isOpen {u : TankIx} (hu : u ∈ (List.finRange 12).filter fun t => s.commandedOpen (.tank t .intake)) :
        (s.inlet u).isOpen := (s.commandedOpen_iff _).mp (List.mem_filter.mp hu).2
    by_cases hlone : ∃ t, s.loneHost t
    · obtain ⟨t, -, alone⟩ := hlone
      exact .inl ⟨t, fun u hu => alone u (isOpen hu)⟩
    · refine .inr fun u hu => ?_
      have uses := (covered.covers u (isOpen hu)).resolve_right fun k => hlone ⟨u, k⟩
      simpa [ProductMain.uses] using uses
  have bound := length_le_of_covered ((List.nodup_finRange 12).filter _) covers
  refine bound.trans ?_
  have hcur : s.ir.main.current.toList.length ≤ 1 := by cases s.ir.main.current <;> simp
  have hnext : s.ir.main.next.toList.length ≤ 1 := by cases s.ir.main.next <;> simp
  rw [List.length_append]
  cases hs : s.ir.main.state with
  | unused => simp [main.unused hs, ProductMain.unused]
  | opening => simp [main.opening hs, hnext]
  | delivering => simp [main.delivering hs, hcur]
  | changing => simp only [if_true]; omega

end State
end Sys2Proof.Machine
end

section
open Sys2Proof Sys2Proof.Machine

/-- Settles O56: each operation of the router keeps the law, and no other opens an intake valve beside the host's command, which
opens one alone. -/
theorem stepsKeepTheIntakeValveLaw : Obligations.StepsKeepTheIntakeValveLaw := by
  intro s u hlaw hstep
  have lawful := State.intakeLawful_routerLaw.keptByCommands.step (s.intakeValveLaw_iff.mp hlaw) hstep
  exact ⟨u.intakeValveLaw_iff.mpr lawful, State.intakeValvesOpen_le lawful⟩
end

section
/-!
PROOF. The commands to the valves neither look at nor touch what stands beside the Actuator Unit, the clock and the notices: they
commute with any change beside these (`State.BesideActuators`).
-/
namespace Sys2Proof.Machine
namespace State

/-- A change of the state beside the valves, the clock, the notices in flight and their order. -/
structure BesideActuators (g : State → State) : Prop where
  au : ∀ s, (g s).au = s.au
  clock : ∀ s, (g s).clock = s.clock
  updValve : ∀ (s : State) (v : Valve) (f : ValveRecord → ValveRecord), (g s).updValve v f = g (s.updValve v f)
  emit : ∀ (s : State) (m : Msg), (g s).emit m = g (s.emit m)
  tell : ∀ (s : State) (ms : List Msg), (g s).tell ms = g (s.tell ms)

namespace BesideActuators

variable {g : State → State} (h : BesideActuators g) (s : State) (v : Valve) (e : ValveEnd)
include h

theorem valve (w : Valve) : (g s).valve w = s.valve w := by rw [State.valve, h.au, State.valve]

theorem arrive : (g s).arrive v e = g (s.arrive v e) := by
  simp only [State.arrive, h.valve, h.clock, h.updValve]
  split
  · exact h.emit _ _
  · exact h.tell _ _
  · rfl

theorem startMove : (g s).startMove v e = g (s.startMove v e) := by
  simp only [State.startMove, h.au, h.clock, h.updValve, h.valve, h.arrive, apply_ite g]

theorem drive : (g s).drive v e = g (s.drive v e) := by
  simp only [State.drive, h.valve, h.startMove, apply_ite g]

theorem returnValve : (g s).returnValve v = g (s.returnValve v) := by
  simp only [State.returnValve, h.valve, h.updValve, h.drive, apply_ite g]

theorem foldl_returnValve (l : List Valve) : l.foldl State.returnValve (g s) = g (l.foldl State.returnValve s) := by
  induction l generalizing s with
  | nil => rfl
  | cons w l ih => rw [List.foldl_cons, h.returnValve, ih, List.foldl_cons]

theorem command : (g s).command v e = g (s.command v e) := by
  have demanded : (g s).demanded v e = g (s.demanded v e) := by
    rw [State.demanded, State.returnOthers, h.foldl_returnValve, h.updValve]
    rfl
  have driven (x : State) : (g x).ownerDriven v = g (x.ownerDriven v) := h.updValve _ _ _
  simp only [State.command_eq, demanded, driven, h.valve, h.emit, h.drive, apply_ite g]

end BesideActuators

theorem beside_taken (r : Request) : BesideActuators (State.taken r) :=
  ⟨fun _ => rfl, fun _ => rfl, fun _ _ _ => rfl, fun _ _ => rfl, fun _ _ => rfl⟩

theorem beside_updSource (x : Source) (f : SourceRecord → SourceRecord) : BesideActuators (State.updSource x f) := by
  cases x <;> exact ⟨fun _ => rfl, fun _ => rfl, fun _ _ _ => rfl, fun _ _ => rfl, fun _ _ => rfl⟩

theorem beside_setMainRaw (m : ProductMain) : BesideActuators (State.setMainRaw m) :=
  ⟨fun _ => rfl, fun _ => rfl, fun _ _ _ => rfl, fun _ _ => rfl, fun _ _ => rfl⟩

/-- A change of a source's record before or after a command. -/
theorem updSource_command (s : State) (x : Source) (f : SourceRecord → SourceRecord) (v : Valve) (e : ValveEnd) :
    (s.updSource x f).command v e = (s.command v e).updSource x f := (beside_updSource x f).command s v e

/-- A change of the main before or after a command. -/
theorem setMainRaw_command (s : State) (m : ProductMain) (v : Valve) (e : ValveEnd) :
    (s.setMainRaw m).command v e = (s.command v e).setMainRaw m := (beside_setMainRaw m).command s v e

theorem command_taken (s : State) (r : Request) (v : Valve) (e : ValveEnd) :
    (s.taken r).command v e = (s.command v e).taken r := (beside_taken r).command s v e

theorem report_updSource (s : State) (k : ReportKind) (a b c : Nat) (x : Source) (f : SourceRecord → SourceRecord) :
    (s.report k a b c).updSource x f = (s.updSource x f).report k a b c := by
  cases x <;> rfl

@[simp] theorem command_ir (s : State) (v : Valve) (e : ValveEnd) : (s.command v e).ir = s.ir := (Spares.command_aside s v e).ir

@[simp] theorem command_source (s : State) (v : Valve) (e : ValveEnd) (x : Source) : (s.command v e).source x = s.source x := by
  cases x <;> simp only [State.source, command_ir]

@[simp] theorem command_clock (s : State) (v : Valve) (e : ValveEnd) : (s.command v e).clock = s.clock :=
  show (s.command v e).beyondActuators.clock = s.beyondActuators.clock by rw [State.command_beyondActuators]

end State
end Sys2Proof.Machine
end

section
/-!
PROOF. What the Intake Router does to a request does not look at the link's own record of it: each of its operations commutes with
`State.taken`, one lemma per operation, in the order of Machine/Intake.lean.
-/
namespace Sys2Proof.Machine
namespace State

variable (s : State) (r : Request)

theorem updSource_taken (x : Source) (f : SourceRecord → SourceRecord) : (s.taken r).updSource x f = (s.updSource x f).taken r := by
  cases x <;> rfl

theorem source_taken (x : Source) : (s.taken r).source x = s.source x := by cases x <;> rfl

theorem setMainRaw_taken (m : ProductMain) : (s.taken r).setMainRaw m = (s.setMainRaw m).taken r := rfl

theorem emit_taken (m : Msg) : (s.taken r).emit m = (s.emit m).taken r := rfl

/-! ### State changes with their reports -/

theorem setMaker_taken (w : Watermaker) (st : SourceState) (d : Option DumpReason) :
    (s.taken r).setMaker w st d = (s.setMaker w st d).taken r := by
  simp only [State.setMaker, source_taken, updSource_taken, report_taken, ite_taken]

theorem setShore_taken (st : SourceState) (e : Option EndReason) : (s.taken r).setShore st e = (s.setShore st e).taken r := by
  simp only [State.setShore, updSource_taken, report_taken, ite_taken]
  rfl

theorem setMain_taken (m : ProductMain) : (s.taken r).setMain m = (s.setMain m).taken r := by
  simp only [State.setMain, setMainRaw_taken, report_taken, ite_taken]
  rfl

theorem permitStatus_taken (w : Watermaker) : (s.taken r).permitStatus w = s.permitStatus w := by
  simp only [State.permitStatus, source_taken]
  rfl

theorem updatePermit_taken (w : Watermaker) : (s.taken r).updatePermit w = (s.updatePermit w).taken r := by
  simp only [State.updatePermit, permitStatus_taken, source_taken, updSource_taken, report_taken, ite_taken]

theorem inhibit_taken (w : Watermaker) (c : InhibitCause) : (s.taken r).inhibit w c = (s.inhibit w c).taken r := by
  simp only [State.inhibit, source_taken, updSource_taken, report_taken, updatePermit_taken, ite_taken]

theorem dumpExpired_taken (w : Watermaker) : (s.taken r).dumpExpired w = (s.dumpExpired w).taken r := by
  simp only [State.dumpExpired, source_taken, inhibit_taken, ite_taken]

theorem permitSwitch_taken (w : Watermaker) (give : Bool) : (s.taken r).permitSwitch w give = (s.permitSwitch w give).taken r := by
  simp only [State.permitSwitch, updSource_taken, updatePermit_taken]

/-! ### The product main -/

theorem closeOutlet_taken (x : Source) : (s.taken r).closeOutlet x = (s.closeOutlet x).taken r := by
  have valve (v : Valve) : (s.taken r).valve v = s.valve v := rfl
  unfold State.closeOutlet
  split
  · exact command_taken _ _ _ _
  · simp only [valve, command_taken, ite_taken]

theorem openOutlet_taken (x : Source) : (s.taken r).openOutlet x = (s.openOutlet x).taken r := command_taken _ _ _ _

theorem groupOf_taken (x : Source) : (s.taken r).groupOf x = s.groupOf x := by rw [State.groupOf, source_taken]; rfl

theorem holderGroup_taken : (s.taken r).holderGroup = s.holderGroup := by
  simp only [State.holderGroup, groupOf_taken]
  rfl

theorem choose_taken (g : List TankIx) (c : QClass) (e : Option TankIx) : (s.taken r).choose g c e = s.choose g c e := rfl

theorem turnAway_taken (x : Source) (d : DumpReason) : (s.taken r).turnAway x d = (s.turnAway x d).taken r := by
  unfold State.turnAway
  split
  · exact setMaker_taken _ _ _ _ _
  · exact setMaker_taken _ _ _ _ _
  · simp only [setShore_taken, ite_taken]

theorem shedOne_taken (x : Source) : (s.taken r).shedOne x = (s.shedOne x).taken r := by
  have heading : (s.taken r).ir.main.heading = s.ir.main.heading := rfl
  simp only [State.shedOne, heading]
  split
  · simp only [groupOf_taken, closeOutlet_taken, updSource_taken, ← turnAway_taken, ← ite_taken]
    rfl
  · rfl

theorem shedJoined_taken : (s.taken r).shedJoined = s.shedJoined.taken r :=
  foldl_taken s r (fun x a => shedOne_taken x r a) _

theorem headFor_taken (t : TankIx) (st : MainState) : (s.taken r).headFor t st = (s.headFor t st).taken r := by
  simp only [State.headFor, ← shedJoined_taken, ← command_taken, ← setMain_taken]
  rfl

/-- A search for a tank does not look at the link's record. -/
def takenFirst (q : State × Bool) : State × Bool := (q.1.taken r, q.2)

theorem changeover_taken : (s.taken r).changeover = takenFirst r s.changeover := by
  have found : ((s.taken r).ir.main.cls.bind fun c => (s.taken r).choose (s.taken r).holderGroup c (s.taken r).ir.main.current) =
      s.ir.main.cls.bind fun c => s.choose s.holderGroup c s.ir.main.current := by
    simp only [holderGroup_taken, choose_taken]
    rfl
  simp only [State.changeover, found]
  split
  · rw [headFor_taken]
    rfl
  · rfl

theorem closeNext_taken : (s.taken r).closeNext = s.closeNext.taken r := by
  have next : (s.taken r).ir.main.next = s.ir.main.next := rfl
  unfold State.closeNext
  rw [next]
  split
  · simp only [← ite_taken, ← command_taken]
    rfl
  · rfl

theorem chooseAgain_taken : (s.taken r).chooseAgain = takenFirst r s.chooseAgain := by
  have main : (s.taken r).ir.main = s.ir.main := rfl
  have accepts (c : QClass) : (s.taken r).canAccept c = s.canAccept c := rfl
  unfold State.chooseAgain
  rw [main]
  split
  · rfl
  · rw [accepts]
    split
    · rw [setMain_taken, shedJoined_taken]
      rfl
    · rw [holderGroup_taken, choose_taken]
      split
      · rw [headFor_taken]
        rfl
      · rfl

theorem loseNext_taken : (s.taken r).loseNext = takenFirst r s.loseNext := by
  rw [State.loseNext_eq, closeNext_taken, chooseAgain_taken, State.loseNext_eq]

theorem release_taken : (s.taken r).release = s.release.taken r := by
  have main : (s.taken r).ir.main = s.ir.main := rfl
  have closes (l : List TankIx) (x : State) : l.foldl (fun (s : State) t => s.command (.tank t .intake) .a) (x.taken r) =
      (l.foldl (fun (s : State) t => s.command (.tank t .intake) .a) x).taken r :=
    foldl_taken x r (fun y t => command_taken y r _ _) l
  have ends (l : List TankIx) (x : State) : l.foldl (fun (s : State) t => s.entryEnd t .intake) (x.taken r) =
      (l.foldl (fun (s : State) t => s.entryEnd t .intake) x).taken r :=
    foldl_taken x r (fun _ _ => rfl) l
  simp only [State.release, main, closes, ends, setMain_taken, emit_taken]

theorem tankForHolder_taken : (s.taken r).tankForHolder = takenFirst r s.tankForHolder := by
  have main : (s.taken r).ir.main = s.ir.main := rfl
  have accepts (c : QClass) : (s.taken r).canAccept c = s.canAccept c := rfl
  unfold State.tankForHolder
  dsimp only
  rw [main, changeover_taken, loseNext_taken, holderGroup_taken]
  simp only [accepts]
  generalize (match s.ir.main.heading, s.ir.main.cls with
    | some t, some c => s.holderGroup.contains t && s.canAccept c t
    | _, _ => false) = keeps
  rw [apply_ite (takenFirst r), apply_ite (takenFirst r)]
  rfl

theorem leaveMain_taken (n : Nat) (x : Source) : (s.taken r).leaveMain n x = (s.leaveMain n x).taken r := by
  induction n generalizing s x with
  | zero => rfl
  | succ n ih =>
    have left : ((s.taken r).closeOutlet x).updSource x (fun q => { q with route := none }) =
        ((s.closeOutlet x).updSource x fun q => { q with route := none }).taken r := by
      rw [closeOutlet_taken, updSource_taken]
    simp only [State.leaveMain, left]
    generalize (s.closeOutlet x).updSource x (fun q => { q with route := none }) = y
    have main : (y.taken r).ir.main = y.ir.main := rfl
    rw [main, ← ite_taken]
    congr 1
    rw [← ite_taken]
    congr 1
    split
    · exact release_taken _ _
    · rw [setMainRaw_taken, tankForHolder_taken]
      simp only [takenFirst, ih, turnAway_taken, ite_taken]

/-! ### Decisions -/

theorem keepOff_taken (x : Source) (d : DumpReason) : (s.taken r).keepOff x d = (s.keepOff x d).taken r := by
  unfold State.keepOff
  split
  · simp only [turnAway_taken, command_taken, ite_taken]
  · simp only [source_taken, turnAway_taken, command_taken, ite_taken]

theorem setOnMain_taken (x : Source) : (s.taken r).setOnMain x = (s.setOnMain x).taken r := by
  cases x
  · exact setMaker_taken _ _ _ _ _
  · exact setMaker_taken _ _ _ _ _
  · exact setShore_taken _ _ _ _

theorem ask_taken (x : Source) (rt : Route) : (s.taken r).ask x rt = (s.ask x rt).taken r := by
  have main : (s.taken r).ir.main = s.ir.main := rfl
  simp only [State.ask, main, choose_taken, updSource_taken, setMainRaw_taken, headFor_taken, setOnMain_taken, keepOff_taken,
    openOutlet_taken, ite_taken]
  split
  · split <;> rfl
  · rfl

theorem endShore_taken (e : EndReason) : (s.taken r).endShore e = (s.endShore e).taken r := by
  have ir : (s.taken r).ir = s.ir := rfl
  simp only [State.endShore, ir, leaveMain_taken, command_taken, ite_taken, updSource_taken, setShore_taken]

theorem matchRule_taken (x : Source) : (s.taken r).matchRule x = s.matchRule x := by
  simp only [State.matchRule, source_taken]
  rfl

theorem outcome_taken (x : Source) : (s.taken r).outcome x = s.outcome x := by
  have allows : (s.taken r).modeAllows x = s.modeAllows x := rfl
  have valve (v : Valve) : (s.taken r).valve v = s.valve v := rfl
  simp only [State.outcome, matchRule_taken, source_taken, allows, valve]

theorem decideFor_taken (x : Source) : (s.taken r).decideFor x = (s.decideFor x).taken r := by
  have ir (y : State) : (y.taken r).ir = y.ir := rfl
  simp only [State.decideFor, outcome_taken, updSource_taken, ir, leaveMain_taken, turnAway_taken, keepOff_taken, endShore_taken,
    ask_taken, setShore_taken, ite_taken]
  split <;> rfl

theorem decideIf_taken (x : Source) : (s.taken r).decideIf x = (s.decideIf x).taken r := by
  simp only [State.decideIf, source_taken, decideFor_taken, ite_taken]

theorem decideAll_taken : (s.taken r).decideAll = s.decideAll.taken r := foldl_taken s r (fun x a => decideIf_taken x r a) _

/-! ### Requests -/

theorem openShore_taken : (s.taken r).openShore = s.openShore.taken r := by
  simp only [State.openShore, setShore_taken, decideFor_taken]

theorem beginCheck_taken (x : Source) : (s.taken r).beginCheck x = (s.beginCheck x).taken r := by
  simp only [State.beginCheck, updSource_taken, decideAll_taken]
  rfl

end State
end Sys2Proof.Machine
end

section
/-!
PROOF. How an event of the plant is taken, and what the Intake Router does with conductivity samples and probe checks (R73, R93,
R94).
-/
namespace Sys2Proof.Machine

/-- An event happens to a part that runs, and its meaning is known there. -/
theorem exec_event {i : Sys2Proof.Instr} {f : State → State} {s u : State} (hi : exec i s = .next (s.react f))
    (hon : s.power = .on) (hf : f s = u) : exec i s = .next u.deliver := by
  rw [hi, s.react_on f hon, hf]

/-- An update of a source depends on what it makes of that source's record alone. -/
theorem State.updSource_congr {s : State} {x : Source} {f g : SourceRecord → SourceRecord}
    (h : f (s.source x) = g (s.source x)) : s.updSource x f = s.updSource x g := by
  cases x <;> simp only [State.updSource, State.source] at h ⊢ <;> rw [h]

/-- Two updates of one source are one. -/
theorem State.updSource_updSource (s : State) (x : Source) (f g : SourceRecord → SourceRecord) :
    (s.updSource x f).updSource x g = s.updSource x fun r => g (f r) := by
  cases x <;> rfl

/-! ### Grading a sample (R73) -/

theorem Grade.ne_of_worse {a b : Grade} (h : a.worse b = true) : a ≠ b := by
  rintro rfl
  simp [Grade.worse] at h

theorem Grade.worse_asymm {a b : Grade} (h : a.worse b = true) : b.worse a = false := by
  simp only [Grade.worse, decide_eq_true_eq, decide_eq_false_iff_not] at h ⊢
  omega

namespace SourceRecord

variable {r : SourceRecord} {v : Nat}

theorem graded_worse (h : (r.settings.gradeOf v).worse r.grade = true) :
    r.graded v = (r.settings.gradeOf v, 0, none) := by
  rw [SourceRecord.graded, if_pos h]

theorem graded_same (h : r.settings.gradeOf v = r.grade) : r.graded v = (r.grade, 0, none) := by
  have not_worse : ¬(r.settings.gradeOf v).worse r.grade = true := fun k => Grade.ne_of_worse k h
  rw [SourceRecord.graded, if_neg not_worse, if_pos h]

/-- The worst grade of a run of better samples, with the sample that joins it. -/
def worstWith (r : SourceRecord) (g : Grade) : Grade := r.worst.elim g fun b => if b.worse g then b else g

/-- A better sample counts, and the last one of the run raises the grade. -/
theorem graded_better (h : r.grade.worse (r.settings.gradeOf v) = true) :
    r.graded v = if r.settings.improvement ≤ r.counter + 1 then (r.worstWith (r.settings.gradeOf v), 0, none)
      else (r.grade, r.counter + 1, some (r.worstWith (r.settings.gradeOf v))) := by
  have not_worse : ¬(r.settings.gradeOf v).worse r.grade = true := by simp [Grade.worse_asymm h]
  rw [SourceRecord.graded, if_neg not_worse, if_neg (Grade.ne_of_worse h).symm]
  cases hw : r.worst <;> simp [worstWith, hw, Grade.max]

end SourceRecord

namespace State

variable {s : State} {x : Source} {value : Nat}

/-- During a probe check a sample is stored and not graded (R93). -/
theorem conductivity_inCheck (h : (s.source x).check.isSome = true) :
    s.conductivity x value = s.updSource x fun r => { r with last := some (min value 9999), checkSample := some (min value 9999) } := by
  simp only [State.conductivity, h, if_true]

/-- Otherwise it is stored with what grading makes of it; a change of grade is reported and brings decisions. -/
theorem conductivity_graded (h : (s.source x).check = none) {g : Grade} {n : Nat} {w : Option Grade}
    (hg : (s.source x).graded (min value 9999) = (g, n, w)) :
    s.conductivity x value =
      if g = (s.source x).grade then
        s.updSource x fun r => { r with last := some (min value 9999), counter := n, worst := w }
      else ((s.updSource x fun r =>
        { r with last := some (min value 9999), grade := g, counter := n, worst := w }).report .intake x.code 0x10 g.code).decideAll := by
  simp only [State.conductivity, h, hg, Option.isSome_none, Bool.false_eq_true, if_false]
  split
  · next hsame => exact updSource_congr (by simp only [hsame])
  · rfl

/-! ### Probe checks (R94) -/

/-- A sample lies within the tolerance of the reference. -/
theorem withinTolerance_iff (v reference tolerance : Nat) :
    ((v : Int) - reference).natAbs ≤ tolerance ↔ reference ≤ v + tolerance ∧ v ≤ reference + tolerance := by omega

theorem endCheck_sampled {v : Nat} (h : (s.source x).checkSample = some v) {pass : Bool}
    (hp : pass = true ↔ (s.source x).settings.probeReference ≤ v + (s.source x).settings.probeTolerance ∧
      v ≤ (s.source x).settings.probeReference + (s.source x).settings.probeTolerance) :
    s.endCheck x = ((s.updSource x fun r => { r with check := none, checkSample := none, probeOk := pass }).report .probe x.code
      (if pass then 1 else 2) v).decideAll := by
  have pass_eq : decide (((v : Int) - (s.source x).settings.probeReference).natAbs ≤ (s.source x).settings.probeTolerance) =
      pass := by
    rw [Bool.eq_iff_iff, decide_eq_true_iff, withinTolerance_iff]
    exact hp.symm
  simp only [State.endCheck, h, pass_eq]
  rfl

theorem endCheck_unsampled (h : (s.source x).checkSample = none) :
    s.endCheck x = ((s.updSource x fun r => { r with check := none, checkSample := none, probeOk := false }).report .probe x.code
      2 10000).decideAll := by
  simp only [State.endCheck, h]
  rfl

end State

/-! ### The requests and events -/

variable {s : State} {x : Source} {tag : Byte}

theorem exec_probeCheck_busy (hs : s.ready) (h : (s.source x).check.isSome = true) :
    exec (.probeCheck tag (u8 x.code)) s = .next (s.answered 0x37 tag (u8 x.code) .busy []).deliver := by
  refine exec_refused (r := ⟨0x37, tag, u8 x.code⟩) (f := answerProbeCheck) rfl rfl hs ?_
  simp only [answerProbeCheck, byteAt_u8_alone (Source.code_lt x), Source.ofCode_code, State.source_taken, h, if_true]
  rfl

theorem exec_probeCheck (hs : s.ready) (h : (s.source x).check = none) :
    exec (.probeCheck tag (u8 x.code)) s = .next ((s.beginCheck x).answered 0x37 tag (u8 x.code) .ok []).deliver := by
  refine exec_accepted (r := ⟨0x37, tag, u8 x.code⟩) (f := answerProbeCheck) rfl rfl hs ?_
  simp only [answerProbeCheck, byteAt_u8_alone (Source.code_lt x), Source.ofCode_code, State.source_taken, h,
    State.beginCheck_taken]
  rfl

theorem exec_probeCheckEnd (hon : s.power = .on) (h : (s.source x).check.isSome = true) :
    exec (.probeCheckEnd x) s = .next (s.endCheck x).deliver := exec_event rfl hon (if_pos h)

theorem exec_conductivitySample (hon : s.power = .on) (hm : s.mode ≠ .start) (value : Nat) :
    exec (.conductivitySample x value) s = .next (s.conductivity x value).deliver := exec_event rfl hon (if_neg hm)

end Sys2Proof.Machine
end

section
open Sys2Proof Sys2Proof.Machine

/-- Settles O36: a check begins and ends by its sample, and a sample is graded by the case it meets. -/
theorem probeChecksAndSamplesAreTaken : Obligations.ProbeChecksAndSamplesAreTaken := by
  refine ⟨fun s x => ⟨fun tag hs => ⟨exec_probeCheck_busy hs, exec_probeCheck hs⟩, fun hon hc => ⟨fun v hv pass hp => ?_,
    fun hv => ?_⟩⟩, ?_⟩
  · rw [exec_probeCheckEnd hon hc, State.endCheck_sampled hv hp]
  · rw [exec_probeCheckEnd hon hc, State.endCheck_unsampled hv]
  · rintro s x value v g w hon hm rfl hg hw
    have grade : (s.source x).settings.gradeOf (min value 9999) = g := hg.symm
    have worst : (s.source x).worstWith g = w := hw.symm
    rw [exec_conductivitySample hon hm]
    refine ⟨fun hc => by rw [State.conductivity_inCheck hc], fun hc => ⟨fun hsame => ?_, fun hworse => ?_,
      fun hbetter hcount => ?_, fun hbetter hcount hchange => ?_⟩⟩
    · have graded := SourceRecord.graded_same (grade.trans hsame)
      rw [State.conductivity_graded hc graded, if_pos rfl]
    · have graded := SourceRecord.graded_worse (r := s.source x) (by rw [grade]; exact hworse)
      rw [grade] at graded
      rw [State.conductivity_graded hc graded, if_neg (Grade.ne_of_worse hworse)]
    · have graded := SourceRecord.graded_better (r := s.source x) (by rw [grade]; exact hbetter)
      rw [if_neg (Nat.not_le.mpr hcount), grade, worst] at graded
      rw [State.conductivity_graded hc graded, if_pos rfl]
      exact congrArg (fun y : State => Host.Outcome.next y.deliver) (State.updSource_congr rfl)
    · have graded := SourceRecord.graded_better (r := s.source x) (by rw [grade]; exact hbetter)
      rw [if_pos hcount, grade, worst] at graded
      rw [State.conductivity_graded hc graded, if_neg hchange]
end

section
/-!
PROOF. What the Intake Router does with the run signals and the flow pulses of its sources (R74, R96).
-/
namespace Sys2Proof.Machine

theorem State.updSource_id (s : State) (x : Source) : (s.updSource x fun r => r) = s := by cases x <;> rfl

namespace State

variable {s : State} {w : Watermaker}

/-! ### Run signals (R74) -/

/-- A watermaker enters a state in which it is not. -/
theorem setMaker_changed {st : SourceState} (h : (s.source w.source).state ≠ st) (d : Option DumpReason) :
    s.setMaker w st d = (s.updSource w.source fun r => { r with state := st, dumpReason := d }).report .intake w.source.code st.code
      ((d.map DumpReason.code).getD 0) := by
  simp only [State.setMaker, h, false_and, if_false]

/-- The flush begins: grade BAD, the flush timer, the reports, and the diverter to DUMP. -/
def flushBegun (w : Watermaker) (s : State) : State :=
  ((if (s.source w.source).grade = .bad then id else State.report .intake w.source.code 0x10 3)
    ((s.updSource w.source fun r =>
      { r with state := .flushing, dumpReason := none, grade := .bad, counter := 0, worst := none,
               flush := some (after s.clock (r.settings.flushTime * 10)) }).report .intake w.source.code 2 0)).command
        (.diverter w) .a

theorem makerRise_stopped (h : (s.source w.source).state = .stopped) :
    s.makerRise w = if (s.source w.source).grade = .bad then s.flushBegun w else (s.flushBegun w).decideAll := by
  have begun : (((s.setMaker w .flushing none).setGrade w.source .bad).command (.diverter w) .a).updSource w.source
      (fun r => { r with flush := some (after s.clock (r.settings.flushTime * 10)) }) = s.flushBegun w := by
    rw [setMaker_changed (by rw [h]; decide), ← updSource_command]
    unfold flushBegun
    congr 1
    by_cases hg : (s.source w.source).grade = .bad
    · simp only [State.setGrade, report_updSource, updSource_updSource, report_source, updSource_source_self, hg, if_true, id]
      rfl
    · have hg' : Grade.bad ≠ (s.source w.source).grade := fun e => hg e.symm
      simp only [State.setGrade, report_updSource, updSource_updSource, report_source, updSource_source_self, hg, hg', if_false]
      rfl
  have clock : (((s.setMaker w .flushing none).setGrade w.source .bad).command (.diverter w) .a).clock = s.clock := by
    rw [command_clock]
    simp only [State.setGrade, State.setMaker]
    (repeat' split) <;> simp
  simp only [State.makerRise, h, if_true, clock, begun]

theorem makerRise_other (h : (s.source w.source).state ≠ .stopped) : s.makerRise w = s := if_neg h

/-- A watermaker that flushes, routes or dumps runs. -/
theorem makerFall_running (h : (s.source w.source).state ∈ [SourceState.flushing, .routing, .dumping]) {y : State}
    (hy : y = (s.updSource w.source fun r =>
      { r with state := .stopped, dumpReason := none, flush := none, dump := none, rule := none }).report .intake w.source.code 1 0) :
    s.makerFall w = if s.ir.main.on w.source then y.leaveMain 4 w.source else y.command (.diverter w) .a := by
  have runs : (s.source w.source).state = .flushing ∨ (s.source w.source).state = .routing ∨
      (s.source w.source).state = .dumping := by simpa using h
  have running : (s.source w.source).state ≠ .stopped := fun e => by simp [e] at runs
  have stopped : (s.setMaker w .stopped none).updSource w.source
      (fun r => { r with flush := none, dump := none, rule := none }) = y := by
    rw [setMaker_changed running, report_updSource, updSource_updSource, hy]
    rfl
  have main : y.ir.main = s.ir.main := by simp [hy]
  simp only [State.makerFall, runs, if_true, stopped, main]

theorem makerFall_other (h : (s.source w.source).state ∉ [SourceState.flushing, .routing, .dumping]) : s.makerFall w = s :=
  if_neg (by simpa using h)

/-! ### Source pulses (R96) -/

variable {x : Source}

/-- A source delivers: the shore while FILLING, a watermaker while its diverter is AT_B. -/
def delivers (s : State) (x : Source) : Prop :=
  if x = .shore then s.ir.shore.state = .filling else (s.valve x.outlet).state = .atB

theorem sourcePulse_start (h : s.mode = .start) : s.sourcePulse x = s := if_pos h

theorem sourcePulse_produced (hm : s.mode ≠ .start) (h : s.delivers x) : s.sourcePulse x = s.updSource x fun r =>
    { r with produced := (countPulse r.settings.meterFactor (r.produced, r.producedResidue)).1,
             producedResidue := (countPulse r.settings.meterFactor (r.produced, r.producedResidue)).2 } := by
  unfold State.delivers at h
  cases x <;> simp only [reduceCtorEq, if_true, if_false] at h <;>
    simp only [State.sourcePulse, hm, h, if_false, decide_true, if_true]

theorem sourcePulse_dumped (hm : s.mode ≠ .start) (hx : x ≠ .shore) (h : (s.valve x.outlet).state ≠ .atB) :
    s.sourcePulse x = s.updSource x fun r =>
      { r with dumped := (countPulse r.settings.meterFactor (r.dumped, r.dumpedResidue)).1,
               dumpedResidue := (countPulse r.settings.meterFactor (r.dumped, r.dumpedResidue)).2 } := by
  cases x with
  | shore => exact absurd rfl hx
  | wm1 => simp [State.sourcePulse, hm, h]
  | wm2 => simp [State.sourcePulse, hm, h]

theorem sourcePulse_shore_idle (h : s.ir.shore.state ≠ .filling) : s.sourcePulse .shore = s := by
  simp [State.sourcePulse, h, updSource_id]

end State

/-! ### Counting (R96) -/

theorem countPulse_litres (factor total residue : Nat) :
    (residue + 100) / factor * factor + (countPulse factor (total, residue)).2 = residue + 100 :=
  Nat.div_add_mod' _ _

/-- The litres that one more pulse brings to those of n pulses. -/
theorem litres_succ {factor : Nat} (hf : 0 < factor) (k : Nat) : k / factor + (k % factor + 100) / factor = (k + 100) / factor := by
  conv_rhs => rw [← Nat.div_add_mod k factor, Nat.add_assoc, Nat.mul_add_div hf]

/-- Pulses one after another count the floor of their sum over the factor. -/
theorem countPulse_iterated {factor total residue : Nat} (hr : residue < factor) (ht : total ≤ 4294967295)
    {count : Nat → Nat × Nat} (h0 : count 0 = (total, residue)) (hs : ∀ n, count (n + 1) = countPulse factor (count n)) (n : Nat) :
    count n = ((total + (residue + n * 100) / factor) % 4294967296, (residue + n * 100) % factor) := by
  have hf : 0 < factor := Nat.zero_lt_of_lt hr
  induction n with
  | zero => simp [h0, Nat.div_eq_of_lt hr, Nat.mod_eq_of_lt hr, Nat.mod_eq_of_lt (Nat.lt_succ_of_le ht)]
  | succ n ih =>
    have sum : residue + (n + 1) * 100 = residue + n * 100 + 100 := by omega
    rw [hs, ih, sum, ← litres_succ hf (residue + n * 100)]
    simp only [countPulse, Nat.mod_add_mod, Nat.add_assoc]

/-! ### The events -/

variable {s : State} {w : Watermaker} {on : Bool}

theorem exec_runSignal (hon : s.power = .on) (hm : s.mode ≠ .start) (hp : s.pins.maker w ≠ on) :
    exec (.runSignal w on) s = .next ((if on then State.makerRise w else State.makerFall w)
      { s with pins := s.pins.setMaker w on }).deliver := by
  refine congrArg Host.Outcome.next ((State.react_on { s with pins := s.pins.setMaker w on } _ hon).trans
    (congrArg State.deliver ?_))
  have acts : ¬(s.pins.maker w = on ∨ { s with pins := s.pins.setMaker w on }.mode = .start) := by
    rintro (h | h)
    · exact hp h
    · exact hm h
  rw [if_neg acts]
  cases on <;> rfl

theorem exec_sourcePulse (hon : s.power = .on) (x : Source) : exec (.sourcePulse x) s = .next (s.sourcePulse x).deliver :=
  exec_event rfl hon rfl

end Sys2Proof.Machine
end

section
open Sys2Proof Sys2Proof.Machine

/-- Settles O37: a signal by the state of its watermaker, a pulse by what its source does, and pulses counted one after another. -/
theorem runSignalsAndPulsesAreTaken : Obligations.RunSignalsAndPulsesAreTaken := by
  refine ⟨fun s x w on hon hm hp hx => ?_, fun s x p q hon hpc hqc => ⟨fun hm => ?_, fun hd hm => ?_, fun hne hd hm => ?_,
    fun hsh hd => ?_⟩, fun factor total residue hf => ⟨Nat.mod_lt _ hf, (residue + 100) / factor, ?_, rfl⟩,
    fun factor total residue count hr ht h0 hs n => countPulse_iterated hr ht h0 hs n⟩
  · have source : x.source w.source = s.source w.source := by subst hx; cases w <;> rfl
    have main : x.ir.main = s.ir.main := by rw [hx]
    have clock : x.clock = s.clock := by rw [hx]
    have runs := exec_runSignal hon hm hp
    rw [← hx] at runs
    rw [runs, ← source, ← main]
    refine ⟨fun ho hst y hy => ?_, fun ho hst => ?_, fun ho hst y hy => ?_, fun ho hst => ?_⟩
    · have begun : y = x.flushBegun w := by rw [hy, State.flushBegun, clock]
      rw [if_pos ho, State.makerRise_stopped hst, begun]
      exact ⟨rfl, rfl⟩
    · rw [if_pos ho, State.makerRise_other hst]
      exact ⟨rfl, rfl⟩
    · rw [if_neg (by simp [ho]), State.makerFall_running hst hy]
    · rw [if_neg (by simp [ho]), State.makerFall_other hst]
  · rw [exec_sourcePulse hon, State.sourcePulse_start hm]
  · rw [exec_sourcePulse hon, State.sourcePulse_produced hm hd, hpc]
    exact congrArg (fun y : State => Host.Outcome.next y.deliver) (State.updSource_congr rfl)
  · rw [exec_sourcePulse hon, State.sourcePulse_dumped hm hne hd, hqc]
    exact congrArg (fun y : State => Host.Outcome.next y.deliver) (State.updSource_congr rfl)
  · rw [exec_sourcePulse hon, hsh, State.sourcePulse_shore_idle hd]
  · exact countPulse_litres factor total residue
end

section
/-!
PROOF. What the Intake Router does with settings, rules and permits (R75 to R79, R95), and its dump timers (R76).
-/
namespace Sys2Proof.Machine
namespace State

variable {s u : State} {w : Watermaker}

/-! ### What stands after an operation of the router -/

/-- The router takes nothing away of what stands. -/
theorem standsIn_of_intake (h : u.beyondIntake = s.beyondIntake) (g : s.Grows u) : s.standsIn u := ⟨standing_of_intake h, g.queue⟩

theorem standsIn_decideAll (s : State) : s.standsIn s.decideAll :=
  standsIn_of_intake s.decideAll_beyondIntake (Grows.refl s).decideAll

theorem standsIn_dumpExpired (s : State) (w : Watermaker) : s.standsIn (s.dumpExpired w) :=
  standsIn_of_intake (s.dumpExpired_beyondIntake w) ((Grows.refl s).dumpExpired w)

/-- A change of what no source keeps. -/
theorem standsIn_updSource (s : State) (x : Source) (f : SourceRecord → SourceRecord)
    (h : (f (s.source x)).standing = (s.source x).standing) : s.standsIn (s.updSource x f) :=
  standsIn_of_intake (s.updSource_beyondIntake x f h) ((Grows.refl s).updSource x f)

theorem rules_of_standsIn (h : s.standsIn u) : u.ir.rules = s.ir.rules :=
  show u.standing.rules = s.standing.rules by rw [h.1]

/-! ### Dump timers (R76) -/

theorem dumpTimerRuns_iff : s.dumpTimerRuns w = true ↔
    ((s.source w.source).state = .routing ∨ (s.source w.source).state = .dumping) ∧
      (s.valve (.diverter w)).state ≠ .atB ∧ (s.source w.source).inhibited = none := by
  simp [State.dumpTimerRuns, and_assoc]

/-- A dump timer under its conditions: it runs on, or from now, while they hold, and is stopped otherwise. -/
def dumpKept (s : State) (w : Watermaker) (r : SourceRecord) : SourceRecord :=
  { r with dump := if s.dumpTimerRuns w = true then some (r.dump.getD s.clock) else none }

theorem keepDumpTimer_eq (s : State) (w : Watermaker) : s.keepDumpTimer w = s.updSource w.source (s.dumpKept w) := by
  have same (h : s.dumpKept w (s.source w.source) = s.source w.source) : s = s.updSource w.source (s.dumpKept w) :=
    (s.updSource_id w.source).symm.trans (updSource_congr h.symm)
  simp only [State.keepDumpTimer]
  cases hr : s.dumpTimerRuns w <;> cases hd : (s.source w.source).dump <;> dsimp only
  · exact same (by simp only [dumpKept, hr, Bool.false_eq_true, if_false, ← hd])
  · exact updSource_congr (by simp only [dumpKept, hr, Bool.false_eq_true, if_false])
  · exact updSource_congr (by simp only [dumpKept, hr, if_true, hd, Option.getD_none])
  · exact same (by simp only [dumpKept, hr, if_true, hd, Option.getD_some]; rw [← hd])

/-- The timer of WM2 does not look at WM1. -/
theorem dumpKept_of_other (s : State) (f : SourceRecord → SourceRecord) : (s.updSource .wm1 f).dumpKept .wm2 = s.dumpKept .wm2 := rfl

theorem keepDumpTimers_eq (s : State) :
    s.keepDumpTimers = (s.updSource .wm1 (s.dumpKept .wm1)).updSource .wm2 (s.dumpKept .wm2) := by
  rw [State.keepDumpTimers, keepDumpTimer_eq, keepDumpTimer_eq]
  exact congrArg (fun f => (s.updSource .wm1 (s.dumpKept .wm1)).updSource .wm2 f) (s.dumpKept_of_other _)

/-! ### Permits (R75 to R77) -/

/-- A permit brought to a status: a change is reported, but for one to INHIBITED. -/
theorem updatePermit_eq {st : PermitStatus} (h : s.permitStatus w = st) :
    s.updatePermit w = if st = (s.source w.source).permit then s
      else if st = .inhibited then s.updSource w.source fun r => { r with permit := st }
      else (s.updSource w.source fun r => { r with permit := st }).report .intake w.source.code 0x12 st.code := by
  simp only [State.updatePermit, h]

theorem inhibit_same {k : InhibitCause} (h : (s.source w.source).inhibited = some k) : s.inhibit w k = s := if_pos h

/-- A mark set for a new cause stops the timer, withdraws the permit and is reported (R76). -/
theorem inhibit_changed {k : InhibitCause} (h : (s.source w.source).inhibited ≠ some k) :
    s.inhibit w k = (s.updSource w.source fun r => { r with inhibited := some k, dump := none, permit := .inhibited }).report
      .intake w.source.code 0x11 k.code := by
  have status : ((s.updSource w.source fun r => { r with inhibited := some k, dump := none }).report .intake w.source.code 0x11
      k.code).permitStatus w = .inhibited := by
    simp [State.permitStatus]
  rw [State.inhibit, if_neg h]
  dsimp only
  rw [updatePermit_eq status, report_source, updSource_source_self]
  split
  · next hp => rw [updSource_congr]; simp only [hp]
  · rw [if_pos rfl, report_updSource, updSource_updSource]

theorem dumpExpired_unlimited (h : (s.source w.source).settings.dumpLimit = 0) : s.dumpExpired w = s := by
  simp [State.dumpExpired, h]

theorem dumpExpired_limited (hd : (s.source w.source).dump.isSome = true) (h : (s.source w.source).settings.dumpLimit ≠ 0) :
    s.dumpExpired w = s.inhibit w .dumpLimit := if_pos ⟨hd, h⟩

/-- An accepted SOURCE_PERMIT: switch, mark, timer and permit (R77). -/
theorem permitSwitch_eq {give : Bool} {mark : Option InhibitCause} {st : PermitStatus}
    (hm : mark = if give then none else (s.source w.source).inhibited)
    (hst : st = if mark.isSome then .inhibited else if give && s.production then .permitted else .withheld) {x : State}
    (hx : x = s.updSource w.source fun r =>
      { r with give := give, inhibited := mark, permit := st, dump := if give then none else r.dump }) :
    s.permitSwitch w give = (if st = (s.source w.source).permit ∨ st = .inhibited then x
      else x.report .intake w.source.code 0x12 st.code) ∧ (s.permitSwitch w give).permitStatus w = st := by
  have stored : (s.updSource w.source fun r => { r with
      give := give, inhibited := if give then none else r.inhibited, dump := if give then none else r.dump }) =
      s.updSource w.source fun r => { r with give := give, inhibited := mark, dump := if give then none else r.dump } :=
    updSource_congr (by simp only [hm])
  have production : (s.updSource w.source fun r =>
      { r with give := give, inhibited := mark, dump := if give then none else r.dump }).production = s.production :=
    production_of_mode (by simp) (by simp)
  have status : (s.updSource w.source fun r =>
      { r with give := give, inhibited := mark, dump := if give then none else r.dump }).permitStatus w = st := by
    rw [State.permitStatus, production, updSource_source_self]
    exact hst.symm
  have follows := updatePermit_follows (s.updSource w.source fun r =>
      { r with give := give, inhibited := mark, dump := if give then none else r.dump }) w
  have permit : (s.permitSwitch w give) = (if st = (s.source w.source).permit ∨ st = .inhibited then x
      else x.report .intake w.source.code 0x12 st.code) := by
    rw [State.permitSwitch, stored, updatePermit_eq status, updSource_source_self, updSource_updSource, hx]
    by_cases hp : st = (s.source w.source).permit
    · rw [if_pos hp, if_pos (.inl hp)]
      exact updSource_congr (by simp only [hp])
    · by_cases hi : st = .inhibited
      · rw [if_neg hp, if_pos hi, if_pos (.inr hi)]
      · rw [if_neg hp, if_neg hi, if_neg (by simp [hp, hi])]
  refine ⟨permit, ?_⟩
  have switched : (s.permitSwitch w give).permitStatus w = ((s.permitSwitch w give).source w.source).permit := by
    rw [State.permitSwitch, stored]
    exact follows.symm
  rw [switched, permit, hx]
  split <;> simp

/-! ### Settings (R95) -/

/-- The settings of a source are replaced, and the improvement counter starts again. -/
def settingsStored (x : Source) (v : SourceSettings) (s : State) : State :=
  s.updSource x fun r => { r with settings := v, counter := 0, worst := none }

/-- A dump timer that a new limit has overtaken expires at once (R95). -/
def dumpOverrun (limit : Nat) (w : Watermaker) (s : State) : State :=
  match (s.source w.source).dump with
  | some t => if limit * 10 ≤ elapsed s.clock t then s.dumpExpired w else s
  | none => s

theorem setSource_watermaker (s : State) (w : Watermaker) (v : SourceSettings) :
    s.setSource w.source v = ((s.settingsStored w.source v).dumpOverrun v.dumpLimit w).decideAll := by
  cases w <;> rfl

theorem setSource_shore (s : State) (v : SourceSettings) : s.setSource .shore v = (s.settingsStored .shore v).decideAll := rfl

theorem dumpOverrun_none {limit : Nat} (h : (s.source w.source).settings.dumpLimit = 0 ∨
    ((s.source w.source).dump.all fun t => decide (elapsed s.clock t < limit * 10)) = true) : s.dumpOverrun limit w = s := by
  unfold dumpOverrun
  split
  · next t ht =>
    split
    · next hle =>
      refine dumpExpired_unlimited (h.resolve_right fun k => ?_)
      simp only [ht, Option.all_some, decide_eq_true_eq] at k
      exact absurd hle (Nat.not_le.mpr k)
    · rfl
  · rfl

/-- New settings that no dump timer has overtaken are stored, and decisions follow. -/
theorem setSource_stored {x : Source} {v : SourceSettings}
    (h : v.dumpLimit = 0 ∨ ((s.source x).dump.all fun t => decide (elapsed s.clock t < v.dumpLimit * 10)) = true) :
    s.setSource x v = (s.settingsStored x v).decideAll := by
  have clock : (s.settingsStored x v).clock = s.clock := by cases x <;> rfl
  have kept (w : Watermaker) (hw : w.source = x) : (s.settingsStored x v).dumpOverrun v.dumpLimit w = s.settingsStored x v := by
    subst hw
    refine dumpOverrun_none (h.imp (fun h0 => ?_) fun hall => ?_)
    · simpa [settingsStored] using h0
    · rw [clock]
      simpa [settingsStored] using hall
  cases x with
  | wm1 => exact (s.setSource_watermaker .wm1 v).trans (congrArg State.decideAll (kept .wm1 rfl))
  | wm2 => exact (s.setSource_watermaker .wm2 v).trans (congrArg State.decideAll (kept .wm2 rfl))
  | shore => rfl

theorem standsIn_dumpOverrun (s : State) (limit : Nat) (w : Watermaker) : s.standsIn (s.dumpOverrun limit w) := by
  unfold dumpOverrun
  split
  · split
    · exact s.standsIn_dumpExpired w
    · exact s.standsIn_refl
  · exact s.standsIn_refl

/-- New settings stand. -/
theorem standsIn_setSource (s : State) (x : Source) (v : SourceSettings) :
    (s.updSource x fun r => { r with settings := v }).standsIn (s.setSource x v) := by
  have stored : (s.updSource x fun r => { r with settings := v }).standsIn (s.settingsStored x v) := by
    have reset := standsIn_updSource (s.updSource x fun r => { r with settings := v }) x
      (fun r => { r with counter := 0, worst := none }) rfl
    rwa [updSource_updSource] at reset
  refine standsIn_trans stored ?_
  cases x with
  | wm1 => exact setSource_watermaker s .wm1 v ▸ standsIn_trans (standsIn_dumpOverrun _ _ _) (standsIn_decideAll _)
  | wm2 => exact setSource_watermaker s .wm2 v ▸ standsIn_trans (standsIn_dumpOverrun _ _ _) (standsIn_decideAll _)
  | shore => exact standsIn_decideAll _

theorem dumpOverrun_taken (s : State) (r : Request) (limit : Nat) (w : Watermaker) :
    (s.taken r).dumpOverrun limit w = (s.dumpOverrun limit w).taken r := by
  unfold dumpOverrun
  rw [source_taken]
  split
  · rw [dumpExpired_taken, ← ite_taken]
    rfl
  · rfl

theorem setSource_taken (s : State) (r : Request) (x : Source) (v : SourceSettings) :
    (s.taken r).setSource x v = (s.setSource x v).taken r := by
  have stored (x : Source) : (s.taken r).settingsStored x v = (s.settingsStored x v).taken r := updSource_taken _ _ _ _
  have overrun (w : Watermaker) : (((s.taken r).settingsStored w.source v).dumpOverrun v.dumpLimit w).decideAll =
      ((s.settingsStored w.source v).dumpOverrun v.dumpLimit w).decideAll.taken r := by
    rw [stored, dumpOverrun_taken, decideAll_taken]
  cases x with
  | wm1 => exact (setSource_watermaker (s.taken r) .wm1 v).trans ((overrun .wm1).trans
      (congrArg (State.taken r) (setSource_watermaker s .wm1 v).symm))
  | wm2 => exact (setSource_watermaker (s.taken r) .wm2 v).trans ((overrun .wm2).trans
      (congrArg (State.taken r) (setSource_watermaker s .wm2 v).symm))
  | shore => rw [setSource_shore, setSource_shore, stored, decideAll_taken]

end State

/-! ### The requests -/

variable {s : State} {tag : Byte}

theorem exec_sourceSet (hs : s.configurable) (x : Source) {v : SourceSettings} (hv : v.lawful) {p : List Byte}
    (hp : p = u8 x.code ++ v.bytes) :
    exec (.sourceSet tag p) s = .next ((s.setSource x v).answered 0x30 tag p .ok []).deliver := by
  obtain ⟨ready, hmode, hsave⟩ := hs
  refine exec_accepted (r := ⟨0x30, tag, p⟩) (f := answerSourceSet) rfl rfl ready ?_
  have size : ¬p.length ≠ 16 := by subst hp; exact fun h => h rfl
  have mode : ¬(!(s.taken ⟨0x30, tag, p⟩).mode.configuring) = true := by simpa using hmode
  have save : ¬(s.taken ⟨0x30, tag, p⟩).saving = true := Bool.eq_false_iff.mp hsave
  have code : Source.ofCode (byteAt p 0) = some x := by
    rw [hp, byteAt_front (Source.code_lt x), Source.ofCode_code]
  have read : readSourceSettings p = some v := hp ▸ readSourceSettings_bytes x hv
  simp only [answerSourceSet, if_neg size, if_neg mode, if_neg save, code, read, State.setSource_taken]

theorem exec_ruleSet (hs : s.configurable) (k : Fin 8) {r : Rule} (hr : r.lawful = true) {p : List Byte}
    (hp : p = u8 (k.val + 1) ++ r.bytes) :
    exec (.ruleSet tag p) s = .next (({ s with ir := { s.ir with rules := s.ir.rules.set k r } }).decideAll.answered 0x33 tag p .ok
      []).deliver := by
  obtain ⟨ready, hmode, hsave⟩ := hs
  refine exec_accepted (r := ⟨0x33, tag, p⟩) (f := answerRuleSet) rfl rfl ready ?_
  obtain ⟨read, hsize⟩ := readRule_bytes (k.val + 1) hr
  have size : ¬(!ruleSizeOk p) = true := by
    have ok : ruleSizeOk p = true := hp ▸ hsize
    simp [ok]
  have mode : ¬(!(s.taken ⟨0x33, tag, p⟩).mode.configuring) = true := by simpa using hmode
  have save : ¬(s.taken ⟨0x33, tag, p⟩).saving = true := Bool.eq_false_iff.mp hsave
  have slot : slotAt p 0 = some k := hp ▸ slotAt_front k r.bytes
  have rule : readRule p = some r := hp ▸ read
  simp only [answerRuleSet, if_neg size, if_neg mode, if_neg save, slot, rule]
  exact congrArg (accept []) (State.decideAll_taken { s with ir := { s.ir with rules := s.ir.rules.set k r } } _)

theorem exec_sourcePermit (hs : s.ready) (w : Watermaker) (give : Bool) {p : List Byte}
    (hp : p = u8 w.source.code ++ u8 (if give then 1 else 2)) :
    exec (.sourcePermit tag p) s = .next ((s.permitSwitch w give).answered 0x31 tag p .ok
      (u8 ((s.permitSwitch w give).permitStatus w).code)).deliver := by
  refine exec_accepted (r := ⟨0x31, tag, p⟩) (f := answerSourcePermit) rfl rfl hs ?_
  have size : ¬p.length ≠ 2 := by subst hp; exact fun h => h rfl
  have source : watermakerAt p 0 = some w := by subst hp; cases w <;> rfl
  have switch : giveAt p 1 = some give := by subst hp; cases w <;> cases give <;> rfl
  simp only [answerSourcePermit, if_neg size, source, switch, State.permitSwitch_taken, State.permitStatus_taken]

theorem exec_dumpLimit (hon : s.power = .on) (w : Watermaker) : exec (.dumpLimit w) s = .next (s.dumpExpired w).deliver :=
  exec_event rfl hon rfl

end Sys2Proof.Machine
end

section
open Sys2Proof Sys2Proof.Machine

/-- Settles O31: each request by what it stores, and each timer, mark and permit by the conditions it follows. -/
theorem sourceSettingsAndPermitsAreStored : Obligations.SourceSettingsAndPermitsAreStored := by
  refine ⟨fun s tag hs => ⟨fun x v p hv hp => ⟨⟨_, exec_sourceSet hs x hv hp, ?_⟩, fun h => ?_⟩, fun k r p hr hp =>
    ⟨⟨_, exec_ruleSet hs k hr hp, ?_⟩, exec_ruleSet hs k hr hp⟩⟩, fun s w => ⟨fun tag give p mark st hs hp hm hst x hx => ?_,
    fun hon hd hi => ⟨fun h0 => ?_, fun hl => ?_⟩⟩, fun s => ⟨fun w => State.dumpTimerRuns_iff, fun kept hk => ?_,
    s.production_iff, fun w => ⟨fun st hst x hx => ?_, fun k => ⟨State.inhibit_same, State.inhibit_changed⟩⟩⟩⟩
  · exact State.standsIn_trans (State.standsIn_answered (s.standsIn_setSource x v) _ _ _ _ _) (State.standsIn_deliver _)
  · rw [exec_sourceSet hs x hv hp, State.setSource_stored h]
    rfl
  · have ruled := State.standsIn_decideAll { s with ir := { s.ir with rules := s.ir.rules.set k r } }
    exact State.rules_of_standsIn (State.standsIn_trans (State.standsIn_answered ruled 0x33 tag p .ok [])
      (State.standsIn_deliver _))
  · obtain ⟨switched, status⟩ := State.permitSwitch_eq hm hst hx
    rw [exec_sourcePermit hs w give hp, status, switched]
  · rw [exec_dumpLimit hon, State.dumpExpired_unlimited h0]
  · have unmarked : (s.source w.source).inhibited ≠ some .dumpLimit := by simp [hi]
    rw [exec_dumpLimit hon, State.dumpExpired_limited hd hl, State.inhibit_changed unmarked]
    rfl
  · have kept_eq (w : Watermaker) : kept w = s.dumpKept w := funext fun r => hk w r
    rw [s.keepDumpTimers_eq, kept_eq, kept_eq]
  · rw [State.updatePermit_eq hst.symm, hx]
end

section
/-!
PROOF. The equations of the Intake Router's shared operations: how a decision comes out, how a source changes its state, how it is
turned away and kept off (R71, R78, R80 to R82, R92, R93).
-/
namespace Sys2Proof.Machine
namespace State

variable {s u : State} {x : Source}

/-! ### What a decision looks at (R80) -/

/-- The outcome follows from the mode, the valves, the rules, and the grade and probe of the source. -/
theorem outcome_of_same (hp : u.pmc = s.pmc) (hau : u.au = s.au) (hrules : u.ir.rules = s.ir.rules)
    (hgrade : (u.source x).grade = (s.source x).grade) (hcheck : (u.source x).check = (s.source x).check)
    (hprobe : (u.source x).probeOk = (s.source x).probeOk) : u.outcome x = s.outcome x := by
  have allows : u.modeAllows x = s.modeAllows x := by
    cases x <;> simp only [State.modeAllows, State.production, hp]
  have rule : u.matchRule x = s.matchRule x := by simp only [State.matchRule, hrules, hgrade]
  have valve (v : Valve) : u.valve v = s.valve v := by simp only [State.valve, hau]
  simp only [State.outcome, allows, rule, valve, hcheck, hprobe]

/-- A change of the source that leaves grade and probe does not change the outcome. -/
theorem outcome_updSource {f : SourceRecord → SourceRecord} (hgrade : (f (s.source x)).grade = (s.source x).grade)
    (hcheck : (f (s.source x)).check = (s.source x).check) (hprobe : (f (s.source x)).probeOk = (s.source x).probeOk) :
    (s.updSource x f).outcome x = s.outcome x :=
  outcome_of_same (by simp) (by simp) (by simp) (by simpa) (by simpa) (by simpa)

theorem outcome_report (k : ReportKind) (a b c : Nat) : (s.report k a b c).outcome x = s.outcome x :=
  outcome_of_same rfl rfl rfl (by simp) (by simp) (by simp)

/-- A probe check decides only while one is in flight. -/
theorem check_of_outcome {k : Option Nat} (h : s.outcome x = (k, .off .probeCheck)) : (s.source x).check.isSome = true := by
  simp only [State.outcome] at h
  split at h
  · simp at h
  · split at h
    · next hc => exact hc
    · split at h
      · simp at h
      · split at h
        · split at h <;> simp at h
        · split at h
          · simp at h
          · split at h <;> simp at h

theorem modeAllows_iff (s : State) (x : Source) : s.modeAllows x = true ↔ (x = .shore ∧ s.mode = .harbour) ∨ (x ≠ .shore ∧
    (s.mode = .run ∨ s.mode = .commission ∨ (s.mode = .fallback ∧ s.pmc.left = some .run))) := by
  cases x <;> simp [State.modeAllows, production_iff, State.mode]

/-- A rule fits a source: enabled, with the source and its grade in its sets (R78). -/
def ruleFits (s : State) (x : Source) (r : Rule) : Prop :=
  r.enabled = true ∧ r.sources.has x = true ∧ r.grades.has (s.source x).grade = true

theorem matchRule_none (h : ∀ k : Fin 8, ¬s.ruleFits x s.ir.rules[k]) : s.matchRule x = none := by
  rw [State.matchRule, Option.map_eq_none_iff, List.find?_eq_none]
  intro k _ hk
  exact h k (by simpa [ruleFits, and_assoc] using hk)

/-- The first rule that fits is the matching one (R78). -/
theorem matchRule_first {k : Fin 8} (h : s.ruleFits x s.ir.rules[k]) (hfirst : ∀ j : Fin 8, j < k → ¬s.ruleFits x s.ir.rules[j]) :
    s.matchRule x = some (k.val + 1, s.ir.rules[k]) := by
  have found : (List.finRange 8).find? (fun j => s.ir.rules[j].enabled && s.ir.rules[j].sources.has x &&
      s.ir.rules[j].grades.has (s.source x).grade) = some k := by
    rw [List.find?_eq_some_iff_getElem]
    refine ⟨by simpa [ruleFits, and_assoc] using h, k.val, by simp, by simp, fun j hj => ?_⟩
    have unfit := hfirst ⟨j, hj.trans k.isLt⟩ hj
    rw [Bool.not_eq_true', Bool.eq_false_iff]
    exact fun hc => unfit (by simpa [ruleFits, and_assoc] using hc)
  rw [State.matchRule, found]
  rfl

/-! ### Tanks that can accept (R82) -/

theorem permits_iff (r : TankRecord) (p : Perms → Bool) : r.permits p = true ↔ r.defn.any (fun d => p d.perms) = true := by
  unfold TankRecord.permits
  cases r.defn <;> simp

theorem intakeReady_iff (s : State) (t : TankIx) : s.intakeReady t = true ↔
    (s.tank t).service = .inService ∧ (s.tank t).defn.any (·.perms.intake) = true ∧
      (s.toldGauge .ir t = some .valid ∨ s.toldGauge .ir t = some .suspect) ∧ (s.tank t).states.h ≠ .above ∧
      t ∉ s.ir.main.refused := by
  simp only [State.intakeReady, State.gaugeUsable, Bool.and_eq_true, decide_eq_true_eq, permits_iff, Bool.not_eq_true',
    decide_eq_false_iff_not, List.contains_eq_mem, and_assoc, ne_eq]

theorem classAdmits_iff (r : TankRecord) (c : QClass) : classAdmits r c = true ↔ r.empty = true ∨ c.code ≤ r.cls.code := by
  simp [classAdmits, QClass.worse]

theorem canAccept_iff (s : State) (c : QClass) (t : TankIx) : s.canAccept c t = true ↔
    s.intakeReady t = true ∧ classAdmits (s.tank t) c = true ∧ (s.valve (.tank t .intake)).state ≠ .fault := by
  simp [State.canAccept, and_assoc]

theorem choose_updSource (f : SourceRecord → SourceRecord) (g : List TankIx) (c : QClass) (e : Option TankIx) :
    (s.updSource x f).choose g c e = s.choose g c e := by
  cases x <;> rfl

/-! ### Sources turned away and kept off -/

theorem setMaker_same {w : Watermaker} {st : SourceState} {d : Option DumpReason}
    (h : (s.source w.source).state = st ∧ (s.source w.source).dumpReason = d) : s.setMaker w st d = s := if_pos h

theorem setMaker_eq (w : Watermaker) (st : SourceState) (d : Option DumpReason) : s.setMaker w st d =
    if (s.source w.source).state = st ∧ (s.source w.source).dumpReason = d then s
    else (s.updSource w.source fun r => { r with state := st, dumpReason := d }).report .intake w.source.code st.code
      ((d.map DumpReason.code).getD 0) := rfl

theorem setShore_eq (st : SourceState) (e : Option EndReason) : s.setShore st e =
    (if s.ir.shore.state = st then id else State.report .intake 3 st.code ((e.map EndReason.code).getD 0))
      (s.updSource .shore fun r => { r with state := st, endReason := e }) := by
  simp only [State.setShore, ne_eq, decide_not, Bool.not_eq_true', decide_eq_false_iff_not]
  by_cases h : s.ir.shore.state = st
  · rw [if_neg (not_not.mpr h), if_pos h]
    rfl
  · rw [if_pos h, if_neg h]
    rfl

theorem setShore_changed {st : SourceState} (h : s.ir.shore.state ≠ st) (e : Option EndReason) : s.setShore st e =
    (s.updSource .shore fun r => { r with state := st, endReason := e }).report .intake 3 st.code
      ((e.map EndReason.code).getD 0) := by
  rw [setShore_eq, if_neg h]

theorem turnAway_watermaker (w : Watermaker) (d : DumpReason) : s.turnAway w.source d = s.setMaker w .dumping (some d) := by
  cases w <;> rfl

theorem turnAway_paused : s.turnAway .shore .probeCheck = s.setShore .paused none := rfl

theorem turnAway_closed {d : DumpReason} (h : d ≠ .probeCheck) : s.turnAway .shore d = s.setShore .closed (some d.shoreEnd) :=
  if_neg h

theorem outlet_watermaker (w : Watermaker) : w.source.outlet = .diverter w := by cases w <;> rfl

theorem Watermaker.source_ne_shore (w : Watermaker) : w.source ≠ .shore := by cases w <;> decide

/-- A watermaker that is DUMPING for the reason already gets no command; else it dumps, and its diverter goes to DUMP (R81). -/
theorem keepOff_watermaker (w : Watermaker) (d : DumpReason) : s.keepOff w.source d =
    if (s.source w.source).state = .dumping ∧ (s.source w.source).dumpReason = some d then s
    else (s.turnAway w.source d).command (.diverter w) .a := by
  cases w <;> rfl

/-- The same with all that it does written out. -/
theorem keepOff_watermaker_eq (w : Watermaker) (d : DumpReason) : s.keepOff w.source d =
    if (s.source w.source).state = .dumping ∧ (s.source w.source).dumpReason = some d then s
    else ((s.updSource w.source fun r => { r with state := .dumping, dumpReason := some d }).report .intake w.source.code 4
      d.code).command (.diverter w) .a := by
  rw [keepOff_watermaker, turnAway_watermaker, setMaker_eq]
  split <;> rfl

theorem keepOff_shore {d : DumpReason} (h : d ≠ .probeCheck) :
    s.keepOff .shore d = (s.command .shore .a).turnAway .shore d := by
  rw [State.keepOff, if_neg h]

theorem keepOff_paused : s.keepOff .shore .probeCheck = s.turnAway .shore .probeCheck := by
  rw [State.keepOff, if_pos rfl]

theorem setOnMain_watermaker (w : Watermaker) : s.setOnMain w.source = s.setMaker w .routing none := by cases w <;> rfl

theorem setOnMain_shore : s.setOnMain .shore = s.setShore .opening none := rfl

/-- A source is a watermaker or the shore. -/
theorem source_cases (x : Source) : (∃ w : Watermaker, x = w.source) ∨ x = .shore := by
  cases x
  · exact .inl ⟨.wm1, rfl⟩
  · exact .inl ⟨.wm2, rfl⟩
  · exact .inr rfl

theorem not_on_iff : s.ir.main.on x = false ↔ x ∉ s.ir.main.sources := by
  rw [ProductMain.mem_sources, Bool.not_eq_true]

/-! ### Closing an outlet and heading for a tank -/

theorem closeOutlet_eq (x : Source) : s.closeOutlet x =
    if x ≠ .shore ∧ (s.valve x.outlet).state = .fault then s else s.command x.outlet .a := by
  rcases source_cases x with ⟨w, rfl⟩ | rfl
  · have hw := Watermaker.source_ne_shore w
    simp only [hw, ne_eq, not_false_eq_true, true_and]
    cases w <;> rfl
  · rw [if_neg fun h => h.1 rfl]
    rfl

/-- A tank is headed for: the main's record with its report, and its intake valve. -/
def headed (t : TankIx) (st : MainState) (s : State) : State :=
  ((if s.ir.main.state = st ∧ s.ir.main.next = some t then id else State.report .intake 0 0x13 (tankCode t))
    (s.setMainRaw { s.ir.main with state := st, next := some t })).command (.tank t .intake) .b

@[simp] theorem headed_main (t : TankIx) (st : MainState) :
    (s.headed t st).ir.main = { s.ir.main with state := st, next := some t } := by
  rw [headed, command_ir]
  split <;> rfl

@[simp] theorem headed_source (t : TankIx) (st : MainState) (x : Source) : (s.headed t st).source x = s.source x := by
  rw [headed, command_source]
  split <;> cases x <;> rfl

theorem setMain_heading {t : TankIx} {st : MainState} (h : st ≠ .unused) :
    s.setMain { s.ir.main with state := st, next := some t } =
      (if s.ir.main.state = st ∧ s.ir.main.next = some t then id else State.report .intake 0 0x13 (tankCode t))
        (s.setMainRaw { s.ir.main with state := st, next := some t }) := by
  simp only [State.setMain, true_and, h, if_false]
  split <;> rfl

theorem headFor_eq {t : TankIx} {st : MainState} (h : st ≠ .unused) : s.headFor t st = (s.headed t st).shedJoined := by
  rw [State.headFor, setMain_heading h, headed]

/-- A joined source whose group holds the heading tank stays. -/
theorem shedOne_kept {t : TankIx} (hh : s.ir.main.heading = some t) (h : t ∈ s.groupOf x) : s.shedOne x = s := by
  have contains : (s.groupOf x).contains t = true := List.contains_iff_mem.mpr h
  simp only [State.shedOne, hh, contains, if_true]

theorem shedOne_shed {t : TankIx} (hh : s.ir.main.heading = some t) (h : t ∉ s.groupOf x) : s.shedOne x =
    (((s.closeOutlet x).updSource x fun r => { r with route := none }).setMainRaw
      { s.ir.main with joined := s.ir.main.joined.erase x }).turnAway x .mainConflict := by
  have contains : ¬(s.groupOf x).contains t = true := fun k => h (List.contains_iff_mem.mp k)
  have main : ((s.closeOutlet x).updSource x fun r => { r with route := none }).ir.main = s.ir.main :=
    ((Quiet.refl s).dropRoute x).main
  simp only [State.shedOne, hh, contains, Bool.false_eq_true, if_false, main]

/-- No joined source leaves where all groups hold the heading tank. -/
theorem shedJoined_kept {t : TankIx} (hh : s.ir.main.heading = some t) (h : ∀ x ∈ s.ir.main.joined, t ∈ s.groupOf x) :
    s.shedJoined = s := by
  have kept (l : List Source) (hl : ∀ x ∈ l, t ∈ s.groupOf x) : l.foldl State.shedOne s = s := by
    induction l with
    | nil => rfl
    | cons x l ih =>
      rw [List.foldl_cons, shedOne_kept hh (hl x List.mem_cons_self), ih fun y hy => hl y (List.mem_cons_of_mem x hy)]
  exact kept _ h

theorem groupOf_headed (t : TankIx) (st : MainState) (x : Source) : (s.headed t st).groupOf x = s.groupOf x := by
  simp only [State.groupOf, headed_source]

theorem headFor_kept {t : TankIx} {st : MainState} (h : st ≠ .unused) (hj : ∀ x ∈ s.ir.main.joined, t ∈ s.groupOf x) :
    s.headFor t st = s.headed t st := by
  rw [headFor_eq h]
  refine shedJoined_kept (t := t) (by rw [headed_main]; rfl) fun x hx => ?_
  rw [headed_main] at hx
  rw [groupOf_headed]
  exact hj x hx

end State
end Sys2Proof.Machine
end

section
/-!
PROOF. What the Intake Router leaves of a source that is not on the main, while the others join, leave and are turned away
(`State.OffMain`); and with it the end of the shore's episode (R85, R92).
-/
namespace Sys2Proof.Machine
namespace State

/-- A source is not on the main, and its record has a property. -/
structure OffMain (x : Source) (R : SourceRecord → Prop) (s : State) : Prop where
  record : R (s.source x)
  away : x ∉ s.ir.main.sources

theorem source_of_ir {s u : State} (h : u.ir = s.ir) (x : Source) : u.source x = s.source x := by
  cases x <;> simp only [State.source, h]

@[simp] theorem setMain_source (s : State) (m : ProductMain) (x : Source) : (s.setMain m).source x = s.source x := by
  simp only [State.setMain]
  split <;> simp

/-- A release leaves every source's record (R85). -/
theorem release_source (s : State) (x : Source) : s.release.source x = s.source x := by
  have closed (l : List TankIx) (y : State) :
      (l.foldl (fun (s : State) t => s.command (.tank t .intake) .a) y).source x = y.source x :=
    foldl_same (fun s : State => s.source x) _ (fun a _ => command_source a _ _ x) l y
  have ended (l : List TankIx) (y : State) : (l.foldl (fun (s : State) t => s.entryEnd t .intake) y).source x = y.source x :=
    foldl_same (fun s : State => s.source x) (fun (s : State) t => s.entryEnd t .intake)
      (fun a t => source_of_ir (u := a.entryEnd t .intake) rfl x) l y
  have emitted (y : State) (m : Msg) : (y.emit m).source x = y.source x := source_of_ir rfl x
  rw [State.release, emitted, setMain_source, ended, closed, closed]

/-- The sources after a thinning are among those before. -/
theorem sources_erase (m : ProductMain) (x : Source) :
    ∀ y ∈ ({ m with joined := m.joined.erase x } : ProductMain).sources, y ∈ m.sources := fun _ hy =>
  (IntakeLaw.joined_erase m x).subset hy

namespace OffMain

variable {x : Source} {R : SourceRecord → Prop} {s u : State}

/-- An operation that leaves the record and brings no source to the main. -/
theorem same (h : s.OffMain x R) (hs : u.source x = s.source x) (hm : ∀ y ∈ u.ir.main.sources, y ∈ s.ir.main.sources) :
    u.OffMain x R := ⟨hs ▸ h.record, fun k => h.away (hm x k)⟩

theorem of_ir (h : s.OffMain x R) (hi : u.ir = s.ir) : u.OffMain x R :=
  h.same (source_of_ir hi x) fun y hy => by rwa [hi] at hy

theorem ite {c : Prop} [Decidable c] {a b : State} (ha : a.OffMain x R) (hb : b.OffMain x R) :
    (if c then a else b).OffMain x R := by
  split
  · exact ha
  · exact hb

theorem foldl {α : Type} {f : State → α → State} {l : List α} (hf : ∀ y, ∀ a ∈ l, y.OffMain x R → (f y a).OffMain x R)
    (h : s.OffMain x R) : (l.foldl f s).OffMain x R := by
  induction l generalizing s with
  | nil => exact h
  | cons a l ih => exact ih (fun y b hb => hf y b (List.mem_cons_of_mem a hb)) (hf s a List.mem_cons_self h)

theorem command (h : s.OffMain x R) (v : Valve) (e : ValveEnd) : (s.command v e).OffMain x R := h.of_ir (command_ir s v e)

theorem report (h : s.OffMain x R) (k : ReportKind) (a b c : Nat) : (s.report k a b c).OffMain x R := h.of_ir rfl

theorem setMainRaw (h : s.OffMain x R) {m : ProductMain} (hm : ∀ y ∈ m.sources, y ∈ s.ir.main.sources) :
    (s.setMainRaw m).OffMain x R := h.same (by simp) hm

theorem setMain (h : s.OffMain x R) {m : ProductMain} (hm : ∀ y ∈ m.sources, y ∈ s.ir.main.sources) :
    (s.setMain m).OffMain x R := by
  simp only [State.setMain]
  exact ite (h.setMainRaw hm) ((h.setMainRaw hm).report _ _ _ _)

theorem updOther (h : s.OffMain x R) {y : Source} (hy : x ≠ y) (f : SourceRecord → SourceRecord) : (s.updSource y f).OffMain x R :=
  h.same (updSource_source_ne _ _ hy) (by simp)

theorem setMaker (h : s.OffMain x R) {w : Watermaker} (hw : x ≠ w.source) (st : SourceState) (d : Option DumpReason) :
    (s.setMaker w st d).OffMain x R := by
  simp only [State.setMaker]
  exact ite h ((h.updOther hw _).report _ _ _ _)

theorem setShore (h : s.OffMain x R) (hx : x ≠ .shore) (st : SourceState) (e : Option EndReason) :
    (s.setShore st e).OffMain x R := by
  simp only [State.setShore]
  exact ite ((h.updOther hx _).report _ _ _ _) (h.updOther hx _)

theorem turnAway (h : s.OffMain x R) {y : Source} (hy : x ≠ y) (d : DumpReason) : (s.turnAway y d).OffMain x R := by
  cases y with
  | wm1 => exact h.setMaker (w := .wm1) hy _ _
  | wm2 => exact h.setMaker (w := .wm2) hy _ _
  | shore =>
    simp only [State.turnAway]
    exact ite (h.setShore hy _ _) (h.setShore hy _ _)

theorem closeOutlet (h : s.OffMain x R) (y : Source) : (s.closeOutlet y).OffMain x R := by
  rw [closeOutlet_eq]
  exact ite h (h.command _ _)

/-- Another source's outlet is closed and its route dropped. -/
theorem dropRoute (h : s.OffMain x R) {y : Source} (hy : x ≠ y) :
    ((s.closeOutlet y).updSource y fun r => { r with route := none }).OffMain x R := (h.closeOutlet y).updOther hy _

/-! ### The product main -/

theorem shedOne (h : s.OffMain x R) {y : Source} (hy : x ≠ y) : (s.shedOne y).OffMain x R := by
  unfold State.shedOne
  split
  · exact ite h (((h.dropRoute hy).setMainRaw (sources_erase _ y)).turnAway hy _)
  · exact h

theorem ne_of_mem_joined (h : s.OffMain x R) {y : Source} (hy : y ∈ s.ir.main.joined) : x ≠ y := fun e =>
  h.away (e ▸ List.mem_append_right _ hy)

theorem shedJoined (h : s.OffMain x R) : s.shedJoined.OffMain x R :=
  foldl (fun _ _ hy hs => hs.shedOne (h.ne_of_mem_joined hy)) h

theorem headFor (h : s.OffMain x R) (t : TankIx) (st : MainState) : (s.headFor t st).OffMain x R :=
  ((h.setMain (m := { s.ir.main with state := st, next := some t }) fun _ hy => hy).command _ _).shedJoined

theorem changeover (h : s.OffMain x R) : s.changeover.1.OffMain x R := by
  simp only [State.changeover]
  split
  · exact h.headFor _ _
  · exact h

theorem closeNext (h : s.OffMain x R) : s.closeNext.OffMain x R := by
  unfold State.closeNext
  split
  · exact ite h (h.command _ _)
  · exact h

theorem chooseAgain (h : s.OffMain x R) : s.chooseAgain.1.OffMain x R := by
  unfold State.chooseAgain
  split
  · exact h.setMainRaw fun _ hy => hy
  · split
    · exact (h.setMain (m := { s.ir.main with state := .delivering, next := none }) fun _ hy => hy).shedJoined
    · split
      · exact h.headFor _ _
      · exact h.setMainRaw fun _ hy => hy

theorem loseNext (h : s.OffMain x R) : s.loseNext.1.OffMain x R := by
  rw [State.loseNext_eq]
  exact h.closeNext.chooseAgain

theorem release (h : s.OffMain x R) : s.release.OffMain x R := by
  have closed := foldl (l := s.ir.main.current.toList) (fun y t _ (hy : y.OffMain x R) => hy.command (.tank t .intake) .a) h
  have shut := foldl (l := s.ir.main.next.toList) (fun y t _ (hy : y.OffMain x R) => hy.command (.tank t .intake) .a) closed
  have ended := foldl (f := fun y t => y.entryEnd t .intake) (l := s.ir.main.current.toList)
    (fun y t _ (hy : y.OffMain x R) => hy.of_ir rfl) shut
  exact (ended.setMain (m := ProductMain.unused) fun y hy => nomatch hy).of_ir rfl

theorem tankForHolder (h : s.OffMain x R) : s.tankForHolder.1.OffMain x R := by
  unfold State.tankForHolder
  dsimp only
  generalize (match s.ir.main.heading, s.ir.main.cls with
    | some t, some c => s.holderGroup.contains t && s.canAccept c t
    | _, _ => false) = keeps
  rw [apply_ite Prod.fst, apply_ite Prod.fst]
  exact ite h (ite h.changeover h.loseNext)

theorem sources_follower {m : ProductMain} {y : Source} {l : List Source} (hj : m.joined = y :: l) :
    ∀ z ∈ ({ m with holder := some y, joined := l } : ProductMain).sources, z ∈ m.sources := fun z hz => by
  rw [ProductMain.sources, hj]
  exact List.mem_append_right _ hz

theorem leaveMain (h : s.OffMain x R) (n : Nat) {y : Source} (hy : x ≠ y) : (s.leaveMain n y).OffMain x R := by
  induction n generalizing s y with
  | zero => exact h
  | succ n ih =>
    have left := h.dropRoute hy
    simp only [State.leaveMain]
    refine ite (left.setMainRaw (sources_erase _ y)) ?_
    split
    · split
      · exact left.release
      · next z rest hj =>
        have hz := left.ne_of_mem_joined (hj ▸ List.mem_cons_self)
        have followed := (left.setMainRaw (sources_follower hj)).tankForHolder
        exact ite followed ((ih followed hz).turnAway hz _)
    · exact left

end OffMain

/-! ### A source that leaves the main (R85) -/

/-- A source that leaves the main keeps its record but for the route, and is off the main. -/
theorem leaveMain_self {s : State} (n : Nat) (x : Source) (h : s.ir.main.sources.Nodup) {R : SourceRecord → Prop}
    (hR : R { s.source x with route := none }) : (s.leaveMain (n + 1) x).OffMain x R := by
  have main : ((s.closeOutlet x).updSource x fun r => { r with route := none }).ir.main = s.ir.main :=
    ((Quiet.refl s).dropRoute x).main
  have record : R (((s.closeOutlet x).updSource x fun r => { r with route := none }).source x) := by
    have kept : (s.closeOutlet x).source x = s.source x := by
      rw [closeOutlet_eq]
      split
      · rfl
      · exact command_source _ _ _ _
    rw [updSource_source_self, kept]
    exact hR
  simp only [State.leaveMain, main]
  generalize (s.closeOutlet x).updSource x (fun r => { r with route := none }) = y at main record
  rw [ProductMain.sources, List.nodup_append] at h
  obtain ⟨-, joined, apart⟩ := h
  split
  · next hj =>
    refine ⟨by simpa using record, fun hx => ?_⟩
    rcases List.mem_append.mp hx with hx | hx
    · exact apart x hx x (List.contains_iff_mem.mp hj) rfl
    · exact (List.Nodup.not_mem_erase joined) hx
  · next hj =>
    have notJoined : x ∉ s.ir.main.joined := fun k => hj (List.contains_iff_mem.mpr k)
    split
    · split
      · have emptied : y.release.ir.main = ProductMain.unused := release_main y
        have kept : y.release.source x = y.source x := release_source y x
        exact ⟨kept ▸ record, by rw [emptied]; exact fun k => nomatch k⟩
      · next z rest hrest =>
        have follows : (y.setMainRaw { s.ir.main with holder := some z, joined := rest }).OffMain x R :=
          ⟨by simpa using record, fun hx => notJoined (by rw [hrest]; exact hx)⟩
        have hz : x ≠ z := fun e => notJoined (by rw [hrest, e]; exact List.mem_cons_self)
        split
        · exact follows.tankForHolder
        · exact (follows.tankForHolder.leaveMain n hz).turnAway hz _
    · next hh =>
      refine ⟨record, fun hx => ?_⟩
      rw [main] at hx
      rcases List.mem_append.mp hx with hx | hx
      · exact hh (by simpa using hx)
      · exact notJoined hx

end State
end Sys2Proof.Machine
end

section
/-!
PROOF. The decision for a source by its outcome (R80), and the end of the shore's episode (R92).
-/
namespace Sys2Proof.Machine
namespace State

variable {s : State} {x : Source} {k : Option Nat}

/-- The rule in force is recorded (R71). -/
def ruled (x : Source) (k : Option Nat) (s : State) : State := s.updSource x fun r => { r with rule := k }

theorem decideFor_off {d : DumpReason} (h : s.outcome x = (k, .off d)) : s.decideFor x =
    if s.ir.main.on x then ((s.ruled x k).leaveMain 4 x).turnAway x d else (s.ruled x k).keepOff x d := by
  simp only [State.decideFor, h, updSource_main]
  rfl

theorem decideFor_valveFault (h : s.outcome x = (k, .valveFault)) : s.decideFor x = (s.ruled x k).endShore .valveFault := by
  simp only [State.decideFor, h]
  rfl

theorem decideFor_on {rt : Route} (h : s.outcome x = (k, .main rt)) (hon : s.ir.main.on x = true) : s.decideFor x =
    if s.ir.main.cls = some rt.cls then (s.ruled x k).updSource x fun r => { r with route := some rt }
    else ((s.ruled x k).leaveMain 4 x).ask x rt := by
  simp only [State.decideFor, h, updSource_main, hon, if_true]
  rfl

/-- Off the main a source that wants it asks for it, the shore from PAUSED by way of OPENING. -/
theorem decideFor_ask {rt : Route} (h : s.outcome x = (k, .main rt)) (hon : s.ir.main.on x = false) : s.decideFor x =
    if x = .shore ∧ s.ir.shore.state = .paused then ((s.ruled x k).setShore .opening none).ask .shore rt
    else (s.ruled x k).ask x rt := by
  have shore : (s.updSource x fun r => { r with rule := k }).ir.shore.state = s.ir.shore.state := by cases x <;> rfl
  simp only [State.decideFor, h, updSource_main, hon, Bool.false_eq_true, if_false, shore]
  rfl

theorem endShore_closed (h : s.ir.shore.state = .closed) (e : EndReason) : s.endShore e = s := if_pos h

/-- The shore leaves the main, or has SH closed. -/
def shoreOff (s : State) : State := if s.ir.main.on .shore then s.leaveMain 4 .shore else s.command .shore .a

/-- Off the main the shore keeps its record but for the route. -/
theorem shoreOff_offMain (h : s.ir.main.sources.Nodup) {R : SourceRecord → Prop} (hR : R s.ir.shore)
    (hr : R { s.ir.shore with route := none }) : s.shoreOff.OffMain .shore R := by
  unfold shoreOff
  split
  · exact leaveMain_self 3 .shore h hr
  · next hon => exact OffMain.command ⟨hR, by rwa [ProductMain.mem_sources]⟩ _ _

/-- An episode ends with its reason, and no rule is in force (R92). -/
theorem endShore_eq (h : s.ir.shore.state ≠ .closed) (hn : s.ir.main.sources.Nodup) (e : EndReason) : s.endShore e =
    (s.shoreOff.updSource .shore fun r => { r with state := .closed, endReason := some e, rule := none }).report .intake 3 5
      e.code := by
  have opened : s.shoreOff.ir.shore.state ≠ .closed := (shoreOff_offMain hn (R := fun r => r.state ≠ .closed) h h).record
  rw [State.endShore, if_neg h]
  exact setShore_changed (s := s.shoreOff.updSource .shore fun r => { r with rule := none }) opened (some e)

end State
end Sys2Proof.Machine
end

section
open Sys2Proof Sys2Proof.Machine

/-- Settles O33: the outcome step by step, the tanks that can accept, and each decision by its outcome. -/
theorem decisionsFollowTheirSteps : Obligations.DecisionsFollowTheirSteps := by
  refine ⟨fun s x fits hfits rule hnone hsome allowed hallowed => ?_, fun s c t => ⟨s.intakeReady_iff t, State.classAdmits_iff _ c,
    s.canAccept_iff c t, fun _ _ => rfl⟩, ?_, ?_⟩
  · have same : fits = s.ruleFits x := funext fun r => propext (hfits r)
    subst same
    have matching : s.matchRule x = rule := by
      by_cases h : ∃ k : Fin 8, s.ruleFits x s.ir.rules[k]
      · obtain ⟨k, hk, hfirst⟩ := WellFounded.has_min wellFounded_lt {k : Fin 8 | s.ruleFits x s.ir.rules[k]} h
        have first (j : Fin 8) (hj : j < k) : ¬s.ruleFits x s.ir.rules[j] := fun hf => hfirst j hf hj
        rw [State.matchRule_first hk first, hsome k hk first]
      · have unfit (k : Fin 8) : ¬s.ruleFits x s.ir.rules[k] := fun hk => h ⟨k, hk⟩
        rw [State.matchRule_none unfit, hnone unfit]
    have allows : s.modeAllows x = allowed := Bool.eq_iff_iff.mpr ((s.modeAllows_iff x).trans hallowed.symm)
    rcases rule with _ | ⟨k, r⟩
    · simp only [State.outcome, matching, allows, Bool.not_eq_true']
    · cases ha : r.action <;> simp only [State.outcome, matching, allows, Bool.not_eq_true', ha]
  · rintro s x k y rfl
    refine ⟨fun d h => ⟨fun hon => ?_, fun hoff => ?_⟩, State.decideFor_valveFault, fun rt h => ⟨fun hon hc => ?_, fun hon hc => ?_,
      fun hoff hp => ?_, fun hoff hx hp => ?_⟩⟩
    · rw [State.decideFor_off h, if_pos hon]
      rfl
    · rw [State.decideFor_off h, if_neg (by simp [hoff])]
      rcases State.source_cases x with ⟨w, rfl⟩ | rfl
      · have source : (s.ruled w.source k).source w.source = { s.source w.source with rule := k } := by simp [State.ruled]
        have watermaker := State.Watermaker.source_ne_shore w
        rw [State.keepOff_watermaker, source]
        refine ⟨fun _ hd => by rw [if_pos hd]; rfl, fun _ hd => by rw [if_neg hd, State.outlet_watermaker]; rfl,
          fun e => absurd e watermaker, fun e => absurd e watermaker⟩
      · refine ⟨fun hne => absurd rfl hne, fun hne => absurd rfl hne, fun _ hd => ?_, fun _ hd => ?_⟩
        · rw [State.keepOff_shore hd]
          rfl
        · rw [hd, State.keepOff_paused]
          rfl
    · rw [State.decideFor_on h hon, if_pos hc]
      rfl
    · rw [State.decideFor_on h hon, if_neg hc]
      rfl
    · rw [State.decideFor_ask h hoff, if_neg hp]
      rfl
    · subst hx
      have paused : (s.ruled .shore k).ir.shore.state ≠ .opening := by
        rw [show (s.ruled .shore k).ir.shore.state = s.ir.shore.state from rfl, hp]
        decide
      rw [State.decideFor_ask h hoff, if_pos ⟨rfl, hp⟩, State.setShore_changed paused]
      rfl
  · intro s d
    refine ⟨fun w => by rw [State.turnAway_watermaker]; exact State.setMaker_eq _ _ _, fun hd => ?_, fun hd e he => ?_,
      fun e => ⟨fun h => State.endShore_closed h e, fun h hn => State.endShore_eq h hn e⟩⟩
    · rw [hd, State.turnAway_paused, State.setShore_eq]
      rfl
    · have reason : d.shoreEnd = e := by
        simp only [List.mem_cons, Prod.mk.injEq, List.not_mem_nil, or_false] at he
        rcases he with ⟨rfl, rfl⟩ | ⟨rfl, rfl⟩ | ⟨rfl, rfl⟩ | ⟨rfl, rfl⟩ | ⟨rfl, rfl⟩ | ⟨rfl, rfl⟩ <;> rfl
      rw [State.turnAway_closed hd, State.setShore_eq, reason]
      rfl
end

section
/-!
PROOF. How a source joins the main, leaves it, and hands it on (R83 to R85).
-/
namespace Sys2Proof.Machine
namespace State

variable {s : State} {x : Source}

/-! ### Joining (R84) -/

/-- A source joins a main in use; its outlet opens at once unless the main is OPENING. -/
theorem ask_joins {rt : Route} (hu : s.ir.main.state ≠ .unused)
    (h : s.ir.main.cls = some rt.cls ∧ s.ir.main.heading.any (rt.group.contains ·) = true) {y : State}
    (hy : y = ((s.updSource x fun r => { r with route := some rt }).setOnMain x).setMainRaw
      { s.ir.main with joined := s.ir.main.joined ++ [x] }) :
    s.ask x rt = if s.ir.main.state = .opening then y else y.command x.outlet .b := by
  have flows : (s.ir.main.state = .delivering ∨ s.ir.main.state = .changing) ↔ ¬s.ir.main.state = .opening := by
    cases hs : s.ir.main.state <;> simp_all
  subst hy
  rw [State.ask]
  dsimp only
  rw [if_neg hu, if_pos h]
  by_cases ho : s.ir.main.state = .opening
  · rw [if_pos ho, if_neg (fun k => flows.mp k ho)]
  · rw [if_neg ho, if_pos (flows.mpr ho)]
    rfl

/-- The place of a watermaker on the main, with its route. -/
theorem joined_watermaker (w : Watermaker) (rt : Route) (m : ProductMain) :
    ((s.updSource w.source fun r => { r with route := some rt }).setOnMain w.source).setMainRaw m =
      (if (s.source w.source).state = .routing ∧ (s.source w.source).dumpReason = none then id
        else State.report .intake w.source.code 3 0)
        ((s.updSource w.source fun r => { r with route := some rt, state := .routing, dumpReason := none }).setMainRaw m) := by
  rw [setOnMain_watermaker, setMaker_eq, updSource_source_self, updSource_updSource]
  by_cases h : (s.source w.source).state = .routing ∧ (s.source w.source).dumpReason = none
  · rw [if_pos h, if_pos h]
    refine congrArg (State.setMainRaw m) (updSource_congr ?_)
    obtain ⟨hs, hd⟩ := h
    rw [← hs, ← hd]
  · rw [if_neg h, if_neg h]
    rfl

theorem joined_shore (rt : Route) (m : ProductMain) :
    ((s.updSource .shore fun r => { r with route := some rt }).setOnMain .shore).setMainRaw m =
      (if s.ir.shore.state = .opening then id else State.report .intake 3 6 0)
        ((s.updSource .shore fun r => { r with route := some rt, state := .opening, endReason := none }).setMainRaw m) := by
  have shore : (s.updSource .shore fun r => { r with route := some rt }).ir.shore.state = s.ir.shore.state := rfl
  rw [setOnMain_shore, setShore_eq, updSource_updSource, shore]
  split <;> rfl

/-! ### Being turned away (R83, R84) -/

/-- A source that asks is kept off: by OVERFLOW where the main is UNUSED without a tank, by MAIN_CONFLICT where it does not fit. -/
theorem ask_keptOff {rt : Route} {d : DumpReason}
    (h : (s.ir.main.state = .unused ∧ s.choose rt.group rt.cls none = none ∧ d = .overflow) ∨
      (s.ir.main.state ≠ .unused ∧ d = .mainConflict ∧
        (s.ir.main.cls ≠ some rt.cls ∨ s.ir.main.heading.any (rt.group.contains ·) = false))) :
    s.ask x rt = s.keepOff x d := by
  rcases h with ⟨hu, hc, rfl⟩ | ⟨hu, rfl, hmis⟩
  · rw [State.ask]
    dsimp only
    rw [if_pos hu, hc]
  · have misfit : ¬(s.ir.main.cls = some rt.cls ∧ s.ir.main.heading.any (rt.group.contains ·) = true) := fun h =>
      hmis.elim (fun k => k h.1) fun k => by rw [h.2] at k; cases k
    rw [State.ask]
    dsimp only
    rw [if_neg hu, if_neg misfit]

/-! ### Leaving (R85) -/

/-- A source's outlet is closed and its route dropped. -/
def routeDropped (x : Source) (s : State) : State :=
  (if x ≠ .shore ∧ (s.valve x.outlet).state = .fault then s else s.command x.outlet .a).updSource x fun r => { r with route := none }

theorem routeDropped_eq (x : Source) : (s.closeOutlet x).updSource x (fun r => { r with route := none }) = s.routeDropped x := by
  rw [closeOutlet_eq, routeDropped]

@[simp] theorem routeDropped_main (x : Source) : (s.routeDropped x).ir.main = s.ir.main := by
  rw [← routeDropped_eq, ((Quiet.refl s).dropRoute x).main]

theorem leaveMain_joined (n : Nat) (h : x ∈ s.ir.main.joined) : s.leaveMain (n + 1) x =
    (s.routeDropped x).setMainRaw { s.ir.main with joined := s.ir.main.joined.erase x } := by
  simp only [State.leaveMain, routeDropped_eq, routeDropped_main, List.contains_iff_mem.mpr h, if_true]

theorem leaveMain_alone (n : Nat) (hj : s.ir.main.joined = []) (hh : s.ir.main.holder = some x) :
    s.leaveMain (n + 1) x = (s.routeDropped x).release := by
  simp [State.leaveMain, routeDropped_eq, hj, hh]

/-- The oldest joined source follows the holder, where it finds a tank; else it leaves too. -/
theorem leaveMain_followed (n : Nat) (hx : x ∉ s.ir.main.joined) (hh : s.ir.main.holder = some x) {h : Source}
    {rest : List Source} (hj : s.ir.main.joined = h :: rest) {z : State}
    (hz : z = (s.routeDropped x).setMainRaw { s.ir.main with holder := some h, joined := rest }) :
    s.leaveMain (n + 1) x = if z.tankForHolder.2 then z.tankForHolder.1
      else (z.tankForHolder.1.leaveMain n h).turnAway h .overflow := by
  have notJoined : ¬s.ir.main.joined.contains x = true := fun k => hx (List.contains_iff_mem.mp k)
  simp only [State.leaveMain, routeDropped_eq, routeDropped_main, notJoined, hh, if_true, Bool.false_eq_true, if_false]
  split
  · next hnil =>
    rw [hj] at hnil
    cases hnil
  · next g r hcons =>
    obtain ⟨rfl, rfl⟩ := List.cons.inj (hj.symm.trans hcons)
    rw [← hz]

theorem holderGroup_eq {h : Source} (hh : s.ir.main.holder = some h) : s.holderGroup = s.groupOf h := by
  simp only [State.holderGroup, hh]

/-- A changeover takes the first tank of the holder's group, other than the current one, that can accept. -/
theorem changeover_eq {c : QClass} (hc : s.ir.main.cls = some c) {h : Source} (hh : s.ir.main.holder = some h) :
    s.changeover = ((s.groupOf h).find? fun t => decide (some t ≠ s.ir.main.current) && s.canAccept c t).elim (s, false)
      fun t => (s.headFor t .changing, true) := by
  simp only [State.changeover, hc, holderGroup_eq hh, Option.bind_some, State.choose]
  cases (s.groupOf h).find? fun t => decide (some t ≠ s.ir.main.current) && s.canAccept c t <;> rfl

/-- A new holder keeps the heading tank, or a changeover runs in DELIVERING, or the next tank is lost. -/
theorem tankForHolder_eq {c : QClass} (hc : s.ir.main.cls = some c) {h : Source} (hh : s.ir.main.holder = some h) :
    s.tankForHolder = if (s.ir.main.heading.any fun t => (s.groupOf h).contains t && s.canAccept c t) = true then (s, true)
      else if s.ir.main.state = .delivering then
        ((s.groupOf h).find? fun t => decide (some t ≠ s.ir.main.current) && s.canAccept c t).elim (s, false)
          fun t => (s.headFor t .changing, true)
      else s.loseNext := by
  unfold State.tankForHolder
  dsimp only
  rw [hc, holderGroup_eq hh, changeover_eq hc hh]
  cases s.ir.main.heading <;> rfl

/-! ### Releasing (R85) -/

theorem foldl_toList {α : Type} (f : State → α → State) (o : Option α) : o.toList.foldl f s = o.elim s (f s) := by
  cases o <;> rfl

/-- A change of the main to UNUSED with its report. -/
theorem setMain_unused : s.setMain ProductMain.unused =
    (if s.ir.main.state = .unused ∧ s.ir.main.current = none ∧ s.ir.main.next = none then id
      else State.report .intake 0 0x13 0) (s.setMainRaw ProductMain.unused) := by
  simp only [State.setMain]
  split
  · next h => rw [if_pos (show s.ir.main.state = .unused ∧ s.ir.main.current = none ∧ s.ir.main.next = none from h), id]
  · next h =>
    rw [if_neg (show ¬(s.ir.main.state = .unused ∧ s.ir.main.current = none ∧ s.ir.main.next = none) from h)]
    rfl

end State
end Sys2Proof.Machine
end

section
open Sys2Proof Sys2Proof.Machine

/-- Settles O34: a source joins or is kept off, leaves by its place on the main, and joined sources stay or leave with a new heading
tank. -/
theorem sourcesJoinAndLeaveTheMain : Obligations.SourcesJoinAndLeaveTheMain := by
  intro s
  refine ⟨fun rt hu hc hg => ⟨fun w y hy => ?_, fun y hy => ?_⟩, fun rt d h => ⟨fun w => ?_, ?_⟩, fun x y hy =>
    ⟨fun hj => ?_, fun hj hh => ⟨fun hnil a ha b hb => ?_, fun g hg z hz c hc kept hkept => ?_⟩⟩, fun t st y hst hy =>
    ⟨fun hj => ?_, fun x hj ht => ?_⟩⟩
  · have joined := State.ask_joins (x := w.source) hu ⟨hc, hg⟩ rfl
    rw [State.joined_watermaker, ← hy, State.outlet_watermaker] at joined
    exact joined
  · have joined := State.ask_joins (x := .shore) hu ⟨hc, hg⟩ rfl
    rw [State.joined_shore, ← hy] at joined
    exact joined
  · rw [State.ask_keptOff h, State.keepOff_watermaker_eq]
  · have reason : d ≠ .probeCheck := by
      rcases h with ⟨_, _, rfl⟩ | ⟨_, rfl, _⟩ <;> decide
    rw [State.ask_keptOff h, State.keepOff_shore reason, State.turnAway_closed reason, State.setShore_eq, State.command_ir]
    rfl
  · rw [State.leaveMain_joined 3 hj, hy]
    rfl
  · have main : b.ir.main = s.ir.main := by
      have ended : b.ir = a.ir := by
        rw [hb]
        cases s.ir.main.current <;> rfl
      have closed : a.ir = y.ir := by
        rw [ha]
        cases s.ir.main.next <;> cases s.ir.main.current <;> simp
      have dropped : y = s.routeDropped x := hy
      rw [ended, closed, dropped, State.routeDropped_main]
    have emptied : (s.routeDropped x).release = (b.setMain ProductMain.unused).emit .decide := by
      rw [State.release, State.routeDropped_main, State.foldl_toList, State.foldl_toList, State.foldl_toList, hb, ha, hy]
      cases s.ir.main.next <;> cases s.ir.main.current <;> rfl
    rw [State.leaveMain_alone 3 hnil hh, emptied, State.setMain_unused, main]
  · obtain ⟨rest, hcons⟩ : ∃ rest, s.ir.main.joined = g :: rest := by
      cases hl : s.ir.main.joined with
      | nil => rw [hl] at hg; cases hg
      | cons g' rest =>
        rw [hl] at hg
        exact ⟨rest, by rw [Option.some.inj hg]⟩
    have tail : s.ir.main.joined.tail = rest := by rw [hcons, List.tail_cons]
    have hz' : z = (s.routeDropped x).setMainRaw { s.ir.main with holder := some g, joined := rest } := by
      rw [hz, hy, tail]
      rfl
    have main : z.ir.main = { s.ir.main with holder := some g, joined := rest } := by rw [hz']; rfl
    have follows := State.leaveMain_followed 3 hj hh hcons hz'
    have tank := State.tankForHolder_eq (s := z) (c := c) (h := g) (by rw [main]; exact hc) (by rw [main])
    have heading : z.ir.main.heading = s.ir.main.heading := by rw [main]; rfl
    have state : z.ir.main.state = s.ir.main.state := by rw [main]
    have current : z.ir.main.current = s.ir.main.current := by rw [main]
    rw [heading, state, current, ← hkept] at tank
    refine ⟨fun hk => ?_, fun hk q hq => ?_⟩
    · rw [follows, tank, if_pos hk]
      rfl
    · rw [if_neg (by rw [hk]; decide), ← hq] at tank
      rw [follows, tank]
  · rw [State.headFor_kept hst hj, hy]
    rfl
  · have headed : s.headed t st = y := hy.symm
    have main : y.ir.main = { s.ir.main with state := st, next := some t } := by rw [← headed, State.headed_main]
    have one : y.ir.main.joined = [x] := by rw [main]; exact hj
    have group : t ∉ y.groupOf x := by rw [← headed, State.groupOf_headed]; exact ht
    have shed : y.shedJoined = y.shedOne x := by rw [State.shedJoined, one]; rfl
    rw [State.headFor_eq hst, headed, shed, State.shedOne_shed (t := t) (by rw [main]; rfl) group, State.closeOutlet_eq, one,
      List.erase_cons_head]
end

section
/-!
PROOF. A shore that is CLOSED and off the main stays so through the notices of a step (R92): none of what the Intake Router does
with a notice begins an episode.
-/
namespace Sys2Proof.Machine
namespace State
namespace OffMain

section

variable {x : Source} {R : SourceRecord → Prop} {s : State}

/-! ### Operations on the other sources -/

theorem keepOff (h : s.OffMain x R) {y : Source} (hy : x ≠ y) (d : DumpReason) : (s.keepOff y d).OffMain x R := by
  unfold State.keepOff
  split
  · exact ite (h.turnAway hy _) ((h.command _ _).turnAway hy _)
  · exact ite h ((h.turnAway hy _).command _ _)

theorem setOnMain (h : s.OffMain x R) {y : Source} (hy : x ≠ y) : (s.setOnMain y).OffMain x R := by
  cases y with
  | wm1 => exact h.setMaker (w := .wm1) hy _ _
  | wm2 => exact h.setMaker (w := .wm2) hy _ _
  | shore => exact h.setShore hy _ _

theorem ask (h : s.OffMain x R) {y : Source} (hy : x ≠ y) (rt : Route) : (s.ask y rt).OffMain x R := by
  have routed := h.updOther hy fun r => { r with route := some rt }
  unfold State.ask
  dsimp only
  split
  · split
    · have taken : ((s.updSource y fun r => { r with route := some rt }).setMainRaw
          { s.ir.main with holder := some y, joined := [], cls := some rt.cls, refused := [] }).OffMain x R :=
        ⟨by simpa using routed.record, fun k => hy (List.mem_singleton.mp k)⟩
      exact (taken.headFor _ _).setOnMain hy
    · exact h.keepOff hy _
  · split
    · have placed := routed.setOnMain hy
      have joined : (((s.updSource y fun r => { r with route := some rt }).setOnMain y).setMainRaw
          { s.ir.main with joined := s.ir.main.joined ++ [y] }).OffMain x R := by
        refine ⟨by simpa using placed.record, fun k => ?_⟩
        rw [setMainRaw_main, ProductMain.sources, ← List.append_assoc] at k
        exact (List.mem_append.mp k).elim h.away fun k => hy (List.mem_singleton.mp k)
      exact ite (joined.command _ _) joined
    · exact h.keepOff hy _

theorem updatePermit (h : s.OffMain x R) {w : Watermaker} (hw : x ≠ w.source) : (s.updatePermit w).OffMain x R := by
  simp only [State.updatePermit]
  exact ite h (ite (h.updOther hw _) ((h.updOther hw _).report _ _ _ _))

theorem inhibit (h : s.OffMain x R) {w : Watermaker} (hw : x ≠ w.source) (c : InhibitCause) : (s.inhibit w c).OffMain x R := by
  simp only [State.inhibit]
  exact ite h (((h.updOther hw _).report _ _ _ _).updatePermit hw)

theorem keepDumpTimer (h : s.OffMain x R) {w : Watermaker} (hw : x ≠ w.source) : (s.keepDumpTimer w).OffMain x R := by
  rw [keepDumpTimer_eq]
  exact h.updOther hw _

theorem setGrade (h : s.OffMain x R) {y : Source} (hy : x ≠ y) (g : Grade) : (s.setGrade y g).OffMain x R := by
  simp only [State.setGrade]
  exact ite (h.updOther hy _) ((h.updOther hy _).report _ _ _ _)

/-! ### The main's handling of its tanks -/

theorem holderOverflow (h : s.OffMain x R) : s.holderOverflow.OffMain x R := by
  unfold State.holderOverflow
  split
  · next y hh =>
    have hy : x ≠ y := fun e => h.away (List.mem_append_left _ (by simp [hh, e]))
    exact (h.leaveMain 4 hy).turnAway hy _
  · exact h

theorem orOverflow {r : State × Bool} (h : r.1.OffMain x R) : (State.orOverflow r).OffMain x R := by
  unfold State.orOverflow
  exact ite h h.holderOverflow

theorem interruptTank (h : s.OffMain x R) (t : TankIx) : (s.interruptTank t).OffMain x R := by
  unfold State.interruptTank
  exact of_ir (ite h (h.command _ _)) rfl

theorem headAnew (h : s.OffMain x R) (next : Option TankIx) (c : Option QClass) : (s.headAnew next c).OffMain x R := by
  have opened := h.setMainRaw (m := { s.ir.main with state := .opening, current := none }) fun _ hy => hy
  unfold State.headAnew
  split
  · exact h.setMain fun _ hy => hy
  · dsimp only
    split
    · exact opened.headFor _ _
    · exact opened.holderOverflow

theorem interrupt (h : s.OffMain x R) : s.interrupt.OffMain x R := by
  have shut : (s.ir.main.sources.foldl State.interruptSource s).OffMain x R := by
    refine foldl (fun y z hz hy => ?_) h
    have ne : x ≠ z := fun e => h.away (e ▸ hz)
    unfold State.interruptSource
    split
    · exact ite ((hy.command _ _).setShore ne _ _) hy
    · exact hy.closeOutlet _
  rw [State.interrupt_eq]
  exact (foldl (fun _ t _ hy => hy.interruptTank t) shut).headAnew _ _

theorem setRefused (h : s.OffMain x R) (l : List TankIx) : (s.setMainRaw { s.ir.main with refused := l }).OffMain x R :=
  h.setMainRaw fun _ hy => hy

theorem mainOnTank (h : s.OffMain x R) (t : TankIx) : (s.mainOnTank t).OffMain x R := by
  simp only [State.mainOnTank]
  split
  · exact h
  · exact ite h.interrupt (ite h.loseNext.orOverflow (ite h.changeover.orOverflow h))

theorem nextOpened (h : s.OffMain x R) (t : TankIx) : (s.nextOpened t).OffMain x R := by
  unfold State.nextOpened
  split
  · exact h
  · next c _ =>
    have noted := h.of_ir ((Spares.refl (o := .ir) s).entryNotice t .intake c).ir
    dsimp only
    split
    · exact (noted.setRefused _).loseNext.orOverflow
    · split
      · refine OffMain.setMain (foldl (fun y u _ hy => ?_) noted) fun _ hy => ?_
        · exact (hy.command (.tank u .intake) .a).of_ir rfl
        · exact hy
      · exact foldl (fun y z _ hy => hy.command _ _) (noted.setMain fun _ hy => hy)

end

/-! ### A CLOSED shore -/

section

variable {R : SourceRecord → Prop} {s : State}

theorem watermaker_ne (w : Watermaker) : Source.shore ≠ w.source := by cases w <;> decide

variable (closed : ∀ r, R r → r.state = .closed)
include closed

theorem endShore (h : s.OffMain .shore R) (e : EndReason) : (s.endShore e).OffMain .shore R := by
  rw [endShore_closed (closed _ h.record)]
  exact h

theorem decideFor (h : s.OffMain .shore R) {y : Source} (hy : Source.shore ≠ y) : (s.decideFor y).OffMain .shore R := by
  have ruled (k : Option Nat) := h.updOther hy fun r => { r with rule := k }
  unfold State.decideFor
  dsimp only
  split
  · exact ite (((ruled _).leaveMain 4 hy).turnAway hy _) ((ruled _).keepOff hy _)
  · exact (ruled _).endShore closed _
  · split
    · exact ite ((ruled _).updOther hy _) (((ruled _).leaveMain 4 hy).ask hy _)
    · split
      · next hs => exact absurd hs.1.symm hy
      · exact (ruled _).ask hy _

/-- No decision is taken for a CLOSED shore. -/
theorem decideIf (h : s.OffMain .shore R) (y : Source) : (s.decideIf y).OffMain .shore R := by
  by_cases hy : Source.shore = y
  · subst hy
    rw [State.decideIf, closed _ h.record]
    exact h
  · exact ite (h.decideFor closed hy) h

theorem decideAll (h : s.OffMain .shore R) : s.decideAll.OffMain .shore R :=
  foldl (fun _ y _ hs => hs.decideIf closed y) h

theorem intakeTank (h : s.OffMain .shore R) (t : TankIx) : (s.intakeTank t).OffMain .shore R :=
  decideAll closed ((h.setRefused _).mainOnTank t)

theorem intakeConflict (h : s.OffMain .shore R) (t : TankIx) : (s.intakeConflict t).OffMain .shore R :=
  decideAll closed (ite h.interrupt h)

theorem intakeValve (h : s.OffMain .shore R) (v : Valve) (a : ValveAnswer) : (s.intakeValve v a).OffMain .shore R := by
  simp only [State.intakeValve]
  refine decideAll closed ?_
  split
  · exact ite (h.nextOpened _) h
  · exact ite h.loseNext.orOverflow (ite h.interrupt h)
  · exact h.inhibit (watermaker_ne _) _
  · split
    · next ho => exact absurd ((closed _ h.record).symm.trans ho.1) (by decide)
    · exact h
  · exact h.endShore closed _
  · exact h

theorem makerRise (h : s.OffMain .shore R) (w : Watermaker) : (s.makerRise w).OffMain .shore R := by
  have hw := watermaker_ne w
  have risen := (((h.setMaker hw .flushing none).setGrade hw .bad).command (.diverter w) .a).updOther hw
    fun r => { r with flush := some (after (((s.setMaker w .flushing none).setGrade w.source .bad).command (.diverter w)
      .a).clock (r.settings.flushTime * 10)) }
  simp only [State.makerRise]
  exact ite (ite risen (risen.decideAll closed)) h

theorem intakeMode (h : s.OffMain .shore R) (old new : Mode) : (s.intakeMode old new).OffMain .shore R := by
  have permitted := ((ite (c := old = .harbour) (h.endShore closed (if new = .fallback then .fallback else .mode)) h).updatePermit
    (watermaker_ne .wm1)).updatePermit (watermaker_ne .wm2)
  have rise {y : State} (w : Watermaker) (b : Bool) (hy : y.OffMain .shore R) :
      (if b then y.makerRise w else y).OffMain .shore R := ite (hy.makerRise closed w) hy
  simp only [State.intakeMode]
  exact decideAll closed (ite (rise _ _ (rise _ _ permitted)) permitted)

/-- A CLOSED shore off the main stays as it is while notices are taken. -/
theorem noticeLaw : NoticeLaw (OffMain .shore R) where
  spares h k := h.of_ir k.ir
  popped h _ _ := h.of_ir rfl
  decideAll h := h.decideAll closed
  intakeTank t h := h.intakeTank closed t
  intakeConflict t h := h.intakeConflict closed t
  intakeValve v a h := h.intakeValve closed v a
  intakeMode {s old new rest} h _ := OffMain.intakeMode closed (s := { s with msgs := rest }) (h.of_ir rfl) old new
  updMode _ h := h.of_ir rfl
  changeMode _ _ h := h.of_ir rfl
  keepDumpTimers h := OffMain.keepDumpTimer (h.keepDumpTimer (watermaker_ne .wm1)) (watermaker_ne .wm2)

end

end OffMain
end State
end Sys2Proof.Machine
end

section
/-!
PROOF. The shore's episode as its requests open and close it, and the end of a flush (R74, R83, R91, R92).
-/
namespace Sys2Proof.Machine
namespace State

variable {s : State} {x : Source}

/-! ### Taking the main (R83) -/

theorem headFor_alone {t : TankIx} {st : MainState} (h : st ≠ .unused) (hj : s.ir.main.joined = []) :
    s.headFor t st = s.headed t st := headFor_kept h fun y hy => by rw [hj] at hy; cases hy

/-- An UNUSED main is taken by the source that asks, and headed for the first tank that can accept. -/
def mainTaken (x : Source) (rt : Route) (t : TankIx) (s : State) : State :=
  ((s.updSource x fun r => { r with route := some rt }).setMainRaw
    { s.ir.main with holder := some x, joined := [], cls := some rt.cls, refused := [] }).headFor t .opening

theorem ask_takes {rt : Route} {t : TankIx} (hu : s.ir.main.state = .unused) (hc : s.choose rt.group rt.cls none = some t) :
    s.ask x rt = (s.mainTaken x rt t).setOnMain x := by
  rw [State.ask]
  dsimp only
  rw [if_pos hu, hc]
  rfl

theorem mainTaken_source (rt : Route) (t : TankIx) : (s.mainTaken x rt t).source x = { s.source x with route := some rt } := by
  rw [mainTaken, headFor_alone (by decide) rfl, headed_source, setMainRaw_source, updSource_source_self]

/-! ### Opening the shore (R91) -/

/-- The shore is OPENING, and its report is queued. -/
def shoreBegun (s : State) : State :=
  (s.updSource .shore fun r => { r with state := .opening, endReason := none }).report .intake 3 6 0

theorem openShore_eq (h : s.ir.shore.state = .closed) : s.openShore = s.shoreBegun.decideFor .shore := by
  have opening : s.ir.shore.state ≠ .opening := by rw [h]; decide
  exact congrArg (State.decideFor .shore) (setShore_changed opening none)

theorem shoreBegun_outcome : s.shoreBegun.outcome .shore = s.outcome .shore :=
  (outcome_report _ _ _ _).trans (outcome_updSource rfl rfl rfl)

theorem shoreBegun_ruled (k : Option Nat) : s.shoreBegun.ruled .shore k =
    (s.updSource .shore fun r => { r with state := .opening, endReason := none, rule := k }).report .intake 3 6 0 := rfl

/-- An episode that a dump ends at once. -/
theorem openShore_off (h : s.ir.shore.state = .closed) (hoff : s.ir.main.on .shore = false) (hcheck : s.ir.shore.check = none)
    {k : Option Nat} {d : DumpReason} (ho : s.outcome .shore = (k, .off d)) : s.openShore =
      (((s.updSource .shore fun r => { r with state := .closed, endReason := some d.shoreEnd, rule := k }).report .intake 3 6
        0).command .shore .a).report .intake 3 5 d.shoreEnd.code := by
  have noCheck : d ≠ .probeCheck := by
    rintro rfl
    have inFlight : s.ir.shore.check.isSome = true := check_of_outcome ho
    rw [hcheck] at inFlight
    cases inFlight
  have opened : ((s.shoreBegun.ruled .shore k).command .shore .a).ir.shore.state ≠ .closed := by
    rw [command_ir]
    exact fun e => nomatch e
  have notOn : ¬s.shoreBegun.ir.main.on .shore = true := by
    rw [show s.shoreBegun.ir.main = s.ir.main from rfl, hoff]
    exact Bool.false_ne_true
  rw [openShore_eq h, decideFor_off (shoreBegun_outcome.trans ho), if_neg notOn, keepOff_shore noCheck, turnAway_closed noCheck,
    setShore_changed opened, ← updSource_command, shoreBegun_ruled, report_updSource, updSource_updSource]
  rfl

/-- An episode that asks for the main. -/
theorem openShore_main (h : s.ir.shore.state = .closed) (hoff : s.ir.main.on .shore = false) {k : Option Nat} {rt : Route}
    (ho : s.outcome .shore = (k, .main rt)) : s.openShore = (s.shoreBegun.ruled .shore k).ask .shore rt := by
  have notPaused : ¬(Source.shore = .shore ∧ s.shoreBegun.ir.shore.state = .paused) := fun hp => nomatch hp.2
  rw [openShore_eq h, decideFor_ask (shoreBegun_outcome.trans ho) hoff, if_neg notPaused]

/-- The shore's state and end reason as they are. -/
theorem setShore_same {st : SourceState} {e : Option EndReason} (hs : s.ir.shore.state = st) (he : s.ir.shore.endReason = e) :
    s.setShore st e = s := by
  subst hs he
  rw [setShore_eq, if_pos rfl]
  exact updSource_id s .shore

/-- An episode that takes the main. -/
theorem openShore_takes (h : s.ir.shore.state = .closed) (hoff : s.ir.main.on .shore = false) {k : Option Nat} {rt : Route}
    {t : TankIx} (ho : s.outcome .shore = (k, .main rt)) (hu : s.ir.main.state = .unused)
    (hc : s.choose rt.group rt.cls none = some t) : s.openShore =
      ((((s.updSource .shore fun r =>
        { r with state := .opening, endReason := none, rule := k, route := some rt }).report .intake 3 6 0).setMainRaw
          { s.ir.main with holder := some .shore, joined := [], cls := some rt.cls, refused := [] }).headFor t .opening) ∧
      s.openShore.ir.shore.state = .opening ∧ s.openShore.ir.shore.endReason = none := by
  have source := mainTaken_source (s := s.shoreBegun.ruled .shore k) (x := .shore) rt t
  have state : ((s.shoreBegun.ruled .shore k).mainTaken .shore rt t).ir.shore.state = .opening :=
    congrArg SourceRecord.state source
  have reason : ((s.shoreBegun.ruled .shore k).mainTaken .shore rt t).ir.shore.endReason = none :=
    congrArg SourceRecord.endReason source
  have taken : s.openShore = (s.shoreBegun.ruled .shore k).mainTaken .shore rt t := by
    rw [openShore_main h hoff ho, ask_takes (s := s.shoreBegun.ruled .shore k) hu hc, setOnMain_shore, setShore_same state reason]
  refine ⟨?_, taken ▸ state, taken ▸ reason⟩
  rw [taken]
  exact congrArg (State.headFor t .opening) rfl

theorem optCode_eq {α : Type} (f : α → Nat) (o : Option α) : optCode f o = u8 ((o.map f).getD 0) := by cases o <;> rfl

/-! ### The end of a flush (R74) -/

variable {w : Watermaker} {k : Option Nat}

/-- The flush timer has run out, and the rule of the first decision is in force. -/
def flushed (w : Watermaker) (k : Option Nat) (s : State) : State :=
  s.updSource w.source fun r => { r with flush := none, rule := k }

theorem endFlush_running (h : (s.source w.source).state = .flushing) (hf : (s.source w.source).flush.isSome = true) :
    s.endFlush w = (s.updSource w.source fun r => { r with flush := none }).decideFor w.source := if_pos ⟨h, hf⟩

theorem endFlush_stopped (hf : (s.source w.source).flush = none) : s.endFlush w = s := if_neg fun h => by simp [hf] at h

theorem flushed_eq (w : Watermaker) (k : Option Nat) :
    (s.updSource w.source fun r => { r with flush := none }).ruled w.source k = s.flushed w k := updSource_updSource _ _ _ _

theorem flushed_outcome (w : Watermaker) : (s.updSource w.source fun r => { r with flush := none }).outcome w.source =
    s.outcome w.source := outcome_updSource rfl rfl rfl

/-- A flush after which the source dumps. -/
theorem endFlush_off (h : (s.source w.source).state = .flushing) (hf : (s.source w.source).flush.isSome = true)
    (hoff : s.ir.main.on w.source = false) {d : DumpReason} (ho : s.outcome w.source = (k, .off d)) : s.endFlush w =
      ((s.updSource w.source fun r => { r with flush := none, rule := k, state := .dumping, dumpReason := some d }).report .intake
        w.source.code 4 d.code).command (.diverter w) .a := by
  have flushing : ((s.flushed w k).source w.source).state = .flushing := by
    rw [flushed, updSource_source_self]
    exact h
  have notDumping : ¬(((s.flushed w k).source w.source).state = .dumping ∧
      ((s.flushed w k).source w.source).dumpReason = some d) := fun hd => nomatch flushing.symm.trans hd.1
  rw [endFlush_running h hf, decideFor_off ((flushed_outcome w).trans ho), updSource_main, if_neg (by rw [hoff]; decide),
    flushed_eq, keepOff_watermaker_eq, if_neg notDumping, flushed, updSource_updSource]

/-- A flush after which the source asks for the main. -/
theorem endFlush_main (h : (s.source w.source).state = .flushing) (hf : (s.source w.source).flush.isSome = true)
    (hoff : s.ir.main.on w.source = false) {rt : Route} (ho : s.outcome w.source = (k, .main rt)) :
    s.endFlush w = (s.flushed w k).ask w.source rt := by
  have notShore : ¬(w.source = .shore ∧ (s.updSource w.source fun r => { r with flush := none }).ir.shore.state = .paused) :=
    fun hs => Watermaker.source_ne_shore w hs.1
  rw [endFlush_running h hf, decideFor_ask ((flushed_outcome w).trans ho) (by rw [updSource_main]; exact hoff), if_neg notShore,
    flushed_eq]

/-- A flush after which the source takes the main. -/
theorem endFlush_takes (h : (s.source w.source).state = .flushing) (hf : (s.source w.source).flush.isSome = true)
    (hoff : s.ir.main.on w.source = false) {rt : Route} {t : TankIx} (ho : s.outcome w.source = (k, .main rt))
    (hu : s.ir.main.state = .unused) (hc : s.choose rt.group rt.cls none = some t) : s.endFlush w =
      (((((s.updSource w.source fun r => { r with flush := none, rule := k, route := some rt }).setMainRaw
        { s.ir.main with holder := some w.source, joined := [], cls := some rt.cls, refused := [] }).headFor t .opening).updSource
          w.source fun r => { r with state := .routing, dumpReason := none }).report .intake w.source.code 3 0) := by
  have unused : (s.flushed w k).ir.main.state = .unused := by rw [flushed, updSource_main]; exact hu
  have chosen : (s.flushed w k).choose rt.group rt.cls none = some t := by rw [flushed, choose_updSource]; exact hc
  have notRouting : ((((s.flushed w k).mainTaken w.source rt t)).source w.source).state ≠ .routing := by
    rw [mainTaken_source, flushed, updSource_source_self, h]
    decide
  have taken : (s.flushed w k).mainTaken w.source rt t =
      ((s.updSource w.source fun r => { r with flush := none, rule := k, route := some rt }).setMainRaw
        { s.ir.main with holder := some w.source, joined := [], cls := some rt.cls, refused := [] }).headFor t .opening := by
    rw [mainTaken, flushed, updSource_updSource, updSource_main]
  rw [endFlush_main h hf hoff ho, ask_takes unused chosen, setOnMain_watermaker, setMaker_changed notRouting, taken]
  rfl

end State

/-! ### The requests and the event -/

variable {s : State} {tag : Byte}

theorem exec_shoreOpen (hs : s.ready) (hm : s.mode = .harbour) (hst : s.ir.shore.state = .closed)
    (hc : s.ir.shore.check = none) (hf : (s.valve .shore).state ≠ .fault) :
    exec (.shoreOpen tag []) s = .next (s.openShore.answered 0x35 tag [] .ok (u8 s.openShore.ir.shore.state.code ++
      u8 ((s.openShore.ir.shore.endReason.map EndReason.code).getD 0))).deliver := by
  refine exec_accepted (r := ⟨0x35, tag, []⟩) (f := answerShoreOpen) rfl rfl hs ?_
  have free : ¬((s.taken ⟨0x35, tag, []⟩).ir.shore.state ≠ .closed ∨
      (s.taken ⟨0x35, tag, []⟩).ir.shore.check.isSome = true) := by
    rintro (h | h)
    · exact h hst
    · rw [show (s.taken ⟨0x35, tag, []⟩).ir.shore.check = none from hc] at h
      cases h
  have sound : ¬((s.taken ⟨0x35, tag, []⟩).valve .shore).state = .fault := hf
  simp only [answerShoreOpen, List.length_nil, ne_eq, not_true_eq_false, if_false, State.taken_mode, hm, if_neg free,
    if_neg sound, State.openShore_taken, State.optCode_eq]
  rfl

theorem exec_shoreOpen_elsewhere (hs : s.ready) (hm : s.mode ≠ .harbour) :
    exec (.shoreOpen tag []) s = .next (s.answered 0x35 tag [] .modeConflict []).deliver :=
  exec_refused (r := ⟨0x35, tag, []⟩) (f := answerShoreOpen) rfl rfl hs ((if_neg fun h => h rfl).trans (if_pos hm))

theorem exec_shoreOpen_busy (hs : s.ready) (hm : s.mode = .harbour)
    (hb : s.ir.shore.state ≠ .closed ∨ s.ir.shore.check.isSome = true) :
    exec (.shoreOpen tag []) s = .next (s.answered 0x35 tag [] .busy []).deliver :=
  exec_refused (r := ⟨0x35, tag, []⟩) (f := answerShoreOpen) rfl rfl hs
    ((if_neg fun h => h rfl).trans ((if_neg (not_not.mpr hm)).trans (if_pos hb)))

theorem exec_shoreOpen_faulted (hs : s.ready) (hm : s.mode = .harbour) (hst : s.ir.shore.state = .closed)
    (hc : s.ir.shore.check = none) (hf : (s.valve .shore).state = .fault) :
    exec (.shoreOpen tag []) s = .next (s.answered 0x35 tag [] .faultPresent []).deliver := by
  have free : ¬(s.ir.shore.state ≠ .closed ∨ s.ir.shore.check.isSome = true) := by simp [hst, hc]
  exact exec_refused (r := ⟨0x35, tag, []⟩) (f := answerShoreOpen) rfl rfl hs
    ((if_neg fun h => h rfl).trans ((if_neg (not_not.mpr hm)).trans ((if_neg free).trans (if_pos hf))))

theorem exec_shoreClose (hs : s.ready) :
    exec (.shoreClose tag []) s = .next ((s.endShore .host).answered 0x36 tag [] .ok []).deliver := by
  refine exec_accepted (r := ⟨0x36, tag, []⟩) (f := answerShoreClose) rfl rfl hs ?_
  rw [answerShoreClose, if_neg fun h => h rfl, State.endShore_taken]

theorem exec_flushEnd (hon : s.power = .on) (w : Watermaker) : exec (.flushEnd w) s = .next (s.endFlush w).deliver :=
  exec_event rfl hon rfl

/-- A shore that the host has closed: CLOSED by the host, with no rule in force. -/
def SourceRecord.closedByHost (r : SourceRecord) : Prop := r.state = .closed ∧ r.endReason = some .host ∧ r.rule = none

/-- The episode that the host ends stays ended while the notices are taken. -/
theorem State.endShore_host_deliver (h : s.ir.shore.state ≠ .closed) (hn : s.ir.main.sources.Nodup) (p q : List Byte) :
    (((s.endShore .host).answered 0x36 tag p .ok q).deliver).OffMain .shore SourceRecord.closedByHost := by
  have closed : (s.endShore .host).OffMain .shore SourceRecord.closedByHost := by
    obtain ⟨-, away⟩ := State.shoreOff_offMain hn (R := fun _ => True) trivial trivial
    rw [State.endShore_eq h hn]
    exact ⟨⟨rfl, rfl, rfl⟩, away⟩
  have answered : ((s.endShore .host).answered 0x36 tag p .ok q).OffMain .shore SourceRecord.closedByHost := closed.of_ir rfl
  exact (State.OffMain.noticeLaw fun _ hr => hr.1).deliver answered

theorem State.standsIn_endShore (s : State) (e : EndReason) : s.standsIn (s.endShore e) :=
  State.standsIn_of_intake (s.endShore_beyondIntake e) ((State.Grows.refl s).endShore e)

end Sys2Proof.Machine
end

section
open Sys2Proof Sys2Proof.Machine

/-- Settles O32: SHORE_OPEN and the end of a flush by the outcome of their decision, SHORE_CLOSE by the shore's state. -/
theorem shoreAndFlushTakeTheirDecision : Obligations.ShoreAndFlushTakeTheirDecision := by
  refine ⟨fun s tag hs => ⟨exec_shoreOpen_elsewhere hs, exec_shoreOpen_busy hs, exec_shoreOpen_faulted hs,
    fun hm hst hc hf hoff => ⟨fun k d ho => ?_, fun k rt t ho hu ht => ?_, fun k rt ho y hy => ?_⟩, fun hst => ?_,
    fun hst hn => ⟨⟨_, exec_shoreClose hs, ?_⟩, ?_⟩⟩, fun s w hon => ⟨fun hst hf hoff => ⟨fun k d ho => ?_,
    fun k rt t ho hu ht => ?_, fun k rt ho => ?_⟩, fun hf => ?_⟩⟩
  · have off := State.openShore_off hst hoff hc ho
    have shore : s.openShore.ir.shore = { s.ir.shore with state := .closed, endReason := some d.shoreEnd, rule := k } := by
      rw [off, State.report_ir, State.command_ir]
      rfl
    rw [exec_shoreOpen hs hm hst hc hf, shore, off]
    rfl
  · obtain ⟨taken, state, reason⟩ := State.openShore_takes hst hoff ho hu ht
    rw [exec_shoreOpen hs hm hst hc hf, state, reason, taken]
    rfl
  · have asked := State.openShore_main hst hoff ho
    rw [State.shoreBegun_ruled, ← hy] at asked
    rw [exec_shoreOpen hs hm hst hc hf, asked]
  · rw [exec_shoreClose hs, State.endShore_closed hst]
  · obtain ⟨⟨state, reason, rule⟩, -⟩ := State.endShore_host_deliver (tag := tag) hst hn [] []
    exact ⟨state, reason, rule, State.standsIn_trans (State.standsIn_answered (s.standsIn_endShore .host) _ _ _ _ _)
      (State.standsIn_deliver _)⟩
  · rw [exec_shoreClose hs, State.endShore_eq hst hn]
    rfl
  · rw [exec_flushEnd hon, State.endFlush_off hst hf hoff ho]
  · rw [exec_flushEnd hon, State.endFlush_takes hst hf hoff ho hu ht]
  · rw [exec_flushEnd hon, State.endFlush_main hst hf hoff ho]
    rfl
  · rw [exec_flushEnd hon, State.endFlush_stopped hf]
end

section
/-!
PROOF. How the main changes over, loses its next tank, delivers and is interrupted (R83, R86 to R88).
-/
namespace Sys2Proof.Machine
namespace State

variable {s : State} {c : QClass} {h : Source} {t : TankIx}

theorem holderOverflow_eq (hh : s.ir.main.holder = some h) : s.holderOverflow = (s.leaveMain 4 h).turnAway h .overflow := by
  simp only [State.holderOverflow, hh]

/-- A search for a tank ends with it or with the holder's OVERFLOW. -/
theorem orOverflow_elim (hh : s.ir.main.holder = some h) (o : Option TankIx) (f : TankIx → State) :
    State.orOverflow (o.elim (s, false) fun t => (f t, true)) = o.elim ((s.leaveMain 4 h).turnAway h .overflow) f := by
  cases o with
  | none => exact holderOverflow_eq hh
  | some t => rfl

theorem groupOf_of_ir {u : State} (hir : u.ir = s.ir) (x : Source) : u.groupOf x = s.groupOf x := by
  rw [State.groupOf, State.groupOf, source_of_ir hir]

/-- A change of the main that keeps it in use, with its report. -/
theorem setMain_changed {m : ProductMain}
    (hne : ¬(s.ir.main.state = m.state ∧ s.ir.main.current = m.current ∧ s.ir.main.next = m.next)) (hu : m.state ≠ .unused)
    (hh : m.heading = some t) : s.setMain m = (s.setMainRaw m).report .intake 0 0x13 (tankCode t) := by
  simp only [State.setMain, hne, if_false, hu, hh]
  rfl

theorem delivering_ne_unused : MainState.delivering ≠ .unused := by decide

/-! ### The loss of the next tank (R87) -/

theorem closeNext_eq (hn : s.ir.main.next = some t) :
    s.closeNext = if (s.valve (.tank t .intake)).state = .fault then s else s.command (.tank t .intake) .a := by
  simp only [State.closeNext, hn]

@[simp] theorem closeNext_ir : s.closeNext.ir = s.ir := by
  unfold State.closeNext
  split
  · split
    · rfl
    · rw [command_ir]
  · rfl

theorem chooseAgain_eq (hc : s.ir.main.cls = some c) (hh : s.ir.main.holder = some h) : s.chooseAgain =
    if s.ir.main.state = .changing ∧ s.ir.main.current.any (s.canAccept c) = true then
      ((s.setMain { s.ir.main with state := .delivering, next := none }).shedJoined, true)
    else ((s.groupOf h).find? fun t => decide (some t ≠ s.ir.main.current) && s.canAccept c t).elim
      (s.setMainRaw { s.ir.main with next := none }, false) fun t => (s.headFor t s.ir.main.state, true) := by
  unfold State.chooseAgain
  split
  · next absent => cases hc.symm.trans absent
  · next c' hc' =>
    obtain rfl := Option.some.inj (hc.symm.trans hc')
    rw [State.choose, holderGroup_eq hh]
    cases (s.groupOf h).find? fun t => decide (some t ≠ s.ir.main.current) && s.canAccept c t <;> rfl

/-- In CHANGING the current tank is kept where it can accept. -/
theorem chooseAgain_kept (hc : s.ir.main.cls = some c) (hh : s.ir.main.holder = some h) (hst : s.ir.main.state = .changing)
    {u : TankIx} (hu : s.ir.main.current = some u) (ha : s.canAccept c u = true) : s.chooseAgain =
      (((s.setMainRaw { s.ir.main with state := .delivering, next := none }).report .intake 0 0x13
        (tankCode u)).shedJoined, true) := by
  have left : s.ir.main.state ≠ .delivering := by rw [hst]; decide
  have keeps : s.ir.main.state = .changing ∧ s.ir.main.current.any (s.canAccept c) = true := ⟨hst, by rw [hu]; exact ha⟩
  have heading : ProductMain.heading { s.ir.main with state := .delivering, next := none } = some u := hu
  rw [chooseAgain_eq hc hh, if_pos keeps, setMain_changed (fun k => left k.1) delivering_ne_unused heading]

/-- Otherwise the first tank of the holder's group, other than the current one, that can accept is taken. -/
theorem chooseAgain_next (hc : s.ir.main.cls = some c) (hh : s.ir.main.holder = some h)
    (hno : s.ir.main.state ≠ .changing ∨ s.ir.main.current.any (s.canAccept c) = false) : s.chooseAgain =
      ((s.groupOf h).find? fun t => decide (some t ≠ s.ir.main.current) && s.canAccept c t).elim
        (s.setMainRaw { s.ir.main with next := none }, false) fun t => (s.headFor t s.ir.main.state, true) := by
  rw [chooseAgain_eq hc hh, if_neg]
  rintro ⟨hst, ha⟩
  exact hno.elim (fun k => k hst) fun k => Bool.false_ne_true (k.symm.trans ha)

/-! ### The next tank's answer at OPEN (R83, R86) -/

/-- A refused entry changes nothing. -/
theorem entryNotice_conflict {e : Entrant} (he : (s.entryNotice t e c).1 = .conflict) : (s.entryNotice t e c).2 = s := by
  simp only [State.entryNotice] at he ⊢
  split_ifs at he ⊢ <;> rfl

theorem nextOpened_conflict (hc : s.ir.main.cls = some c) (he : (s.entryNotice t .intake c).1 = .conflict) :
    s.nextOpened t = State.orOverflow (s.setMainRaw { s.ir.main with refused := s.ir.main.refused ++ [t] }).loseNext := by
  have answer : s.entryNotice t .intake c = (.conflict, s) := Prod.ext he (entryNotice_conflict he)
  unfold State.nextOpened
  split
  · next absent => cases hc.symm.trans absent
  · next c' hc' =>
    obtain rfl := Option.some.inj (hc.symm.trans hc')
    rw [answer]

/-- The main once its next tank is entered: it completes its changeover, or begins to deliver. -/
def tankEntered (t : TankIx) (s : State) : State :=
  if s.ir.main.state = .changing then
    let u := s.ir.main.current.toList.foldl (fun s u => (s.command (.tank u .intake) .a).entryEnd u .intake) s
    u.setMain { u.ir.main with state := .delivering, current := some t, next := none }
  else s.ir.main.sources.foldl State.openOutlet
    (s.setMain { s.ir.main with state := .delivering, current := some t, next := none })

theorem nextOpened_tankEntered (hc : s.ir.main.cls = some c) (he : (s.entryNotice t .intake c).1 ≠ .conflict) :
    s.nextOpened t = (s.entryNotice t .intake c).2.tankEntered t := by
  unfold State.nextOpened
  split
  · next absent => cases hc.symm.trans absent
  · next c' hc' =>
    obtain rfl := Option.some.inj (hc.symm.trans hc')
    generalize s.entryNotice t .intake c = answered at he ⊢
    obtain ⟨answer, e⟩ := answered
    cases answer with
    | conflict => exact absurd rfl he
    | adopted => rfl
    | kept => rfl

theorem tankEntered_changing {m : ProductMain} (hm : s.ir.main = m) (hst : m.state = .changing) {u : TankIx}
    (hu : m.current = some u) : s.tankEntered t = (((s.command (.tank u .intake) .a).entryEnd u .intake).setMainRaw
      { m with state := .delivering, current := some t, next := none }).report .intake 0 0x13 (tankCode t) := by
  have ended : ((s.command (.tank u .intake) .a).entryEnd u .intake).ir.main = m :=
    (((Quiet.refl s).close _).entryEnd u .intake).main.trans hm
  have left : ((s.command (.tank u .intake) .a).entryEnd u .intake).ir.main.state ≠ .delivering := by rw [ended, hst]; decide
  rw [tankEntered, if_pos (by rw [hm]; exact hst), foldl_toList, hm, hu]
  refine (setMain_changed (fun k => left k.1) delivering_ne_unused rfl).trans ?_
  rw [Option.elim, ended]

theorem tankEntered_opening {m : ProductMain} (hm : s.ir.main = m) (hst : m.state = .opening) : s.tankEntered t =
    m.sources.foldl State.openOutlet ((s.setMainRaw { m with state := .delivering, current := some t, next := none }).report
      .intake 0 0x13 (tankCode t)) := by
  subst hm
  have opening : ¬s.ir.main.state = .changing := by rw [hst]; decide
  have left : s.ir.main.state ≠ .delivering := by rw [hst]; decide
  rw [tankEntered, if_neg opening, setMain_changed (fun k => left k.1) delivering_ne_unused rfl]

/-! ### An interruption (R88) -/

theorem interruptSource_eq (x : Source) : s.interruptSource x =
    if x = .shore then
      (if s.ir.shore.state = .filling then
        ((s.command .shore .a).updSource .shore fun r => { r with state := .opening, endReason := none }).report .intake 3 6 0
      else s)
    else if (s.valve x.outlet).state = .fault then s else s.command x.outlet .a := by
  rcases source_cases x with ⟨w, rfl⟩ | rfl
  · rw [if_neg (Watermaker.source_ne_shore w)]
    cases w <;> rfl
  · have filling (hf : s.ir.shore.state = .filling) : (s.command .shore .a).ir.shore.state ≠ .opening := by
      rw [command_ir, hf]
      decide
    have shore : s.interruptSource .shore =
        if s.ir.shore.state = .filling then (s.command .shore .a).setShore .opening none else s := rfl
    rw [if_pos rfl, shore]
    by_cases hf : s.ir.shore.state = .filling
    · rw [if_pos hf, if_pos hf, setShore_changed (filling hf)]
      rfl
    · rw [if_neg hf, if_neg hf]

theorem updSource_groupOf {f : SourceRecord → SourceRecord} (hf : ∀ r, (f r).route = r.route) (x y : Source) :
    (s.updSource x f).groupOf y = s.groupOf y := by
  have route : ((s.updSource x f).source y).route = (s.source y).route := by
    by_cases hy : y = x
    · rw [hy, updSource_source_self, hf]
    · rw [updSource_source_ne _ f hy]
  rw [State.groupOf, State.groupOf, route]

/-- An interruption keeps the routes. -/
theorem interruptSource_groupOf (x y : Source) : (s.interruptSource x).groupOf y = s.groupOf y := by
  rw [interruptSource_eq]
  split_ifs
  · rw [groupOf_of_ir (report_ir _ _ _ _ _), updSource_groupOf (s := s.command .shore .a),
      groupOf_of_ir (command_ir _ _ _)]
    exact fun _ => rfl
  · rfl
  · rfl
  · exact groupOf_of_ir (command_ir _ _ _) y

theorem interruptSources_kept (l : List Source) (y : Source) :
    (l.foldl State.interruptSource s).ir.main = s.ir.main ∧
      (l.foldl State.interruptSource s).groupOf y = s.groupOf y := by
  induction l generalizing s with
  | nil => exact ⟨rfl, rfl⟩
  | cons x l ih =>
    obtain ⟨main, group⟩ := ih (s := s.interruptSource x)
    exact ⟨main.trans ((Quiet.refl s).interruptSource x).main, group.trans (interruptSource_groupOf x y)⟩

theorem interruptTank_ir : (s.interruptTank t).ir = s.ir := by
  rw [State.interruptTank]
  split
  · rfl
  · exact command_ir _ _ _

/-- Towards a next tank the main is OPENING. -/
theorem headAnew_some {m : ProductMain} (hm : s.ir.main = m) (hcur : m.current ≠ none) {n : TankIx} (hn : m.next = some n)
    (k : Option QClass) : s.headAnew (some n) k =
      (s.setMainRaw { m with state := .opening, current := none }).report .intake 0 0x13 (tankCode n) := by
  subst hm
  have heading : ProductMain.heading { s.ir.main with state := .opening, current := none } = some n := by
    rw [ProductMain.heading, hn]
    rfl
  have opening : MainState.opening ≠ .unused := by decide
  rw [State.headAnew, setMain_changed (fun k => hcur k.2.1) opening heading]

/-- Without a next tank the first tank of the holder's group that can accept is headed for. -/
theorem headAnew_none {m : ProductMain} (hm : s.ir.main = m) (hh : m.holder = some h) {z : State}
    (hz : z = s.setMainRaw { m with state := .opening, current := none }) : s.headAnew none (some c) =
      ((z.groupOf h).find? (z.canAccept c)).elim ((z.leaveMain 4 h).turnAway h .overflow) fun n => z.headFor n .opening := by
  have holder : z.ir.main.holder = some h := by rw [hz]; exact hh
  have found : (fun t : TankIx => decide (some t ≠ none) && z.canAccept c t) = z.canAccept c := by
    funext t
    simp
  have anew : s.headAnew none (some c) = (z.choose z.holderGroup c none).elim z.holderOverflow fun n => z.headFor n .opening := by
    subst hm hz
    rw [State.headAnew, Option.bind_some]
    cases State.choose _ _ c none <;> rfl
  rw [anew, State.choose, found, holderGroup_eq holder, holderOverflow_eq holder]

/-- The flow into the current tank is interrupted: the outlets close, the entry ends, and the main is OPENING. -/
def interrupted (s : State) (t : TankIx) : State :=
  ((s.ir.main.sources.foldl State.interruptSource s).interruptTank t).setMainRaw
    { s.ir.main with state := .opening, current := none }

theorem interrupt_current (hc : s.ir.main.cls = some c) (hh : s.ir.main.holder = some h) (ht : s.ir.main.current = some t) :
    s.interrupt = s.ir.main.next.elim
      (((s.groupOf h).find? ((s.interrupted t).canAccept c)).elim (((s.interrupted t).leaveMain 4 h).turnAway h .overflow)
        fun n => (s.interrupted t).headFor n .opening)
      fun n => (s.interrupted t).report .intake 0 0x13 (tankCode n) := by
  obtain ⟨main, group⟩ := interruptSources_kept (s := s) s.ir.main.sources h
  have tankMain : ((s.ir.main.sources.foldl State.interruptSource s).interruptTank t).ir.main = s.ir.main := by
    rw [interruptTank_ir, main]
  rw [State.interrupt_eq, foldl_toList, ht, hc]
  cases hn : s.ir.main.next with
  | some n =>
    exact headAnew_some tankMain (by rw [ht]; exact fun e => nomatch e) hn _
  | none =>
    have routes : (s.interrupted t).groupOf h = s.groupOf h :=
      (groupOf_of_ir interruptTank_ir h).trans group
    rw [← routes]
    exact headAnew_none tankMain hh rfl

/-! ### The main's handling of a tank -/

theorem mainOnTank_other (hcur : s.ir.main.current ≠ some t) (hn : s.ir.main.next ≠ some t) : s.mainOnTank t = s := by
  simp only [State.mainOnTank, hcur, hn, false_and, if_false]
  split <;> rfl

theorem mainOnTank_interrupt (hc : s.ir.main.cls = some c) (ht : s.ir.main.current = some t)
    (ha : classAdmits (s.tank t) c = false) : s.mainOnTank t = s.interrupt := by
  simp only [State.mainOnTank, hc, ht, ha, and_self, if_true]

theorem mainOnTank_lost (hc : s.ir.main.cls = some c) (hn : s.ir.main.next = some t) (hcur : s.ir.main.current ≠ some t)
    (ha : s.canAccept c t = false) : s.mainOnTank t = State.orOverflow s.loseNext := by
  simp only [State.mainOnTank, hc, hn, hcur, ha, false_and, and_self, if_true, if_false]

theorem mainOnTank_changeover (hc : s.ir.main.cls = some c) (ht : s.ir.main.current = some t)
    (ha : classAdmits (s.tank t) c = true) (hst : s.ir.main.state = .delivering) (hn : s.ir.main.next = none)
    (hr : s.intakeReady t = false) : s.mainOnTank t = State.orOverflow s.changeover := by
  simp [State.mainOnTank, hc, ht, ha, hst, hn, hr]

/-! ### The notices that bring it -/

theorem take_intakeAtB : s.take (.valve (.tank t .intake) .atB) =
    (if s.ir.main.next = some t then s.nextOpened t else s).decideAll := rfl

theorem take_intakeFailed (f : ValveFault) : s.take (.valve (.tank t .intake) (.failed f)) =
    (if s.ir.main.next = some t then State.orOverflow s.loseNext
      else if s.ir.main.current = some t then s.interrupt else s).decideAll := rfl

theorem take_intakeConflict : s.take (.conflict t .intake) =
    (if s.ir.main.current = some t then s.interrupt else s).decideAll := rfl

end State
end Sys2Proof.Machine
end

section
open Sys2Proof Sys2Proof.Machine

/-- Settles O35: changeover, loss and opening of the next tank, and the interruption, each by the handling of the notice that
brings it. -/
theorem theMainChangesItsTanks : Obligations.TheMainChangesItsTanks := by
  intro s c hc h hh
  refine ⟨fun t ht ha hst hn hr => ?_, fun t hn y hy lost hlost => ?_, fun t ht y hy z hz u hu => ?_,
    fun t => State.mainOnTank_other, fun t ht => ?_, fun t ht => ?_⟩
  · rw [State.mainOnTank_changeover hc ht ha hst hn hr, State.changeover_eq hc hh, State.orOverflow_elim hh, ht]
    simp only [ne_eq, Option.some.injEq]
  · have closed : s.closeNext = y := (State.closeNext_eq hn).trans hy.symm
    have ir : y.ir = s.ir := by rw [← closed, State.closeNext_ir]
    have main : y.ir.main = s.ir.main := by rw [ir]
    have holder : y.ir.main.holder = some h := by rw [main, hh]
    have loses : lost = State.orOverflow y.chooseAgain := by rw [hlost, State.loseNext_eq, closed]
    refine ⟨fun hst u hu ha => ?_, fun hno => ?_, fun ha hcur => ?_, fun f => ?_, fun e he => ⟨fun hcon => ?_,
      fun hne hst u hu _ => ?_, fun hne hst => ?_⟩⟩
    · rw [loses, State.chooseAgain_kept (by rw [main, hc]) holder (by rw [main, hst]) (by rw [main, hu]) ha, main]
      rfl
    · have without : (y.setMainRaw { s.ir.main with next := none }).ir.main.holder = some h := hh
      rw [loses, State.chooseAgain_next (by rw [main, hc]) holder (by rw [main]; exact hno), State.groupOf_of_ir ir, main]
      cases (s.groupOf h).find? fun u => decide (some u ≠ s.ir.main.current) && y.canAccept c u with
      | none => exact State.holderOverflow_eq without
      | some u => rfl
    · rw [State.mainOnTank_lost hc hn hcur ha, hlost]
    · rw [State.take_intakeFailed, if_pos hn, hlost]
    · rw [State.take_intakeAtB, if_pos hn, State.nextOpened_conflict hc (he ▸ hcon)]
    · have entered : e.2.ir.main = s.ir.main := by rw [he, ((State.Quiet.refl s).entryNotice t .intake c).main]
      rw [State.take_intakeAtB, if_pos hn, State.nextOpened_tankEntered hc (he ▸ hne), ← he,
        State.tankEntered_changing entered hst hu]
    · have entered : e.2.ir.main = s.ir.main := by rw [he, ((State.Quiet.refl s).entryNotice t .intake c).main]
      rw [State.take_intakeAtB, if_pos hn, State.nextOpened_tankEntered hc (he ▸ hne), ← he,
        State.tankEntered_opening entered hst]
      rfl
  · have sources : y = s.ir.main.sources.foldl State.interruptSource s := by
      have each (a : State) (x : Source) := (State.interruptSource_eq (s := a) x).symm
      exact hy.trans (congrArg (fun f => s.ir.main.sources.foldl f s) (funext₂ each))
    have interrupts : s.interrupt = u := by
      have state : z = s.interrupted t := by rw [hz, sources]; rfl
      rw [State.interrupt_current hc hh ht, hu, state]
      cases s.ir.main.next <;> rfl
    refine ⟨?_, fun ha => ?_, fun hn f => ?_⟩
    · rw [State.take_intakeConflict, if_pos ht, interrupts]
    · rw [State.mainOnTank_interrupt hc ht ha, interrupts]
    · rw [State.take_intakeFailed, if_neg hn, if_pos ht, interrupts]
  · rw [State.take_intakeConflict, if_neg ht]
  · rw [State.take_intakeAtB, if_neg ht]
end

section
/-!
PROOF. What the operations of the other blocks leave of the Transfer Engine's record, how an order and a channel are read after
an update of them, and the engine's shared operations in the terms of Safety.lean: a stop of a run (R134), the end of a leg and
its return (R106, R107, R136).
-/
namespace Sys2Proof.Machine
namespace State

variable {s u : State}

/-! ### The engine's record under the other blocks -/

theorem te_of_actuators (h : u.beyondActuators = s.beyondActuators) : u.te = s.te :=
  show u.beyondActuators.te = s.beyondActuators.te by rw [h]

theorem te_of_intake (h : u.beyondIntake = s.beyondIntake) : u.te = s.te :=
  show u.beyondIntake.te = s.beyondIntake.te by rw [h]

theorem te_of_supply (h : u.beyondSupply = s.beyondSupply) : u.te = s.te :=
  show u.beyondSupply.te = s.beyondSupply.te by rw [h]

theorem te_of_modes (h : u.beyondModes = s.beyondModes) : u.te = s.te :=
  show u.beyondModes.te = s.beyondModes.te by rw [h]

theorem te_of_entries (h : u.beyondEntries = s.beyondEntries) : u.te = s.te :=
  show u.beyondEntries.te = s.beyondEntries.te by rw [h]

/-- Operations one after another that leave the engine's record. -/
theorem foldl_te {α : Type} {f : State → α → State} (hf : ∀ x a, (f x a).te = x.te) (l : List α) (s : State) :
    (l.foldl f s).te = s.te := foldl_same State.te f hf l s

@[simp] theorem command_te (s : State) (v : Valve) (e : ValveEnd) : (s.command v e).te = s.te :=
  te_of_actuators (s.command_beyondActuators v e)

@[simp] theorem pumpStart_te (s : State) (c : Channel) : (s.pumpStart c).te = s.te :=
  te_of_actuators (s.pumpStart_beyondActuators c)

@[simp] theorem pumpStop_te (s : State) (c : Channel) : (s.pumpStop c).te = s.te :=
  te_of_actuators (s.pumpStop_beyondActuators c)

@[simp] theorem entryEnd_te (s : State) (t : TankIx) (e : Entrant) : (s.entryEnd t e).te = s.te := rfl

@[simp] theorem entryNotice_te (s : State) (t : TankIx) (e : Entrant) (w : QClass) : (s.entryNotice t e w).2.te = s.te :=
  te_of_entries (s.entryNotice_beyondEntries t e w)

@[simp] theorem closeValves_te (s : State) (c : Channel) : (s.closeValves c).te = s.te :=
  foldl_te (fun x _ => x.command_te _ _) _ s

@[simp] theorem releaseClaims_te (s : State) (c : Channel) : (s.releaseClaims c).te = s.te :=
  foldl_te (f := fun (x : State) t => x.updTank t fun r => { r with claim := none }) (fun _ _ => rfl) _ s

theorem chan_of_te (h : u.te = s.te) (c : Channel) : u.chan c = s.chan c := by
  cases c <;> simp only [State.chan, h]

theorem order_of_te (h : u.te = s.te) (id : Nat) : u.order id = s.order id := by simp only [State.order, h]

theorem runLeg_of_te (h : u.te = s.te) (c : Channel) : u.runLeg c = s.runLeg c := by
  simp only [State.runLeg, chan_of_te h, order_of_te h]

theorem runOver_of_te (h : u.te = s.te) (c : Channel) : u.runOver c = s.runOver c := by
  simp only [State.runOver, chan_of_te h]

/-! ### Channels and orders after an update -/

theorem updChan_updChan (s : State) (c : Channel) (f g : ChannelRecord → ChannelRecord) :
    (s.updChan c f).updChan c g = s.updChan c fun r => g (f r) := by
  cases c <;> rfl

/-- An update of a channel depends on what it makes of that channel's record alone. -/
theorem updChan_congr {c : Channel} {f g : ChannelRecord → ChannelRecord} (h : f (s.chan c) = g (s.chan c)) :
    s.updChan c f = s.updChan c g := by
  cases c <;> simp only [State.updChan, State.chan] at h ⊢ <;> rw [h]

/-- A report and the update of a channel come in either order. -/
theorem report_updChan (s : State) (k : ReportKind) (x y z : Nat) (c : Channel) (f : ChannelRecord → ChannelRecord) :
    (s.report k x y z).updChan c f = (s.updChan c f).report k x y z := by
  cases c <;> rfl

theorem updChan_order_of (s : State) (c : Channel) (f : ChannelRecord → ChannelRecord) (id : Nat) :
    (s.updChan c f).order id = s.order id := by cases c <;> rfl

/-- An update of an order depends on what it makes of the orders with that id. -/
theorem updOrder_congr {id : Nat} {f g : Order → Order} (h : ∀ y ∈ s.te.orders, y.id = id → f y = g y) :
    s.updOrder id f = s.updOrder id g := by
  have same : (s.te.orders.map fun o => if o.id = id then f o else o) = s.te.orders.map fun o => if o.id = id then g o else o :=
    List.map_congr_left fun y hy => by
      split
      · exact h y hy ‹_›
      · rfl
  simp only [State.updOrder, same]

/-- The order with an id, after an update that keeps the ids. -/
theorem updOrder_order {f : Order → Order} (hf : ∀ o, (f o).id = o.id) (s : State) (id : Nat) :
    (s.updOrder id f).order id = (s.order id).map f := by
  simp only [State.order, State.updOrder, List.find?_map]
  have same : ((fun o : Order => decide (o.id = id)) ∘ fun o => if o.id = id then f o else o) = fun o => decide (o.id = id) := by
    funext o
    by_cases h : o.id = id <;> simp [h, hf]
  rw [same]
  cases h : s.te.orders.find? fun o => decide (o.id = id) with
  | none => rfl
  | some o =>
    have hid : o.id = id := order_id (s := s) h
    simp [hid]

theorem order_mem {id : Nat} {o : Order} (h : s.order id = some o) : o ∈ s.te.orders := List.mem_of_find?_eq_some h

/-- In a store with distinct ids the order of an id is the one that carries it (R98). -/
theorem eq_of_id (h : (s.te.orders.map (·.id)).Nodup) {x y : Order} (hx : x ∈ s.te.orders) (hy : y ∈ s.te.orders)
    (hid : x.id = y.id) : x = y := List.inj_on_of_nodup_map h hx hy hid

theorem order_of_mem (h : (s.te.orders.map (·.id)).Nodup) {o : Order} (ho : o ∈ s.te.orders) : s.order o.id = some o := by
  cases hf : s.order o.id with
  | none =>
    have := List.find?_eq_none.mp hf o ho
    simp at this
  | some x => exact congrArg some (eq_of_id h (order_mem hf) ho (order_id hf))

/-! ### The end of a run, and its return (R106, R107, R136) -/

/-- Closing a run is storing its outcome and freeing its channel (R136, steps 1 to 3). -/
theorem closeRun_eq (s : State) (c : Channel) (k : StopCause) :
    s.closeRun c k = (State.storeOutcome (s.chan c).order k s).channelFreed c := by
  have freed (x : State) : x.channelFreed c = ((x.releaseClaims c).updChan c fun r =>
      { r with claims := [], order := none, phase := none, stop := none, lined := none, runFactor := none,
               runNoFlow := none, signAtStart := none, movedAtStart := 0, runPulses := 0 }).setChannel c
        (if (x.chan c).state = .stoppingForOut then .out else .idle) := by
    unfold State.channelFreed State.setChannel
    dsimp only
    rw [updChan_updChan]
    congr 1
    rw [updChan_chan_self]
    by_cases h : (x.chan c).state = .stoppingForOut <;> simp [h, ChannelRecord.reportValue]
    rfl
  rw [freed]
  unfold State.closeRun
  dsimp only
  rw [updChan_chan_self, chan_of_te (releaseClaims_te _ c)]
  rfl

/-- A leg ends as its order's report says (R106). -/
theorem endLeg_eq {o : Order} (h : s.order o.id = some o) (r : LegResult) :
    s.endLeg o.id o.current r = s.legResult o r := by
  have ids (y : Order) : (y.updLeg o.current fun l => { l with result := some r }).id = y.id := rfl
  unfold State.endLeg State.legResult State.updLeg
  dsimp only
  rw [updOrder_order ids, h]
  simp only [Option.map_some, Option.bind_some, Order.updLeg, Order.leg, List.getElem?_modify_eq, Option.map_eq_map,
    Option.map_map]
  rfl

/-- An order that enters another state than ACTIVE, off its channel (R104, R121). -/
theorem enterOrder_left {o : Order} {st : OrderState} {f : Order → Order} {current : Nat} {held : Bool}
    (h : (s.order o.id).isSome) (hst : st ≠ .active)
    (hf : ∀ y ∈ s.te.orders, y.id = o.id → f { y with state := st } =
      { y with state := st, channel := none, current := current, heldByFallback := held }) :
    s.enterOrder o.id st f = s.orderLeft o st current held := by
  obtain ⟨x, hx⟩ := Option.isSome_iff_exists.mp h
  have left : (s.updOrder o.id fun y => f { y with state := st }) = s.updOrder o.id fun y =>
      { y with state := st, channel := none, current := current, heldByFallback := held } := updOrder_congr hf
  have found := updOrder_order (f := fun y : Order =>
    { y with state := st, channel := none, current := current, heldByFallback := held }) (fun _ => rfl) s o.id
  rw [hx, Option.map_some] at found
  have off {y : State} (hy : y.te.orders = (s.updOrder o.id fun y =>
      { y with state := st, channel := none, current := current, heldByFallback := held }).te.orders) :
      y.reportOrder o.id = y.report .order o.id st.code (current * 16777216) := by
    have here : y.order o.id = some { x with state := st, channel := none, current := current, heldByFallback := held } := by
      rw [← found, State.order, hy, State.order]
    simp only [State.reportOrder, here, if_neg hst, orderValue, Option.map_none, Option.getD_none, Nat.add_zero]
  unfold State.enterOrder State.orderLeft
  dsimp only
  rw [left]
  split
  · exact off rfl
  · exact off rfl

/-- A leg end leaves the ids, legs' places and marks of the orders. -/
theorem mem_legResult {o y : Order} {r : LegResult} (hy : y ∈ (s.legResult o r).te.orders) :
    ∃ x ∈ s.te.orders, y.id = x.id ∧ y.current = x.current ∧ y.heldByFallback = x.heldByFallback := by
  obtain ⟨x, hx, rfl⟩ := List.mem_map.mp hy
  refine ⟨x, hx, ?_⟩
  by_cases h : x.id = o.id <;> simp [h]

theorem legResult_order {o : Order} (h : s.order o.id = some o) (r : LegResult) : (s.legResult o r).order o.id =
    some { o with legs := o.legs.modify (o.current - 1) fun l => { l with result := some r } } := by
  have k := updOrder_order (f := fun y : Order =>
    { y with legs := y.legs.modify (o.current - 1) fun l => { l with result := some r } }) (fun _ => rfl) s o.id
  rw [h] at k
  exact k

section

variable {c : Channel} {o : Order} (distinct : (s.te.orders.map (·.id)).Nodup) (ho : o ∈ s.te.orders)
include distinct ho

/-- The store takes a leg end (R106). -/
theorem takeLegEnd_eq (r : LegResult) : s.takeLegEnd o.id o.current r = (s.legResult o r).orderLeft o (o.afterEnd r).1
    (if (o.afterEnd r).2 then o.current + 1 else o.current) o.heldByFallback := by
  have found := order_of_mem distinct ho
  have ended := legResult_order found r
  have after : ({ o with legs := o.legs.modify (o.current - 1) fun l => { l with result := some r } } : Order).afterEnd r =
      o.afterEnd r := by simp [Order.afterEnd]
  have off : (o.afterEnd r).1 ≠ .active := by
    unfold Order.afterEnd
    split
    · decide
    · split
      · split <;> decide
      · decide
  unfold State.takeLegEnd
  dsimp only
  rw [endLeg_eq found, ended]
  dsimp only
  rw [after]
  refine enterOrder_left (by rw [ended]; rfl) off fun y hy hid => ?_
  obtain ⟨x, hx, hxid, hcur, hheld⟩ := mem_legResult hy
  obtain rfl := eq_of_id distinct hx ho (hxid.symm.trans hid)
  simp only [hcur, hheld.symm]

/-- The store takes a return (R107). -/
theorem takeReturn_eq (b : ReturnCause) : s.takeReturn o.id o.current b =
    if o.cancelRequested then (s.legResult o .cancelled).orderLeft o .cancelled o.current o.heldByFallback
    else match b with
      | .fallback => s.orderLeft o .held o.current true
      | .channelOut => s.orderLeft o .pending o.current o.heldByFallback
      | .guard =>
        let s := s.orderLeft o .pending o.current o.heldByFallback
        { s with te := { s.te with guardList := s.te.guardList ++ [o.id] } } := by
  have found := order_of_mem distinct ho
  have here {y : Order} (hy : y ∈ s.te.orders) (hid : y.id = o.id) : y = o := eq_of_id distinct hy ho hid
  have off (st : OrderState) (hst : st ≠ .active) : (s.enterOrder o.id st fun o => { o with channel := none }) =
      s.orderLeft o st o.current o.heldByFallback :=
    enterOrder_left (by rw [found]; rfl) hst fun y hy hid => by rw [here hy hid]
  unfold State.takeReturn
  rw [found]
  dsimp only
  split
  · rw [endLeg_eq found]
    refine enterOrder_left (by rw [legResult_order found]; rfl) (by decide) fun y hy hid => ?_
    obtain ⟨x, hx, hxid, hcur, hheld⟩ := mem_legResult hy
    obtain rfl := here hx (hxid.symm.trans hid)
    simp only [hcur, hheld.symm]
  · cases b with
    | fallback => exact enterOrder_left (by rw [found]; rfl) (by decide) fun y hy hid => by rw [here hy hid]
    | channelOut => exact off .pending (by decide)
    | guard => rw [off .pending (by decide)]

/-- A run that ended its leg is handed on (R106, R136). -/
theorem closeRun_result (hc : (s.chan c).order = some (o.id, o.current)) (r : LegResult) :
    s.closeRun c (.result r) = s.legHandedOn c o r := by
  rw [closeRun_eq, hc]
  unfold State.storeOutcome State.legHandedOn
  dsimp only
  rw [takeLegEnd_eq distinct ho]
  congr 1
  cases hcancel : o.cancelRequested with
  | true => simp [Order.afterEnd, hcancel]
  | false =>
    by_cases hon : (r.successful || decide (o.policy = .skip)) = true
    · by_cases hlast : o.current < o.legs.length <;> simp [Order.afterEnd, hcancel, hon, hlast]
    · simp [Order.afterEnd, hcancel, hon]

/-- A run that goes back to the store is handed on (R107, R136). -/
theorem closeRun_back (hc : (s.chan c).order = some (o.id, o.current)) (b : ReturnCause) :
    s.closeRun c (.back b) = s.runHandedBack c o b := by
  rw [closeRun_eq, hc]
  exact congrArg (fun x => State.channelFreed c x) (takeReturn_eq distinct ho b)

end

end State

/-- What a stop makes of a channel's record: the stop cause recorded, the no-flow timer stopped, the entry ended, and a pump that
runs or starts told to stop (R134, steps 1 to 3). -/
def ChannelRecord.stopped (k : StopCause) (r : ChannelRecord) : ChannelRecord :=
  { r with stop := some k, phase := some .stopping, noFlow := none, entryMade := false,
           pumpTold := if r.pumpTold.settled then r.pumpTold else .stopping }

namespace State

variable {s u : State}

/-! ### A run is stopped (R134) -/

theorem updChan_te_of {c : Channel} {f : ChannelRecord → ChannelRecord} (h : u.te = s.te) :
    (u.updChan c f).te = (s.updChan c f).te := by
  cases c <;> simp only [State.updChan, h]

theorem endRunEntry_te (s : State) (made : Bool) (c : Channel) (dest : Option TankIx) :
    (s.endRunEntry made c dest).te = (s.updChan c fun r => { r with entryMade := if made then false else r.entryMade }).te := by
  have ended : (dest.toList.foldl (fun s t => State.entryEnd t c.entrant s) s).te = s.te :=
    foldl_te (fun x t => x.entryEnd_te t c.entrant) _ s
  cases made with
  | false => cases c <;> rfl
  | true =>
    rw [State.endRunEntry, if_pos rfl]
    exact updChan_te_of ended

/-- Of the engine's record a stop changes the channel's alone. -/
theorem stopRun_te (s : State) (c : Channel) (k : StopCause) : (s.stopRun c k).te = (s.updChan c (ChannelRecord.stopped k)).te := by
  have ended : (State.endRunEntry (s.chan c).entryMade c ((s.runLeg c).bind Leg.destTank)
      (s.updChan c fun r => { r with stop := some k, phase := some .stopping, noFlow := none })).te =
        (s.updChan c fun r => { r with stop := some k, phase := some .stopping, noFlow := none, entryMade := false }).te := by
    rw [endRunEntry_te, updChan_updChan]
    refine congrArg State.te (updChan_congr ?_)
    cases (s.chan c).entryMade <;> simp
  rw [stopRun_eq]
  unfold State.stopPumpOrClose
  cases told : (s.chan c).pumpTold
  case starting =>
    rw [pumpStop_te, updChan_te_of ended, updChan_updChan]
    exact congrArg State.te (updChan_congr (by simp [ChannelRecord.stopped, told, PumpState.settled]))
  case running =>
    rw [pumpStop_te, updChan_te_of ended, updChan_updChan]
    exact congrArg State.te (updChan_congr (by simp [ChannelRecord.stopped, told, PumpState.settled]))
  case stopping =>
    exact ended.trans (congrArg State.te (updChan_congr (by simp [ChannelRecord.stopped, told, PumpState.settled])))
  case stopped =>
    rw [closeValves_te, ended]
    exact congrArg State.te (updChan_congr (by simp [ChannelRecord.stopped, told, PumpState.settled]))
  case fault =>
    rw [closeValves_te, ended]
    exact congrArg State.te (updChan_congr (by simp [ChannelRecord.stopped, told, PumpState.settled]))

theorem stopRun_chan (s : State) (c : Channel) (k : StopCause) : (s.stopRun c k).chan c = (s.chan c).stopped k := by
  rw [chan_of_te (s.stopRun_te c k), updChan_chan_self]

theorem stopRun_chan_other (s : State) (c : Channel) (k : StopCause) : (s.stopRun c k).chan c.other = s.chan c.other := by
  rw [chan_of_te (s.stopRun_te c k), updChan_chan_other]

theorem stopRun_orders (s : State) (c : Channel) (k : StopCause) : (s.stopRun c k).te.orders = s.te.orders := by
  rw [stopRun_te, updChan_orders]

end State
end Sys2Proof.Machine
end

section
/-!
PROOF. What the laws of the store, the runs and the claims read of the Transfer Engine (`State.places`, `State.holds`), the three
ways in which its operations change that (`State.Frees`, `State.Gives`, a channel going out of service), and with it what every
notice keeps of a law over it (`State.AssignmentLaw`).
-/
namespace Sys2Proof.Machine

/-- An order with all blanked that no law of the store and of the runs reads. -/
def Order.place (o : Order) : Order :=
  { o with priority := 0, policy := .abandon, legs := [], sequence := 0, heldByFallback := false }

/-- An order that has left its channel. -/
def Order.off (st : OrderState) (current : Nat) (o : Order) : Order :=
  { o with state := st, channel := none, current := current }

/-- What the laws of the runs and of the claims read of a channel. -/
def ChannelRecord.hold (r : ChannelRecord) : ChannelState × Option (Nat × Nat) × List TankIx := (r.state, r.order, r.claims)

/-- The two channels. -/
theorem Channel.eq_or_other (c d : Channel) : d = c ∨ d = c.other := by cases c <;> cases d <;> decide

theorem Channel.other_other (c : Channel) : c.other.other = c := by cases c <;> rfl

namespace State

variable {s u x : State} {c : Channel}

/-- The orders of the store as the laws read them. -/
def places (s : State) : List Order := s.te.orders.map Order.place

/-- All that the laws of the store, the runs and the claims read. -/
def assignment (s : State) : List Order × (ChannelState × Option (Nat × Nat) × List TankIx) ×
    (ChannelState × Option (Nat × Nat) × List TankIx) := (s.places, s.te.tc1.hold, s.te.tc2.hold)

theorem assignment_eq_iff : u.assignment = s.assignment ↔ u.places = s.places ∧ ∀ c, (u.chan c).hold = (s.chan c).hold := by
  simp only [assignment, Prod.mk.injEq]
  exact and_congr_right fun _ => ⟨fun h c => by cases c; exacts [h.1, h.2], fun h => ⟨h .tc1, h .tc2⟩⟩

theorem assignment_of_te (h : u.te = s.te) : u.assignment = s.assignment := by simp only [assignment, places, h]

/-! ### Operations that leave the assignment -/

theorem updChan_assignment {f : ChannelRecord → ChannelRecord} (s : State) (c : Channel)
    (h : (f (s.chan c)).hold = (s.chan c).hold) : (s.updChan c f).assignment = s.assignment := by
  cases c <;> simp only [State.updChan, State.chan, assignment, places] at h ⊢ <;> rw [h]

theorem updOrder_places (s : State) (id : Nat) {f g : Order → Order} (h : ∀ o, (f o).place = g o.place) :
    (s.updOrder id f).places = s.places.map fun p => if p.id = id then g p else p := by
  simp only [places, State.updOrder, List.map_map]
  refine List.map_congr_left fun o _ => ?_
  by_cases hid : o.id = id
  · simp only [Function.comp, hid, if_true, h, show o.place.id = id from hid]
  · simp only [Function.comp, hid, if_false, show o.place.id = o.id from rfl]

theorem updOrder_assignment (s : State) (id : Nat) {f : Order → Order} (h : ∀ o, (f o).place = o.place) :
    (s.updOrder id f).assignment = s.assignment := by
  have same : (s.updOrder id f).places = s.places := by
    rw [updOrder_places s id (g := fun p => p) h]
    simp
  exact congrArg (fun l => (l, s.te.tc1.hold, s.te.tc2.hold)) same

@[simp] theorem legResult_assignment (s : State) (o : Order) (r : LegResult) : (s.legResult o r).assignment = s.assignment :=
  updOrder_assignment s o.id fun _ => rfl

@[simp] theorem reportOrder_assignment (s : State) (id : Nat) : (s.reportOrder id).assignment = s.assignment := by
  unfold State.reportOrder
  split <;> rfl

@[simp] theorem updLeg_assignment (s : State) (id k : Nat) (f : Leg → Leg) : (s.updLeg id k f).assignment = s.assignment :=
  updOrder_assignment s id fun _ => rfl

@[simp] theorem stopRun_assignment (s : State) (c : Channel) (k : StopCause) : (s.stopRun c k).assignment = s.assignment :=
  (assignment_of_te (s.stopRun_te c k)).trans (updChan_assignment s c rfl)

@[simp] theorem evaluate_assignment (s : State) (c : Channel) (e : Evaluation) : (s.evaluate c e).assignment = s.assignment := by
  unfold State.evaluate
  split
  · split
    · split
      · exact s.stopRun_assignment c _
      · rfl
    · rfl
  · rfl

@[simp] theorem beginRun_assignment (s : State) (c : Channel) (id k : Nat) (l : Leg) :
    (s.beginRun c id k l).assignment = s.assignment := by
  unfold State.beginRun
  dsimp only
  rw [evaluate_assignment, assignment_of_te (command_te _ _ _), assignment_of_te (command_te _ _ _), updChan_assignment _ c,
    updLeg_assignment]
  rfl

theorem enterPumping_assignment (s : State) (c : Channel) : (s.enterPumping c).assignment = s.assignment := by
  have entered := s.updChan_assignment c (f := fun r =>
    { r with phase := some .pumping, noFlow := some (after s.clock ((r.runNoFlow.getD r.noFlowTime) * 10)) }) rfl
  unfold State.enterPumping
  dsimp only
  split
  · exact entered
  · split
    · rw [evaluate_assignment, entered]
    · rw [evaluate_assignment]
      split
      · rw [assignment_of_te (entryNotice_te _ _ _ _), entered]
      · rw [updChan_assignment _ _ rfl, assignment_of_te (entryNotice_te _ _ _ _), entered]

theorem channelValve_assignment (s : State) (c : Channel) (v : Valve) (a : ValveAnswer) :
    (s.channelValve c v a).assignment = s.assignment := by
  have recorded (x : LinedAnswer) := s.updChan_assignment c (f := fun r => { r with lined := r.lined.map (Lined.record v x) }) rfl
  unfold State.channelValve
  dsimp only
  split
  · split
    · split
      · split
        · rw [evaluate_assignment, assignment_of_te (pumpStart_te _ _), updChan_assignment _ _ rfl, recorded]
        · exact recorded _
      · rfl
    · exact recorded _
    · split
      · rw [stopRun_assignment, recorded]
      · rw [updChan_assignment _ _ rfl, recorded]
    · rfl
  · rfl

theorem channelMode_assignment (s : State) (new : Mode) (c : Channel) : (s.channelMode new c).assignment = s.assignment := by
  unfold State.channelMode
  dsimp only
  split
  · split
    · exact stopRun_assignment _ _ _
    · exact updChan_assignment _ _ rfl
  · split
    · exact stopRun_assignment _ _ _
    · rfl
  · rfl

theorem evaluateTank_assignment (s : State) (t : TankIx) (e : Evaluation) (c : Channel) :
    (s.evaluateTank t e c).assignment = s.assignment := by
  unfold State.evaluateTank
  split
  · exact evaluate_assignment _ _ _
  · rfl

/-! ### Operations that change it -/

/-- A channel holds an order. -/
def holds (s : State) (c : Channel) (o : Order) : Bool := (s.chan c).order.any fun x => decide (x.1 = o.id)

/-- A channel has been freed: the order that it held is off it, CANCELLED where its cancel was requested, and the channel is IDLE or
OUT (R136). -/
structure Frees (c : Channel) (s u : State) : Prop where
  orders : ∃ st current, st ≠ .active ∧ (∀ p ∈ s.places, s.holds c p = true → p.cancelRequested = true → st = .cancelled) ∧
    u.places = s.places.map fun p => if s.holds c p = true then p.off st current else p
  freed : (u.chan c).hold = (if (s.chan c).state = .stoppingForOut then .out else .idle, none, [])
  other : (u.chan c.other).hold = (s.chan c.other).hold

/-- A channel has been given an order with the tanks of its leg (R105, R120, R122). -/
structure Gives (c : Channel) (o : Order) (ts : List TankIx) (s u : State) : Prop where
  orders : u.places = s.places.map fun p => if p.id = o.id then { p with state := .active, channel := some c } else p
  given : (u.chan c).hold = (.busy, some (o.id, o.current), ts)
  other : (u.chan c.other).hold = (s.chan c.other).hold

theorem channelFreed_frees (hx : ∀ c, x.chan c = s.chan c) {st : OrderState} {current : Nat} (hst : st ≠ .active)
    (hcancel : ∀ p ∈ s.places, s.holds c p = true → p.cancelRequested = true → st = .cancelled)
    (ho : x.places = s.places.map fun p => if s.holds c p = true then p.off st current else p) : s.Frees c (x.channelFreed c) := by
  have te : (x.channelFreed c).te = (x.updChan c fun r =>
      { r with state := if (x.chan c).state = .stoppingForOut then .out else .idle, order := none, phase := none, stop := none,
               claims := [], lined := none, runFactor := none, runNoFlow := none, movedAtStart := 0, runPulses := 0,
               signAtStart := none }).te := updChan_te_of (x.releaseClaims_te c)
  refine ⟨⟨st, current, hst, hcancel, ?_⟩, ?_, ?_⟩
  · rw [← ho, places, te, updChan_orders, places]
  · rw [chan_of_te te, updChan_chan_self, hx]
    rfl
  · rw [chan_of_te te, updChan_chan_other, hx]

/-- A run that is closed frees its channel. -/
theorem closeRun_frees (hstore : s.storeLaw) (hrun : s.runLaw) (c : Channel) (k : StopCause) : s.Frees c (s.closeRun c k) := by
  cases hc : (s.chan c).order with
  | none =>
    have none_held (p : Order) : s.holds c p = false := by simp [holds, hc]
    rw [closeRun_eq, hc]
    refine channelFreed_frees (st := .cancelled) (current := 0) (fun _ => rfl) (by decide) (fun _ _ _ _ => rfl) ?_
    simp [none_held, State.storeOutcome]
  | some x =>
    obtain ⟨id, leg⟩ := x
    obtain ⟨o, found, -, -, rfl⟩ := hrun.1 c id leg hc
    obtain rfl := order_id found
    have mine (p : Order) : s.holds c p = decide (p.id = o.id) := by simp [holds, hc, eq_comm]
    have here : ∀ p ∈ s.places, s.holds c p = true → p.cancelRequested = o.cancelRequested := by
      intro p hp hheld
      obtain ⟨y, hy, rfl⟩ := List.mem_map.mp hp
      rw [mine, decide_eq_true_eq] at hheld
      have same : y = o := eq_of_id hstore.2 hy (order_mem found) hheld
      exact show y.cancelRequested = o.cancelRequested by rw [same]
    -- What the store makes of the order, whatever has been recorded of its leg before.
    have left {y : State} (hy : y.assignment = s.assignment) (hchan : ∀ c, y.chan c = s.chan c) {z : State} {st : OrderState}
        {current : Nat} {held : Bool} (hz : z.te.orders = (y.orderLeft o st current held).te.orders)
        (hz' : ∀ c, z.chan c = y.chan c) (hst : st ≠ .active) (hcancel : o.cancelRequested = true → st = .cancelled) :
        s.Frees c (z.channelFreed c) := by
      refine channelFreed_frees (fun c => (hz' c).trans (hchan c)) hst (current := current)
        (fun p hp hheld h => hcancel (here p hp hheld ▸ h)) ?_
      have places : z.places = (y.updOrder o.id fun q =>
          { q with state := st, channel := none, current := current, heldByFallback := held }).places := by
        rw [State.places, hz]
        rfl
      rw [places, updOrder_places y o.id (g := Order.off st current) fun _ => rfl, (assignment_eq_iff.mp hy).1]
      simp only [mine, decide_eq_true_eq]
    have unmoved {y : State} (st : OrderState) (current : Nat) (held : Bool) (c : Channel) :
        (y.orderLeft o st current held).chan c = y.chan c := by cases c <;> rfl
    have ended (r : LegResult) (c : Channel) : (s.legResult o r).chan c = s.chan c := by cases c <;> rfl
    cases k with
    | result r =>
      rw [closeRun_result hstore.2 (order_mem found) hc]
      unfold State.legHandedOn
      dsimp only
      split
      · exact left (s.legResult_assignment o r) (ended r) rfl (unmoved _ _ _) (by decide) fun _ => rfl
      · next hno =>
        split
        · exact left (s.legResult_assignment o r) (ended r) rfl (unmoved _ _ _) (by decide) fun h => absurd h hno
        · exact left (s.legResult_assignment o r) (ended r) rfl (unmoved _ _ _) (by split <;> decide) fun h => absurd h hno
    | back b =>
      rw [closeRun_back hstore.2 (order_mem found) hc]
      unfold State.runHandedBack
      dsimp only
      split
      · exact left (s.legResult_assignment o _) (ended _) rfl (unmoved _ _ _) (by decide) fun _ => rfl
      · next hno =>
        cases b with
        | fallback => exact left rfl (fun _ => rfl) rfl (unmoved _ _ _) (by decide) fun h => absurd h hno
        | channelOut => exact left rfl (fun _ => rfl) rfl (unmoved _ _ _) (by decide) fun h => absurd h hno
        | guard => exact left rfl (fun _ => rfl) rfl (by intro c; cases c <;> rfl) (by decide) fun h => absurd h hno

/-! ### The arbiter gives an order -/

/-- The guard has held an order back (R119). -/
def guardMarked (s : State) : State := { s with te := { s.te with guardPassed := true } }

/-- An order is off the guard list (R121). -/
def unguarded (id : Nat) (s : State) : State := { s with te := { s.te with guardList := s.te.guardList.filter (· ≠ id) } }

/-- One order is weighed: without a leg it is passed over, the guard holds it back, or it leaves the guard list and is taken where its
tanks are free (R121). -/
theorem weigh_cons (s : State) (c : Channel) (o : Order) (os : List Order) : State.weigh c (o :: os) s = match o.leg with
    | none => State.weigh c os s
    | some l => if s.guardHolds o.id l then State.weigh c os s.guardMarked
      else if l.tanks.any ((s.chan c.other).claims.contains ·) then State.weigh c os (s.unguarded o.id)
      else (s.unguarded o.id, some (o, l)) := by
  have chan : (s.unguarded o.id).chan c.other = s.chan c.other := by cases c <;> rfl
  rw [← chan]
  rfl

/-- Weighing touches the guard list and the guard's mark alone. -/
theorem weigh_frame (s : State) (c : Channel) (os : List Order) :
    (State.weigh c os s).1.te.orders = s.te.orders ∧ ∀ d, (State.weigh c os s).1.chan d = s.chan d := by
  induction os generalizing s with
  | nil => exact ⟨rfl, fun _ => rfl⟩
  | cons o os ih =>
    have marked (d : Channel) : s.guardMarked.chan d = s.chan d := by cases d <;> rfl
    have listed (d : Channel) : (s.unguarded o.id).chan d = s.chan d := by cases d <;> rfl
    rw [weigh_cons]
    split
    · exact ih s
    · split
      · exact ⟨(ih _).1, fun d => ((ih _).2 d).trans (marked d)⟩
      · split
        · exact ⟨(ih _).1, fun d => ((ih _).2 d).trans (listed d)⟩
        · exact ⟨rfl, listed⟩

/-- The order that weighing ends with is one of those weighed, and its tanks are free (R121). -/
theorem weigh_some {os : List Order} {o : Order} {l : Leg} (h : (State.weigh c os s).2 = some (o, l)) :
    o ∈ os ∧ o.leg = some l ∧ ∀ t ∈ l.tanks, t ∉ (s.chan c.other).claims := by
  induction os generalizing s with
  | nil => cases h
  | cons x os ih =>
    have later {y : State} (hy : y.chan c.other = s.chan c.other) (h : (State.weigh c os y).2 = some (o, l)) :
        o ∈ x :: os ∧ o.leg = some l ∧ ∀ t ∈ l.tanks, t ∉ (s.chan c.other).claims := by
      obtain ⟨hmem, hleg, hfree⟩ := ih h
      exact ⟨List.mem_cons_of_mem x hmem, hleg, hy ▸ hfree⟩
    rw [weigh_cons] at h
    split at h
    · exact later rfl h
    · split at h
      · exact later (by cases c <;> rfl) h
      · split at h
        · exact later (by cases c <;> rfl) h
        · next hleg _ hclaims =>
          cases h
          exact ⟨List.mem_cons_self, hleg, fun t ht hclaimed =>
            hclaims (List.any_eq_true.mpr ⟨t, ht, List.contains_iff_mem.mpr hclaimed⟩)⟩

theorem mem_waiting {o : Order} (h : o ∈ s.waiting) : o ∈ s.te.orders ∧ o.state = .pending := by
  obtain ⟨p, -, hp⟩ := List.mem_flatMap.mp h
  obtain ⟨hmem, ho⟩ := List.mem_filter.mp hp
  exact ⟨hmem, (of_decide_eq_true ho).1⟩

/-- A channel takes an order with its leg's tanks: ACTIVE, BUSY, the claims (R105, R120, R122). -/
def given (c : Channel) (o : Order) (l : Leg) (s : State) : State :=
  let s := s.enterOrder o.id .active fun o => { o with channel := some c }
  let s := (s.updChan c fun r => { r with order := some (o.id, o.current) }).setChannel c .busy
  let s := s.updChan c fun r => { r with claims := l.tanks }
  l.tanks.foldl (fun s t => s.updTank t fun r => { r with claim := some c }) s

theorem give_eq (s : State) (c : Channel) (o : Order) (l : Leg) :
    s.give c o l = match (s.given c o l).startCheck c l with
      | some r => (s.given c o l).closeRun c (.result r)
      | none => (s.given c o l).beginRun c o.id o.current l := rfl

theorem given_te (s : State) (c : Channel) (o : Order) (l : Leg) :
    (s.given c o l).te = ((s.enterOrder o.id .active fun o => { o with channel := some c }).updChan c fun r =>
      { r with order := some (o.id, o.current), state := .busy, claims := l.tanks }).te := by
  have claimed (x : State) : (l.tanks.foldl (fun (s : State) t => s.updTank t fun r => { r with claim := some c }) x).te = x.te :=
    foldl_te (f := fun (x : State) t => x.updTank t fun r => { r with claim := some c }) (fun _ _ => rfl) _ x
  unfold given
  dsimp only
  rw [claimed]
  cases c <;> rfl

theorem enterOrder_chan (s : State) (id : Nat) (st : OrderState) (f : Order → Order) (c : Channel) :
    (s.enterOrder id st f).chan c = s.chan c := by
  have reported (x : State) : (x.reportOrder id).chan c = x.chan c := by
    unfold State.reportOrder
    split <;> rfl
  unfold State.enterOrder
  dsimp only
  rw [reported]
  split <;> cases c <;> rfl

theorem enterOrder_places (s : State) (id : Nat) (st : OrderState) {f g : Order → Order}
    (h : ∀ o : Order, (f { o with state := st }).place = g o.place) :
    (s.enterOrder id st f).places = s.places.map fun p => if p.id = id then g p else p := by
  have reported (x : State) : (x.reportOrder id).places = x.places := (assignment_eq_iff.mp (x.reportOrder_assignment id)).1
  rw [← updOrder_places s id h]
  unfold State.enterOrder
  dsimp only
  rw [reported]
  split <;> rfl

theorem given_gives (s : State) (c : Channel) (o : Order) (l : Leg) : s.Gives c o l.tanks (s.given c o l) := by
  refine ⟨?_, ?_, ?_⟩
  · rw [places, given_te, updChan_orders]
    exact s.enterOrder_places o.id .active fun _ => rfl
  · rw [chan_of_te (s.given_te c o l), updChan_chan_self]
    rfl
  · rw [chan_of_te (s.given_te c o l), updChan_chan_other, enterOrder_chan]

/-! ### Laws over the assignment -/

/-- A law over the assignment that holds of the store and the runs, and that survives the three changes of it that the engine makes
on its own. -/
structure AssignmentLaw (P : State → Prop) : Prop where
  store : ∀ {s : State}, P s → s.storeLaw ∧ s.runLaw
  same : ∀ {s u : State}, u.assignment = s.assignment → P s → P u
  frees : ∀ {s u : State} {c : Channel}, s.Frees c u → P s → P u
  gives : ∀ {s u : State} {c : Channel} {o : Order} {ts : List TankIx}, s.Gives c o ts u → (s.chan c).state = .idle →
    o ∈ s.te.orders → o.state = .pending → (∀ t ∈ ts, t ∉ (s.chan c.other).claims) → P s → P u
  unserved : ∀ {s : State} {c : Channel} {st : ChannelState},
    (s.chan c).state = .idle ∧ st = .out ∨ (s.chan c).state = .busy ∧ st = .stoppingForOut → P s →
      P (s.updChan c fun r => { r with state := st })

namespace AssignmentLaw

variable {P : State → Prop}

theorem of_te (k : AssignmentLaw P) (ht : u.te = s.te) (h : P s) : P u := k.same (assignment_of_te ht) h

theorem of_frame (k : AssignmentLaw P) (ho : u.te.orders = s.te.orders) (hc : ∀ c, u.chan c = s.chan c) (h : P s) : P u :=
  k.same (assignment_eq_iff.mpr ⟨by rw [places, ho, places], fun c => by rw [hc]⟩) h

theorem updChan (k : AssignmentLaw P) {f : ChannelRecord → ChannelRecord} (hf : (f (s.chan c)).hold = (s.chan c).hold) (h : P s) :
    P (s.updChan c f) := k.same (updChan_assignment s c hf) h

theorem stopRun (k : AssignmentLaw P) (c : Channel) (cause : StopCause) (h : P s) : P (s.stopRun c cause) :=
  k.same (stopRun_assignment s c cause) h

theorem evaluate (k : AssignmentLaw P) (c : Channel) (e : Evaluation) (h : P s) : P (s.evaluate c e) :=
  k.same (evaluate_assignment s c e) h

theorem closeRun (k : AssignmentLaw P) (c : Channel) (cause : StopCause) (h : P s) : P (s.closeRun c cause) :=
  k.frees (closeRun_frees (k.store h).1 (k.store h).2 c cause) h

/-! ### The arbiter -/

theorem give (k : AssignmentLaw P) {o : Order} {l : Leg} (hidle : (s.chan c).state = .idle) (ho : o ∈ s.te.orders)
    (hst : o.state = .pending) (hfree : ∀ t ∈ l.tanks, t ∉ (s.chan c.other).claims) (h : P s) : P (s.give c o l) := by
  have given := k.gives (given_gives s c o l) hidle ho hst hfree h
  rw [give_eq]
  split
  · exact k.closeRun c _ given
  · exact k.same (beginRun_assignment _ _ _ _ _) given

theorem tryGive (k : AssignmentLaw P) (c : Channel) (h : P s) : P (s.tryGive c).1 := by
  unfold State.tryGive
  split
  · next hidle =>
    have frame := s.weigh_frame c s.waiting
    split
    · next y o l hw =>
      obtain ⟨hmem, -, hfree⟩ := weigh_some (s := s) (congrArg Prod.snd hw)
      obtain ⟨ho, hst⟩ := mem_waiting hmem
      rw [hw] at frame
      obtain ⟨orders, chans⟩ := frame
      exact k.give (by rw [chans]; exact hidle) (orders ▸ ho) hst (by rw [chans]; exact hfree) (k.of_frame orders chans h)
    · next y hw =>
      rw [hw] at frame
      exact k.of_frame frame.1 frame.2 h
  · exact h

theorem passes (k : AssignmentLaw P) (n : Nat) (h : P s) : P (State.passes n s) := by
  induction n generalizing s with
  | zero => exact h
  | succ n ih =>
    simp only [State.passes]
    split
    · exact ih (k.tryGive _ (k.tryGive _ h))
    · exact k.tryGive _ (k.tryGive _ h)

theorem arbitrate (k : AssignmentLaw P) (h : P s) : P s.arbitrate := by
  have unmarked : P { s with te := { s.te with guardPassed := false } } :=
    k.of_frame (s := s) rfl (by intro c; cases c <;> rfl) h
  unfold State.arbitrate
  dsimp only
  split
  · exact k.passes _ unmarked
  · exact unmarked

theorem closeIfOver (k : AssignmentLaw P) (c : Channel) (h : P s) : P (s.closeIfOver c).1 := by
  unfold State.closeIfOver
  split
  · exact k.closeRun _ _ h
  · exact h

theorem settle (k : AssignmentLaw P) (h : P s) : P s.settle := by
  unfold State.settle
  dsimp only
  split
  · exact k.arbitrate (k.closeIfOver _ (k.closeIfOver _ h))
  · exact k.closeIfOver _ (k.closeIfOver _ h)

/-! ### Answers and notices -/

theorem setOut (k : AssignmentLaw P) {st : ChannelState}
    (hst : (s.chan c).state = .idle ∧ st = .out ∨ (s.chan c).state = .busy ∧ st = .stoppingForOut) (h : P s) :
    P (s.setChannel c st) :=
  k.of_te (s := s.updChan c fun r => { r with state := st }) rfl (k.unserved hst h)

theorem channelPumpFault (k : AssignmentLaw P) (c : Channel) (h : P s) : P (s.channelPumpFault c) := by
  have told : P (s.updChan c fun r => { r with pumpTold := .fault, outReason := some .pumpFault }) := k.updChan rfl h
  have failed : P (State.failChannel (s.chan c).state c
      (s.updChan c fun r => { r with pumpTold := .fault, outReason := some .pumpFault })) := by
    unfold State.failChannel
    split
    · next hst => exact k.setOut (.inl ⟨by rw [updChan_chan_self]; exact hst, rfl⟩) told
    · next hst => exact k.setOut (.inr ⟨by rw [updChan_chan_self]; exact hst, rfl⟩) told
    · exact told
  unfold State.channelPumpFault
  dsimp only
  split
  · exact k.stopRun _ _ failed
  · split
    · split
      · exact k.updChan rfl failed
      · exact k.of_te (closeValves_te _ _) (k.updChan rfl failed)
    · exact failed

theorem channelPump (k : AssignmentLaw P) (c : Channel) (a : PumpAnswer) (h : P s) : P (s.channelPump c a) := by
  unfold State.channelPump
  dsimp only
  split
  · split
    · exact k.same (enterPumping_assignment _ _) (k.updChan rfl h)
    · exact k.updChan rfl h
  · split
    · exact k.of_te (closeValves_te _ _) (k.updChan rfl h)
    · exact k.updChan rfl h
  · exact k.channelPumpFault _ h
  · exact k.channelPumpFault _ h

theorem transferTank (k : AssignmentLaw P) (t : TankIx) (e : Evaluation) (h : P s) : P (s.transferTank t e) :=
  k.arbitrate (k.settle (k.same ((evaluateTank_assignment _ _ _ _).trans (evaluateTank_assignment _ _ _ _)) h))

theorem transferMoment (k : AssignmentLaw P) (h : P s) : P s.transferMoment := by
  have settled : P (s.evaluateBoth fun _ => { guard := true }).settle := k.settle (k.evaluate _ _ (k.evaluate _ _ h))
  unfold State.transferMoment
  dsimp only
  split
  · exact k.arbitrate settled
  · exact settled

theorem transferMode (k : AssignmentLaw P) (new : Mode) (h : P s) : P (s.transferMode new) := by
  have settled : P ((s.channelMode new .tc1).channelMode new .tc2).settle :=
    k.settle (k.same ((channelMode_assignment _ _ _).trans (channelMode_assignment _ _ _)) h)
  unfold State.transferMode
  dsimp only
  split
  · exact k.arbitrate settled
  · exact settled

theorem takeTank (k : AssignmentLaw P) (b : Block) (t : TankIx) (d : TankChange) (h : P s) : P (s.takeTank b t d) := by
  have told : P (if (s.tank t).service = .undefined then s.setTold b t none else s) := by
    split
    · exact k.of_te (s.setTold_te _ _ _) h
    · exact h
  unfold State.takeTank
  cases b
  · exact told
  · exact told
  · exact k.of_te (te_of_intake (intakeTank_beyondIntake _ t)) told
  · exact k.transferTank _ _ told
  · exact k.of_te (te_of_supply (examine_beyondSupply _ none)) told
  · exact k.of_te (te_of_modes (examineWarming_beyondModes _)) told

theorem takeGauge (k : AssignmentLaw P) (b : Block) (t : TankIx) (g : GaugeState) (h : P s) : P (s.takeGauge b t g) := by
  have told : P (s.setTold b t (some g)) := k.of_te (s.setTold_te _ _ _) h
  unfold State.takeGauge
  cases b
  · exact told
  · exact told
  · exact k.of_te (te_of_intake (intakeTank_beyondIntake _ t)) told
  · exact k.transferTank _ _ told
  · exact k.of_te (te_of_supply (examine_beyondSupply _ none)) told
  · exact k.of_te (te_of_modes (examineWarming_beyondModes _)) told

theorem takeMode (k : AssignmentLaw P) (b : Block) (old new : Mode) (h : P s) : P (s.takeMode b old new) := by
  cases b
  case gu =>
    refine k.of_te ?_ h
    simp only [State.takeMode, State.gaugeMode]
    split <;> rfl
  case au =>
    refine k.of_te ?_ h
    simp only [State.takeMode, State.actuatorMode]
    split
    · exact te_of_actuators s.returnAll_beyondActuators
    · rfl
  case ir => exact k.of_te (te_of_intake (s.intakeMode_beyondIntake old new)) h
  case te => exact k.transferMode new h
  case ss =>
    simp only [State.takeMode]
    split
    · exact k.of_te (te_of_supply (s.examine_beyondSupply none)) h
    · exact h
  case pmc => exact h

theorem takeValve (k : AssignmentLaw P) (v : Valve) (a : ValveAnswer) (h : P s) : P (s.takeValve v a) := by
  unfold State.takeValve
  split
  · exact k.of_te (te_of_intake (s.intakeValve_beyondIntake v a)) h
  · exact k.settle (k.same (channelValve_assignment _ _ _ _) h)
  · exact k.settle (k.same (channelValve_assignment _ _ _ _) h)
  · exact k.of_te (te_of_supply (s.supplyValve_beyondSupply v a)) h

theorem takeConflict (k : AssignmentLaw P) (t : TankIx) (e : Entrant) (h : P s) : P (s.takeConflict t e) := by
  cases e
  · exact k.of_te (te_of_intake (s.intakeConflict_beyondIntake t)) h
  · exact k.settle (k.evaluate _ _ h)
  · exact k.settle (k.evaluate _ _ h)

/-- Whatever notice is taken, the law is kept. -/
theorem take (k : AssignmentLaw P) (m : Msg) (h : P s) : P (State.take m s) := by
  cases m with
  | tank b t d => exact k.takeTank b t d h
  | gauge b t g => exact k.takeGauge b t g h
  | mode b old new => exact k.takeMode b old new h
  | moment m => exact k.transferMoment (k.of_te (s := s) (u := s.setToldMoment m) rfl h)
  | balance => exact k.transferMoment h
  | conflict t e => exact k.takeConflict t e h
  | wake t th d => exact k.of_te (te_of_modes (s.takeWake_beyondModes t th d)) h
  | valve v a => exact k.takeValve v a h
  | pump c a => exact k.settle (k.channelPump c a h)
  | decide => exact k.of_te (te_of_intake s.decideAll_beyondIntake) h
  | report r => exact k.of_te (s := s) (u := s.append r) rfl h

theorem keepDumpTimers (k : AssignmentLaw P) (h : P s) : P s.keepDumpTimers :=
  k.of_te (te_of_intake s.keepDumpTimers_beyondIntake) h

theorem deliver (k : AssignmentLaw P) (h : P s) : P s.deliver :=
  State.deliver_induction P s h (fun m rest x hx _ => k.take m (k.of_te (s := x) (u := { x with msgs := rest }) rfl hx))
    fun _ hx => k.keepDumpTimers hx

end AssignmentLaw
end State
end Sys2Proof.Machine
end

section
/-!
PROOF. The law of the runs (R98, R99, R105) as one of a list of orders and of what each channel runs (`RunsOf`), and the law of the
claims (R122): each survives what the Transfer Engine does on its own, and what the requests do (O54).
-/
namespace Sys2Proof.Machine

/-- The orders have distinct ids, and the ACTIVE ones are those that the channels run, each on its own channel and leg. -/
structure RunsOf (os : List Order) (run : Channel → Option (Nat × Nat)) : Prop where
  distinct : (os.map (·.id)).Nodup
  held : ∀ c id k, run c = some (id, k) → ∃ o ∈ os, o.id = id ∧ o.state = .active ∧ o.channel = some c ∧ o.current = k
  ran : ∀ o ∈ os, o.state = .active → ∃ c, o.channel = some c ∧ run c = some (o.id, o.current)

namespace RunsOf

variable {os : List Order} {run run' : Channel → Option (Nat × Nat)} {c : Channel}

theorem place_iff : RunsOf (os.map Order.place) run ↔ RunsOf os run := by
  have ids : (os.map Order.place).map (·.id) = os.map (·.id) := by rw [List.map_map]; rfl
  constructor
  · refine fun h => ⟨ids ▸ h.distinct, fun c id k hc => ?_, fun o ho ha => h.ran o.place (List.mem_map_of_mem ho) ha⟩
    obtain ⟨p, hp, hid⟩ := h.held c id k hc
    obtain ⟨o, ho, rfl⟩ := List.mem_map.mp hp
    exact ⟨o, ho, hid⟩
  · refine fun h => ⟨ids ▸ h.distinct, fun c id k hc => ?_, fun p hp ha => ?_⟩
    · obtain ⟨o, ho, hid⟩ := h.held c id k hc
      exact ⟨o.place, List.mem_map_of_mem ho, hid⟩
    · obtain ⟨o, ho, rfl⟩ := List.mem_map.mp hp
      exact h.ran o ho ha

theorem distinct_map (h : RunsOf os run) {f : Order → Order} (hf : ∀ o ∈ os, (f o).id = o.id) :
    ((os.map f).map (·.id)).Nodup := by
  have ids : os.map ((·.id) ∘ f) = os.map (·.id) := List.map_congr_left hf
  rw [List.map_map, ids]
  exact h.distinct

/-- Orders may change as long as an ACTIVE one keeps its state, its channel and its leg, and no other becomes ACTIVE. -/
theorem map (h : RunsOf os run) {f : Order → Order} (hf : ∀ o ∈ os, (f o).id = o.id)
    (ha : ∀ o ∈ os, o.state = .active ∨ (f o).state = .active →
      (f o).state = o.state ∧ (f o).channel = o.channel ∧ (f o).current = o.current) : RunsOf (os.map f) run := by
  refine ⟨h.distinct_map hf, fun c id k hc => ?_, fun p hp hact => ?_⟩
  · obtain ⟨o, ho, hid, hst, hch, hcur⟩ := h.held c id k hc
    obtain ⟨st, ch, cur⟩ := ha o ho (.inl hst)
    exact ⟨f o, List.mem_map_of_mem ho, (hf o ho).trans hid, st.trans hst, ch.trans hch, cur.trans hcur⟩
  · obtain ⟨o, ho, rfl⟩ := List.mem_map.mp hp
    obtain ⟨st, ch, cur⟩ := ha o ho (.inr hact)
    rw [hf o ho, ch, cur]
    exact h.ran o ho (st.symm.trans hact)

/-- A channel that has been freed runs nothing, and its order is not ACTIVE. -/
theorem freed (h : RunsOf os run) (hc : run' c = none) (hother : run' c.other = run c.other) {st : OrderState} (hst : st ≠ .active)
    (current : Nat) : RunsOf (os.map fun p => if (run c).any (fun x => decide (x.1 = p.id)) = true then p.off st current else p)
      run' := by
  have ids (p : Order) : (if (run c).any (fun x => decide (x.1 = p.id)) = true then p.off st current else p).id = p.id := by
    split <;> rfl
  refine ⟨h.distinct_map fun p _ => ids p, fun d id k hd => ?_, fun q hq hact => ?_⟩
  · obtain rfl | rfl := Channel.eq_or_other c d
    · rw [hc] at hd
      cases hd
    · rw [hother] at hd
      obtain ⟨o, ho, hid, hact, hch, hcur⟩ := h.held _ id k hd
      have not_mine : ¬(run c).any (fun x => decide (x.1 = o.id)) = true := by
        intro hany
        obtain ⟨⟨j, n⟩, hrun, hj⟩ := (Option.any_eq_true _ _).mp hany
        obtain ⟨y, hy, hyid, -, hych, -⟩ := h.held c j n hrun
        have same : y = o := List.inj_on_of_nodup_map h.distinct hy ho (hyid.trans (of_decide_eq_true hj))
        rw [same, hch] at hych
        cases c <;> cases hych
      exact ⟨o, List.mem_map.mpr ⟨o, ho, if_neg not_mine⟩, hid, hact, hch, hcur⟩
  · obtain ⟨o, ho, rfl⟩ := List.mem_map.mp hq
    split at hact
    · exact absurd hact hst
    · next hmine =>
      rw [if_neg hmine]
      obtain ⟨d, hch, hrun⟩ := h.ran o ho hact
      obtain rfl | rfl := Channel.eq_or_other c d
      · simp [hrun] at hmine
      · exact ⟨_, hch, hother.trans hrun⟩

/-- A channel that ran nothing runs the order it has been given. -/
theorem given (h : RunsOf os run) (hnone : run c = none) {o : Order} (ho : o ∈ os) (hst : o.state ≠ .active)
    (hc : run' c = some (o.id, o.current)) (hother : run' c.other = run c.other) :
    RunsOf (os.map fun p => if p.id = o.id then { p with state := .active, channel := some c } else p) run' := by
  have ids (p : Order) : (if p.id = o.id then { p with state := .active, channel := some c } else p).id = p.id := by split <;> rfl
  refine ⟨h.distinct_map fun p _ => ids p, fun d id k hd => ?_, fun q hq hact => ?_⟩
  · obtain rfl | rfl := Channel.eq_or_other c d
    · rw [hc] at hd
      cases hd
      exact ⟨_, List.mem_map_of_mem ho, by simp⟩
    · rw [hother] at hd
      obtain ⟨y, hy, hid, hyact, hych, hcur⟩ := h.held _ id k hd
      have apart : y.id ≠ o.id := fun e => hst (List.inj_on_of_nodup_map h.distinct hy ho e ▸ hyact)
      exact ⟨y, List.mem_map.mpr ⟨y, hy, if_neg apart⟩, hid, hyact, hych, hcur⟩
  · obtain ⟨y, hy, rfl⟩ := List.mem_map.mp hq
    by_cases hid : y.id = o.id
    · obtain rfl : y = o := List.inj_on_of_nodup_map h.distinct hy ho hid
      exact ⟨c, by simp, by simpa using hc⟩
    · rw [if_neg hid] at hact ⊢
      obtain ⟨d, hch, hrun⟩ := h.ran y hy hact
      obtain rfl | rfl := Channel.eq_or_other c d
      · rw [hnone] at hrun
        cases hrun
      · exact ⟨_, hch, hother.trans hrun⟩

/-- A new order waits. -/
theorem append (h : RunsOf os run) {o : Order} (hid : ∀ p ∈ os, p.id ≠ o.id) (hst : o.state ≠ .active) : RunsOf (os ++ [o]) run := by
  refine ⟨?_, fun c id k hc => ?_, fun p hp hact => ?_⟩
  · rw [List.map_append, List.nodup_append]
    refine ⟨h.distinct, List.nodup_singleton _, fun a ha b hb => ?_⟩
    obtain ⟨p, hp, rfl⟩ := List.mem_map.mp ha
    obtain rfl := List.mem_singleton.mp hb
    exact hid p hp
  · obtain ⟨p, hp, hrest⟩ := h.held c id k hc
    exact ⟨p, List.mem_append_left _ hp, hrest⟩
  · rcases List.mem_append.mp hp with hp | hp
    · exact h.ran p hp hact
    · obtain rfl := List.mem_singleton.mp hp
      exact absurd hact hst

/-- Orders that are not ACTIVE may be removed. -/
theorem filter (h : RunsOf os run) {q : Order → Bool} (hq : ∀ p ∈ os, p.state = .active → q p = true) :
    RunsOf (os.filter q) run := by
  refine ⟨(List.filter_sublist.map _).nodup h.distinct, fun c id k hc => ?_, fun p hp => h.ran p (List.mem_filter.mp hp).1⟩
  obtain ⟨p, hp, hid, hact, hrest⟩ := h.held c id k hc
  exact ⟨p, List.mem_filter.mpr ⟨hp, hq p hp hact⟩, hid, hact, hrest⟩

end RunsOf

namespace State

variable {s u : State} {c : Channel}

/-- What a channel runs. -/
def run (s : State) (c : Channel) : Option (Nat × Nat) := (s.chan c).order

/-- The laws of the store and of the runs, read from the places of the orders and from what the channels hold. -/
theorem runs_iff : s.storeLaw ∧ s.runLaw ↔ s.places.length ≤ storeSize ∧ RunsOf s.places s.run ∧
    ∀ c, (s.chan c).state = .idle ∨ (s.chan c).state = .out → s.run c = none := by
  rw [places, List.length_map, RunsOf.place_iff]
  constructor
  · rintro ⟨⟨hlen, hids⟩, hheld, hran, hnone⟩
    refine ⟨hlen, ⟨hids, fun c id k hc => ?_, hran⟩, hnone⟩
    obtain ⟨o, ho, hact, hch, hcur⟩ := hheld c id k hc
    exact ⟨o, order_mem ho, order_id ho, hact, hch, hcur⟩
  · rintro ⟨hlen, h, hnone⟩
    refine ⟨⟨hlen, h.distinct⟩, fun c id k hc => ?_, h.ran, hnone⟩
    obtain ⟨o, ho, rfl, hrest⟩ := h.held c id k hc
    exact ⟨o, order_of_mem h.distinct ho, hrest⟩

/-- The law of the store, of the runs and of the claims. -/
def orderLaw (s : State) : Prop := (s.storeLaw ∧ s.runLaw) ∧ s.claimLaw

theorem claimLaw_iff : s.claimLaw ↔ (∀ c, (s.chan c).state = .idle ∨ (s.chan c).state = .out → (s.chan c).claims = []) ∧
    ∀ c, ∀ t ∈ (s.chan c).claims, t ∉ (s.chan c.other).claims := by
  refine and_congr_right fun _ => ⟨fun h c t ht hother => ?_, fun h => h .tc1⟩
  cases c
  · exact h t ht hother
  · exact h t hother ht

/-! ### The three changes -/

theorem hold_eq_iff {r : ChannelRecord} {st : ChannelState} {ord : Option (Nat × Nat)} {ts : List TankIx} :
    r.hold = (st, ord, ts) ↔ r.state = st ∧ r.order = ord ∧ r.claims = ts := by simp [ChannelRecord.hold]

theorem hold_eq {r q : ChannelRecord} (h : r.hold = q.hold) : r.state = q.state ∧ r.order = q.order ∧ r.claims = q.claims :=
  hold_eq_iff.mp h

theorem runs_same (h : u.assignment = s.assignment) (k : s.storeLaw ∧ s.runLaw) : u.storeLaw ∧ u.runLaw := by
  obtain ⟨hplaces, hhold⟩ := assignment_eq_iff.mp h
  have run (c : Channel) : u.run c = s.run c := (hold_eq (hhold c)).2.1
  obtain ⟨hlen, hruns, hnone⟩ := runs_iff.mp k
  refine runs_iff.mpr ⟨hplaces ▸ hlen, ?_, fun c => ?_⟩
  · rw [hplaces, show u.run = s.run from funext run]
    exact hruns
  · rw [run, (hold_eq (hhold c)).1]
    exact hnone c

theorem runs_frees (h : s.Frees c u) (k : s.storeLaw ∧ s.runLaw) : u.storeLaw ∧ u.runLaw := by
  obtain ⟨st, current, hst, -, horders⟩ := h.orders
  obtain ⟨-, hrun, -⟩ := hold_eq_iff.mp h.freed
  obtain ⟨hstate, hother, -⟩ := hold_eq h.other
  obtain ⟨hlen, hruns, hnone⟩ := runs_iff.mp k
  refine runs_iff.mpr ⟨?_, ?_, fun d hd => ?_⟩
  · rw [horders, List.length_map]
    exact hlen
  · rw [horders]
    exact hruns.freed hrun hother hst current
  · obtain rfl | rfl := Channel.eq_or_other c d
    · exact hrun
    · exact hother.trans (hnone _ (hstate ▸ hd))

theorem runs_gives {o : Order} {ts : List TankIx} (h : s.Gives c o ts u) (hidle : (s.chan c).state = .idle)
    (ho : o ∈ s.te.orders) (hst : o.state = .pending) (k : s.storeLaw ∧ s.runLaw) : u.storeLaw ∧ u.runLaw := by
  obtain ⟨hbusy, hrun, -⟩ := hold_eq_iff.mp h.given
  obtain ⟨hstate, hother, -⟩ := hold_eq h.other
  obtain ⟨hlen, hruns, hnone⟩ := runs_iff.mp k
  refine runs_iff.mpr ⟨?_, ?_, fun d hd => ?_⟩
  · rw [h.orders, List.length_map]
    exact hlen
  · rw [h.orders]
    exact hruns.given (o := o.place) (hnone c (.inl hidle)) (List.mem_map_of_mem ho)
      (by rw [show o.place.state = .pending from hst]; decide) hrun hother
  · obtain rfl | rfl := Channel.eq_or_other c d
    · rw [hbusy] at hd
      simp at hd
    · exact hother.trans (hnone _ (hstate ▸ hd))

/-- A channel goes out of service. -/
theorem runs_unserved {st : ChannelState} (hst : (s.chan c).state = .idle ∧ st = .out ∨ (s.chan c).state = .busy ∧ st = .stoppingForOut)
    (k : s.storeLaw ∧ s.runLaw) : (s.updChan c fun r => { r with state := st }).storeLaw ∧
      (s.updChan c fun r => { r with state := st }).runLaw := by
  have orders : (s.updChan c fun r => { r with state := st }).places = s.places := by rw [places, updChan_orders, places]
  have run : (s.updChan c fun r => { r with state := st }).run = s.run := by
    funext d
    obtain rfl | rfl := Channel.eq_or_other c d
    · simp [State.run]
    · simp [State.run]
  obtain ⟨hlen, hruns, hnone⟩ := runs_iff.mp k
  refine runs_iff.mpr ⟨orders ▸ hlen, ?_, fun d hd => ?_⟩
  · rw [orders, run]
    exact hruns
  · rw [run]
    obtain rfl | rfl := Channel.eq_or_other c d
    · rcases hst with ⟨hidle, rfl⟩ | ⟨-, rfl⟩
      · exact hnone d (.inl hidle)
      · simp at hd
    · exact hnone _ (by simpa using hd)

/-- The laws survive what the engine does on its own. -/
theorem orderLaw_assignment : AssignmentLaw orderLaw where
  store h := h.1
  same {s u} h k := by
    obtain ⟨-, hhold⟩ := assignment_eq_iff.mp h
    have claims (c : Channel) : (u.chan c).claims = (s.chan c).claims := (hold_eq (hhold c)).2.2
    obtain ⟨hnone, hapart⟩ := claimLaw_iff.mp k.2
    refine ⟨runs_same h k.1, claimLaw_iff.mpr ⟨fun c hc => ?_, fun c t => ?_⟩⟩
    · rw [claims]
      exact hnone c ((hold_eq (hhold c)).1 ▸ hc)
    · rw [claims, claims]
      exact hapart c t
  frees {s u c} h k := by
    obtain ⟨-, -, hfree⟩ := hold_eq_iff.mp h.freed
    obtain ⟨hstate, -, hother⟩ := hold_eq h.other
    refine ⟨runs_frees h k.1, claimLaw_iff.mpr ⟨fun d hd => ?_, fun d t ht hto => ?_⟩⟩
    · obtain rfl | rfl := Channel.eq_or_other c d
      · exact hfree
      · exact hother.trans ((claimLaw_iff.mp k.2).1 _ (hstate ▸ hd))
    · obtain rfl | rfl := Channel.eq_or_other c d
      · simp [hfree] at ht
      · simp [Channel.other_other, hfree] at hto
  gives {s u c o ts} h hidle ho hst hfree k := by
    obtain ⟨hbusy, -, hclaims⟩ := hold_eq_iff.mp h.given
    obtain ⟨hstate, -, hother⟩ := hold_eq h.other
    refine ⟨runs_gives h hidle ho hst k.1, claimLaw_iff.mpr ⟨fun d hd => ?_, fun d t ht hto => ?_⟩⟩
    · obtain rfl | rfl := Channel.eq_or_other c d
      · simp [hbusy] at hd
      · exact hother.trans ((claimLaw_iff.mp k.2).1 _ (hstate ▸ hd))
    · obtain rfl | rfl := Channel.eq_or_other c d
      · exact hfree t (hclaims ▸ ht) (hother ▸ hto)
      · rw [Channel.other_other] at hto
        exact hfree t (hclaims ▸ hto) (hother ▸ ht)
  unserved {s c st} hst k := by
    have claims (d : Channel) : ((s.updChan c fun r => { r with state := st }).chan d).claims = (s.chan d).claims := by
      obtain rfl | rfl := Channel.eq_or_other c d <;> simp
    obtain ⟨hnone, hapart⟩ := claimLaw_iff.mp k.2
    refine ⟨runs_unserved hst k.1, claimLaw_iff.mpr ⟨fun d hd => ?_, fun d t => ?_⟩⟩
    · rw [claims]
      obtain rfl | rfl := Channel.eq_or_other c d
      · rcases hst with ⟨hidle, rfl⟩ | ⟨-, rfl⟩
        · exact hnone d (.inl hidle)
        · simp at hd
      · exact hnone _ (by simpa using hd)
    · rw [claims, claims]
      exact hapart d t

end State
end Sys2Proof.Machine
end

section
/-!
PROOF. Every command keeps the laws of the store, the runs and the claims (O54): what the other blocks do leaves the Transfer
Engine's record, and the engine's requests change the assignment as `RunsOf` allows.
-/
namespace Sys2Proof.Machine
namespace State

variable {s u : State}

/-! ### The other blocks' operations -/

theorem valveFault_te (s : State) (v : Valve) (f : ValveFault) : (s.valveFault v f).te = s.te := rfl

theorem pumpFault_te (s : State) (c : Channel) (f : PumpFault) : (s.pumpFault c f).te = s.te := by
  unfold State.pumpFault
  simp

theorem resetPump_te (s : State) (c : Channel) : (s.resetPump c).te = s.te := by
  unfold State.resetPump
  simp

theorem arrive_te (s : State) (v : Valve) (e : ValveEnd) : (s.arrive v e).te = s.te := by
  unfold State.arrive
  dsimp only
  split <;> rfl

theorem startMove_te (s : State) (v : Valve) (e : ValveEnd) : (s.startMove v e).te = s.te := by
  unfold State.startMove
  dsimp only
  split
  · exact arrive_te _ v e
  · rfl

theorem hostCommand_te (s : State) (v : Valve) (e : ValveEnd) : (s.hostCommand v e).te = s.te := by
  unfold State.hostCommand State.drive
  dsimp only
  split
  · rfl
  · exact startMove_te _ v e

theorem resetValve_te (s : State) (v : Valve) : (s.resetValve v).te = s.te := startMove_te _ v .a

theorem feedback_te (s : State) (v : Valve) (p : Position) : (s.feedback v p).te = s.te := by
  unfold State.feedback
  dsimp only
  split
  · split
    · exact arrive_te _ v _
    · rfl
  · split
    · exact arrive_te _ v _
    · rfl
  · split <;> rfl
  · split <;> rfl
  · rfl

theorem pumpFeedback_te (s : State) (c : Channel) (on : Bool) : (s.pumpFeedback c on).te = s.te := by
  have running (x : State) : (x.pumpRunning c).te = x.te := by
    unfold State.pumpRunning
    simp
  have stopped (x : State) : (x.pumpStopped c).te = x.te := by
    unfold State.pumpStopped
    simp
  unfold State.pumpFeedback
  dsimp only
  split
  · split
    · exact (running _).trans (s.setPump_te c _)
    · exact s.setPump_te c _
  · split
    · exact s.setPump_te c _
    · exact (pumpFault_te _ _ _).trans (s.setPump_te c _)
  · split
    · exact s.setPump_te c _
    · exact (stopped _).trans (s.setPump_te c _)
  · exact s.setPump_te c _

/-- Whatever the Intake Router does, the engine's record stays. -/
theorem te_underIntake (s : State) : ClosedUnderIntake fun u => u.te = s.te where
  updSource x _ _ h := (State.updSource_te _ x _).trans h
  setMainRaw _ h := h
  report _ _ _ _ h := h
  decide h := h
  command v e h := (State.command_te _ v e).trans h
  entryEnd t h := (State.entryEnd_te _ t _).trans h
  entryNotice t c h := (State.entryNotice_te _ t _ c).trans h
  inhibit w c h := (te_of_intake (State.inhibit_beyondIntake _ w c)).trans h

theorem permitSwitch_te (s : State) (w : Watermaker) (give : Bool) : (s.permitSwitch w give).te = s.te :=
  (te_of_intake (State.updatePermit_beyondIntake _ w)).trans (s.updSource_te w.source _)

/-- Whatever the Supply Selector does, the engine's record stays. -/
theorem te_underSupply (s : State) : ClosedUnderSupply fun u => u.te = s.te where
  updSupply _ h := h
  report _ _ _ _ h := h
  command _ e h := (State.command_te _ _ e).trans h

/-! ### The engine's requests -/

/-- The channels as they were, and the places of the orders changed as the runs allow. -/
theorem runs_of_places (hhold : ∀ c, (u.chan c).hold = (s.chan c).hold) (hlen : u.places.length ≤ storeSize)
    (hruns : RunsOf s.places s.run → RunsOf u.places s.run) (h : s.storeLaw ∧ s.runLaw) : u.storeLaw ∧ u.runLaw := by
  obtain ⟨-, runs, idle⟩ := runs_iff.mp h
  have run : u.run = s.run := funext fun c => (hold_eq (hhold c)).2.1
  refine runs_iff.mpr ⟨hlen, run ▸ hruns runs, fun c hc => ?_⟩
  rw [run]
  exact idle c ((hold_eq (hhold c)).1 ▸ hc)

theorem orderLaw_of_runs (hhold : ∀ c, (u.chan c).hold = (s.chan c).hold) (hlen : u.places.length ≤ storeSize)
    (hruns : RunsOf s.places s.run → RunsOf u.places s.run) (h : s.orderLaw) : u.orderLaw := by
  have claims (c : Channel) : (u.chan c).claims = (s.chan c).claims := (hold_eq (hhold c)).2.2
  obtain ⟨hnone, hapart⟩ := claimLaw_iff.mp h.2
  refine ⟨runs_of_places hhold hlen hruns h.1, claimLaw_iff.mpr ⟨fun c hc => ?_, fun c t => ?_⟩⟩
  · rw [claims]
    exact hnone c ((hold_eq (hhold c)).1 ▸ hc)
  · rw [claims, claims]
    exact hapart c t

theorem places_mem_of {P : Order → Prop} (h : ∀ o ∈ s.te.orders, P o.place) : ∀ p ∈ s.places, P p := by
  intro p hp
  obtain ⟨o, ho, rfl⟩ := List.mem_map.mp hp
  exact h o ho

/-- An order enters another state, ACTIVE neither before nor after. -/
theorem orderLaw_enterOrder {id : Nat} {o : Order} {st : OrderState} {f : Order → Order} (h : s.orderLaw)
    (ho : s.order id = some o) (hwas : o.state ≠ .active) (hst : st ≠ .active) (hf : ∀ y : Order, (f { y with state := st }).place = { y.place with state := st }) :
    (s.enterOrder id st f).orderLaw := by
  obtain rfl := order_id ho
  have places := s.enterOrder_places o.id st (g := fun p => { p with state := st }) hf
  refine orderLaw_of_runs (s := s) (fun c => by rw [enterOrder_chan]) ?_ (fun runs => ?_) h
  · rw [places, List.length_map]
    exact (runs_iff.mp h.1).1
  · rw [places]
    refine runs.map (fun p _ => by split <;> rfl) (places_mem_of fun y hy hact => ?_)
    by_cases hid : y.id = o.id
    · obtain rfl := eq_of_id h.1.1.2 hy (order_mem ho) hid
      rw [if_pos (show y.place.id = y.id from rfl)] at hact
      exact (hact.elim hwas hst).elim
    · rw [if_neg (show ¬y.place.id = o.id from hid)]
      exact ⟨rfl, rfl, rfl⟩

theorem renumber_places (s : State) : s.renumber.places = s.places := by
  unfold State.renumber
  split
  · rfl
  · simp only [places, List.map_map]
    conv_rhs => rw [← List.zipIdx_map_fst 0 s.te.orders, List.map_map]
    rfl

theorem renumber_chan (s : State) (c : Channel) : s.renumber.chan c = s.chan c := by
  unfold State.renumber
  split
  · rfl
  · cases c <;> rfl

theorem renumber_orders_length (s : State) : s.renumber.te.orders.length = s.te.orders.length := by
  have := congrArg List.length s.renumber_places
  simpa only [places, List.length_map] using this

/-- A new order waits behind the others (R103). -/
theorem orderLaw_submit {id : Nat} (priority : Nat) (policy : Policy) (legs : List Leg) (h : s.orderLaw)
    (hroom : s.te.orders.length < storeSize) (hid : s.order id = none) : (s.submit id priority policy legs).orderLaw := by
  have apart : ∀ p ∈ s.places, p.id ≠ id := places_mem_of (P := fun p => p.id ≠ id) fun o ho =>
    of_decide_eq_false (Bool.eq_false_iff.mpr (List.find?_eq_none.mp hid o ho))
  refine orderLaw_assignment.arbitrate (orderLaw_assignment.same (reportOrder_assignment _ id) ?_)
  refine orderLaw_of_runs (s := s) (fun c => ?_) ?_ (fun runs => ?_) h
  · rw [← renumber_chan s c]
    cases c <;> rfl
  · simp only [places, List.length_map, List.length_append, renumber_orders_length]
    exact hroom
  · rw [← renumber_places] at runs apart
    simp only [places, List.map_append]
    exact runs.append apart (by simp [Order.place])

theorem orderLaw_cancel (id : Nat) (h : s.orderLaw) : (s.cancel id).orderLaw := by
  unfold State.cancel
  split
  · exact h
  · next o ho =>
    obtain rfl := order_id ho
    have withdrawn (hwas : o.state ≠ .active) :
        ((if o.leg.any (fun l => 0 < l.runs) = true then s.endLeg o.id o.current .cancelled else s).enterOrder o.id .cancelled
          fun o => { o with heldByFallback := false }).orderLaw := by
      have f (y : Order) : ({ { y with state := .cancelled } with heldByFallback := false } : Order).place =
        { y.place with state := .cancelled } := rfl
      split
      · rw [endLeg_eq ho]
        refine orderLaw_enterOrder (orderLaw_assignment.same (legResult_assignment s o _) h)
          (legResult_order ho _) hwas (by decide) f
      · exact orderLaw_enterOrder h ho hwas (by decide) f
    split
    · next hst => exact withdrawn (by rw [hst]; decide)
    · next hst => exact withdrawn (by rw [hst]; decide)
    · split
      · exact h
      · have marked : (s.updOrder o.id fun o => { o with cancelRequested := true }).orderLaw := by
          have places := s.updOrder_places o.id (f := fun o => { o with cancelRequested := true })
            (g := fun p => { p with cancelRequested := true }) fun _ => rfl
          refine orderLaw_of_runs (s := s) (fun c => by cases c <;> rfl) ?_ (fun runs => ?_) h
          · rw [places, List.length_map]
            exact (runs_iff.mp h.1).1
          · rw [places]
            exact runs.map (fun p _ => by split <;> rfl) fun p _ _ => by split <;> exact ⟨rfl, rfl, rfl⟩
        dsimp only
        split
        · split
          · exact orderLaw_assignment.stopRun _ _ marked
          · exact marked
        · exact marked
    · exact h

theorem orderLaw_resume {o : Order} (h : s.orderLaw) (ho : s.order o.id = some o) (hst : o.state = .held) :
    (s.resume o.id).orderLaw :=
  orderLaw_assignment.arbitrate (orderLaw_enterOrder h ho (by rw [hst]; decide) (by decide) fun _ => rfl)

theorem orderLaw_removeOrder {o : Order} (h : s.orderLaw) (ho : s.order o.id = some o) (hlive : o.state.live = false) :
    orderLaw { s with te := { s.te with orders := s.te.orders.filter (·.id ≠ o.id) } } := by
  have places : State.places { s with te := { s.te with orders := s.te.orders.filter (·.id ≠ o.id) } } =
      s.places.filter (·.id ≠ o.id) := (List.filter_map (f := Order.place) (p := fun p => decide (p.id ≠ o.id))).symm
  refine orderLaw_of_runs (s := s) (fun c => by cases c <;> rfl) ?_ (fun runs => ?_) h
  · rw [places]
    exact (List.length_filter_le _ _).trans (runs_iff.mp h.1).1
  · rw [places]
    refine runs.filter (places_mem_of fun y hy hact => decide_eq_true fun hid => ?_)
    obtain rfl := eq_of_id h.1.1.2 hy (order_mem ho) hid
    rw [show y.state = .active from hact] at hlive
    cases hlive

theorem orderLaw_takeOut (c : Channel) (h : s.orderLaw) : (s.takeOut c).orderLaw := by
  have marked : (s.updChan c fun r => { r with outReason := some .host }).orderLaw := orderLaw_assignment.updChan rfl h
  unfold State.takeOut
  dsimp only
  split
  · next hst => exact orderLaw_assignment.setOut (.inl ⟨by rw [updChan_chan_self]; exact hst, rfl⟩) marked
  · next hst =>
    have out := orderLaw_assignment.setOut (.inr ⟨by rw [updChan_chan_self]; exact hst, rfl⟩) marked
    split
    · exact orderLaw_assignment.settle (orderLaw_assignment.stopRun _ _ out)
    · exact out
  · exact h

/-- A channel that comes back holds nothing (R139). -/
theorem orderLaw_takeIn (c : Channel) (h : s.orderLaw) : (s.takeIn c).orderLaw := by
  unfold State.takeIn
  split
  · next hout =>
    have te : ((s.updChan c fun r => { r with outReason := none }).setChannel c .idle).te =
        (s.updChan c fun r => { r with outReason := none, state := .idle }).te := by cases c <;> rfl
    refine orderLaw_assignment.arbitrate (orderLaw_assignment.of_te te ?_)
    have idle (d : Channel) : (s.chan d).state = .idle ∨ (s.chan d).state = .out ↔
        ((s.updChan c fun r => { r with outReason := none, state := .idle }).chan d).state = .idle ∨
          ((s.updChan c fun r => { r with outReason := none, state := .idle }).chan d).state = .out := by
      obtain rfl | rfl := Channel.eq_or_other c d <;> simp [hout]
    have claims (d : Channel) :
        ((s.updChan c fun r => { r with outReason := none, state := .idle }).chan d).claims = (s.chan d).claims := by
      obtain rfl | rfl := Channel.eq_or_other c d <;> simp
    have run : (s.updChan c fun r => { r with outReason := none, state := .idle }).run = s.run := by
      funext d
      obtain rfl | rfl := Channel.eq_or_other c d <;> simp [State.run]
    have places : (s.updChan c fun r => { r with outReason := none, state := .idle }).places = s.places := by
      rw [State.places, updChan_orders, State.places]
    obtain ⟨hlen, runs, hnone⟩ := runs_iff.mp h.1
    obtain ⟨hfree, hapart⟩ := claimLaw_iff.mp h.2
    refine ⟨runs_iff.mpr ⟨places ▸ hlen, by rw [places, run]; exact runs, fun d hd => ?_⟩,
      claimLaw_iff.mpr ⟨fun d hd => ?_, fun d t => ?_⟩⟩
    · rw [run]
      exact hnone d ((idle d).mpr hd)
    · rw [claims]
      exact hfree d ((idle d).mpr hd)
    · rw [claims, claims]
      exact hapart d t
  · exact h

theorem orderLaw_channelPulse (c : Channel) (h : s.orderLaw) : (s.channelPulse c).orderLaw := by
  unfold State.channelPulse
  dsimp only
  split
  · refine orderLaw_assignment.settle (orderLaw_assignment.evaluate _ _ ?_)
    split
    · exact orderLaw_assignment.same (updLeg_assignment _ _ _ _)
        (orderLaw_assignment.updChan rfl (orderLaw_assignment.updChan rfl h))
    · exact orderLaw_assignment.updChan rfl (orderLaw_assignment.updChan rfl h)
  · exact orderLaw_assignment.updChan rfl h

theorem orderLaw_flowLost (c : Channel) (h : s.orderLaw) : (s.flowLost c).orderLaw := by
  unfold State.flowLost
  dsimp only
  split
  · exact orderLaw_assignment.settle (orderLaw_assignment.stopRun _ _ h)
  · exact h

/-- A start begins with an empty store and channels that hold nothing (R101, R117). -/
theorem orderLaw_begin (s : State) (c : ResetCause) (k : Kept) : (s.begin c k).orderLaw := by
  refine ⟨⟨⟨Nat.zero_le _, List.nodup_nil⟩, fun d id n hd => ?_, fun o ho => ?_, fun d _ => by cases d <;> rfl⟩,
    fun d _ => by cases d <;> rfl, fun t ht => ?_⟩
  · cases d <;> cases hd
  · cases ho
  · cases ht

theorem orderLaw_load (h : s.orderLaw) : s.load.orderLaw :=
  orderLaw_assignment.of_te (te_of_modes (State.changeMode_beyondModes _ _ _))
    (orderLaw_assignment.same (s := s) (assignment_eq_iff.mpr ⟨rfl, fun c => by cases c <;> rfl⟩) h)

/-- Every command keeps the laws of the store, the runs and the claims. -/
theorem orderLaw_keptByCommands : KeptByCommands orderLaw where
  informs h hu := orderLaw_assignment.of_te hu.te h
  hostCommand h _ _ _ _ := orderLaw_assignment.of_te (hostCommand_te _ _ _) h
  resetValve h _ := orderLaw_assignment.of_te (resetValve_te _ _) h
  feedback h _ := orderLaw_assignment.of_te (feedback_te _ _ _) h
  travelTimeout h _ := orderLaw_assignment.of_te (valveFault_te _ _ _) h
  travelTime {s} _ h := orderLaw_assignment.of_te (s := s) rfl h
  resetPump h _ := orderLaw_assignment.of_te (resetPump_te _ _) h
  pumpFeedback h _ := orderLaw_assignment.of_te (pumpFeedback_te _ _ _) h
  startTimeout h _ := orderLaw_assignment.of_te (pumpFault_te _ _ _) h
  stopTimeout h _ := orderLaw_assignment.of_te (pumpFault_te _ _ _) h
  setSource x v h := orderLaw_assignment.of_te ((te_underIntake _).setSource x v rfl) h
  permitSwitch w give h := orderLaw_assignment.of_te (permitSwitch_te _ w give) h
  setRules {s} _ h := orderLaw_assignment.of_te (s := s) rfl h
  decideAll h := orderLaw_assignment.of_te ((te_underIntake _).decideAll rfl) h
  openShore h := orderLaw_assignment.of_te ((te_underIntake _).openShore rfl) h
  endShore e h := orderLaw_assignment.of_te ((te_underIntake _).endShore e rfl) h
  beginCheck x h := orderLaw_assignment.of_te ((te_underIntake _).beginCheck x rfl) h
  endCheck x h := orderLaw_assignment.of_te ((te_underIntake _).endCheck x rfl) h
  conductivity x v h := orderLaw_assignment.of_te ((te_underIntake _).conductivity x v rfl) h
  makerRise w h := orderLaw_assignment.of_te ((te_underIntake _).makerRise w rfl) h
  makerFall w h := orderLaw_assignment.of_te ((te_underIntake _).makerFall w rfl) h
  endFlush w h := orderLaw_assignment.of_te ((te_underIntake _).endFlush w rfl) h
  dumpExpired w h := orderLaw_assignment.of_te ((te_underIntake _).dumpExpired w rfl) h
  sourcePulse x h := orderLaw_assignment.of_te ((te_underIntake _).sourcePulse x rfl) h
  submit p q l h hroom hid := orderLaw_submit p q l h hroom hid
  cancel id h := orderLaw_cancel id h
  settle h := orderLaw_assignment.settle h
  resume h ho hst := orderLaw_resume h ho hst
  removeOrder h ho hlive := orderLaw_removeOrder h ho hlive
  setChannel _ _ h := orderLaw_assignment.updChan rfl h
  takeOut c h := orderLaw_takeOut c h
  takeIn {_ c} h _ := orderLaw_takeIn c h
  channelPulse c h := orderLaw_channelPulse c h
  flowLost c h := orderLaw_flowLost c h
  setDuty l h := orderLaw_assignment.of_te ((te_underSupply _).setDuty l rfl) h
  advance t h := orderLaw_assignment.of_te ((te_underSupply _).advance t rfl) h
  setMode m h := orderLaw_assignment.of_te (te_of_modes (State.setMode_beyondModes _ m)) h
  setSupervision {s} _ _ h := orderLaw_assignment.of_te (s := s) rfl h
  takeHeartbeat h := orderLaw_assignment.of_te (te_of_modes (State.takeHeartbeat_beyondModes _)) h
  changeMode m h := orderLaw_assignment.of_te (te_of_modes (State.changeMode_beyondModes _ m _)) h
  wakeLimitExpires h := orderLaw_assignment.of_te (te_of_modes (State.wakeLimitExpires_beyondModes _)) h
  confirmExpires h := orderLaw_assignment.of_te (te_of_modes (State.confirmExpires_beyondModes _)) h
  supervisionExpires h := orderLaw_assignment.of_te (te_of_modes (State.supervisionExpires_beyondModes _)) h
  begin s c k := orderLaw_begin s c k
  load h := orderLaw_load h
  take {s m rest} h _ := orderLaw_assignment.take m (orderLaw_assignment.of_te (s := s) (u := { s with msgs := rest }) rfl h)
  keepDumpTimers h := orderLaw_assignment.keepDumpTimers h

end State
end Sys2Proof.Machine
end

section
open Sys2Proof Sys2Proof.Machine

/-- Settles O54: each command keeps the three laws together. -/
theorem stepsKeepTheOrderLaws : Obligations.StepsKeepTheOrderLaws := by
  intro s u hstore hrun hclaim hstep
  obtain ⟨⟨store, run⟩, claim⟩ := State.orderLaw_keptByCommands.step ⟨⟨hstore, hrun⟩, hclaim⟩ hstep
  exact ⟨store, run, claim⟩

end

section
/-!
PROOF. What the Transfer Engine does to a request does not look at the link's own record of it: each of its operations commutes with
`State.taken`, one lemma per operation, in the order of Machine/Transfer.lean.
-/
namespace Sys2Proof.Machine
namespace State

variable (s : State) (r : Request)

theorem chan_taken (c : Channel) : (s.taken r).chan c = s.chan c := by cases c <;> rfl

theorem order_taken (id : Nat) : (s.taken r).order id = s.order id := rfl

theorem runLeg_taken (c : Channel) : (s.taken r).runLeg c = s.runLeg c := runLeg_of_te (s := s) (u := s.taken r) rfl c

theorem runOver_taken (c : Channel) : (s.taken r).runOver c = s.runOver c := runOver_of_te (s := s) (u := s.taken r) rfl c

theorem updOrder_taken (id : Nat) (f : Order → Order) : (s.taken r).updOrder id f = (s.updOrder id f).taken r := rfl

/-! ### Orders and channels -/

theorem reportOrder_taken (id : Nat) : (s.taken r).reportOrder id = (s.reportOrder id).taken r := by
  unfold State.reportOrder
  rw [order_taken]
  split
  · exact report_taken _ _ _ _ _ _
  · rfl

theorem enterOrder_taken (id : Nat) (st : OrderState) (f : Order → Order) :
    (s.taken r).enterOrder id st f = (s.enterOrder id st f).taken r := by
  unfold State.enterOrder
  dsimp only
  rw [← reportOrder_taken, ← ite_taken]
  rfl

theorem updLeg_taken (id k : Nat) (f : Leg → Leg) : (s.taken r).updLeg id k f = (s.updLeg id k f).taken r := rfl

theorem endLeg_taken (id k : Nat) (x : LegResult) : (s.taken r).endLeg id k x = (s.endLeg id k x).taken r := by
  simp only [State.endLeg, updLeg_taken, order_taken, report_taken]

theorem takeLegEnd_taken (id k : Nat) (x : LegResult) : (s.taken r).takeLegEnd id k x = (s.takeLegEnd id k x).taken r := by
  unfold State.takeLegEnd
  dsimp only
  rw [endLeg_taken, order_taken]
  split
  · rfl
  · exact enterOrder_taken _ _ _ _ _

theorem takeReturn_taken (id k : Nat) (b : ReturnCause) : (s.taken r).takeReturn id k b = (s.takeReturn id k b).taken r := by
  unfold State.takeReturn
  rw [order_taken]
  split
  · rfl
  · split
    · rw [endLeg_taken, enterOrder_taken]
    · cases b with
      | guard =>
        dsimp only
        rw [enterOrder_taken]
        rfl
      | channelOut => exact enterOrder_taken _ _ _ _ _
      | fallback => exact enterOrder_taken _ _ _ _ _

theorem setChannel_taken (c : Channel) (st : ChannelState) : (s.taken r).setChannel c st = (s.setChannel c st).taken r := by
  simp only [State.setChannel, updChan_taken, chan_taken, report_taken]

theorem releaseClaims_taken (c : Channel) : (s.taken r).releaseClaims c = (s.releaseClaims c).taken r := by
  unfold State.releaseClaims
  rw [chan_taken]
  exact foldl_taken (f := fun (x : State) t => x.updTank t fun q => { q with claim := none }) s r (fun _ _ => rfl) _

theorem closeRun_taken (c : Channel) (k : StopCause) : (s.taken r).closeRun c k = (s.closeRun c k).taken r := by
  unfold State.closeRun
  rw [chan_taken]
  cases (s.chan c).order with
  | none => simp only [releaseClaims_taken, updChan_taken, chan_taken, setChannel_taken]
  | some x =>
    cases k with
    | result y => simp only [takeLegEnd_taken, releaseClaims_taken, updChan_taken, chan_taken, setChannel_taken]
    | back y => simp only [takeReturn_taken, releaseClaims_taken, updChan_taken, chan_taken, setChannel_taken]

/-! ### The start and the stop of a run -/

theorem pump_taken (c : Channel) : (s.taken r).pump c = s.pump c := by cases c <;> rfl

theorem setPump_taken (c : Channel) (p : PumpRecord) : (s.taken r).setPump c p = (s.setPump c p).taken r := by cases c <;> rfl

theorem pumpStop_taken (c : Channel) : (s.taken r).pumpStop c = (s.pumpStop c).taken r := by
  have clock : (s.taken r).clock = s.clock := rfl
  have stopped (x : State) : (x.taken r).pumpStopped c = (x.pumpStopped c).taken r := by
    simp only [State.pumpStopped, pump_taken, setPump_taken, emit_taken]
  unfold State.pumpStop
  simp only [pump_taken, clock, setPump_taken, stopped, ite_taken, emit_taken]
  split <;> rfl

theorem closeValves_taken (c : Channel) : (s.taken r).closeValves c = (s.closeValves c).taken r := by
  unfold State.closeValves
  rw [chan_taken]
  exact foldl_taken (f := fun (x : State) (v : Valve × LinedAnswer) => x.command v.1 .a) s r
    (fun x v => command_taken x r v.1 .a) _

theorem endRunEntry_taken (made : Bool) (c : Channel) (dest : Option TankIx) :
    (s.taken r).endRunEntry made c dest = (s.endRunEntry made c dest).taken r := by
  unfold State.endRunEntry
  rw [foldl_taken (f := fun (x : State) t => x.entryEnd t c.entrant) s r (fun _ _ => rfl), updChan_taken, ite_taken]

theorem stopPumpOrClose_taken (p : PumpState) (c : Channel) :
    (s.taken r).stopPumpOrClose p c = (s.stopPumpOrClose p c).taken r := by
  unfold State.stopPumpOrClose
  split
  · rw [updChan_taken, pumpStop_taken]
  · rw [updChan_taken, pumpStop_taken]
  · rfl
  · exact closeValves_taken _ _ _
  · exact closeValves_taken _ _ _

theorem stopRun_taken (c : Channel) (k : StopCause) : (s.taken r).stopRun c k = (s.stopRun c k).taken r := by
  simp only [stopRun_eq, chan_taken, runLeg_taken, updChan_taken, endRunEntry_taken, stopPumpOrClose_taken]

theorem stopCause_taken (c : Channel) (l : Leg) (e : Evaluation) : (s.taken r).stopCause c l e = s.stopCause c l e := by
  unfold State.stopCause
  rw [chan_taken]
  rfl

theorem evaluate_taken (c : Channel) (e : Evaluation) : (s.taken r).evaluate c e = (s.evaluate c e).taken r := by
  unfold State.evaluate
  rw [chan_taken, runLeg_taken]
  split
  · split
    · rw [stopCause_taken]
      split
      · exact stopRun_taken _ _ _ _
      · rfl
    · rfl
  · rfl

theorem beginRun_taken (c : Channel) (id k : Nat) (l : Leg) : (s.taken r).beginRun c id k l = (s.beginRun c id k l).taken r := by
  simp only [State.beginRun, updLeg_taken, updChan_taken, command_taken, evaluate_taken]
  rfl

/-! ### The arbiter -/

/-- A weighing, as a request stands taken. -/
def takenWeighing (q : State × Option (Order × Leg)) : State × Option (Order × Leg) := (q.1.taken r, q.2)

theorem weigh_taken (c : Channel) (os : List Order) : (s.taken r).weigh c os = takenWeighing r (s.weigh c os) := by
  induction os generalizing s with
  | nil => rfl
  | cons o os ih =>
    have holds (l : Leg) : (s.taken r).guardHolds o.id l = s.guardHolds o.id l := rfl
    rw [weigh_cons, weigh_cons]
    split
    · exact ih s
    · rw [holds, chan_taken]
      split
      · exact ih s.guardMarked
      · split
        · exact ih (s.unguarded o.id)
        · rfl

theorem given_taken (c : Channel) (o : Order) (l : Leg) : (s.taken r).given c o l = (s.given c o l).taken r := by
  unfold given
  dsimp only
  rw [enterOrder_taken, updChan_taken, setChannel_taken, updChan_taken]
  exact foldl_taken (f := fun (x : State) t => x.updTank t fun q => { q with claim := some c }) _ r (fun _ _ => rfl) _

theorem give_taken (c : Channel) (o : Order) (l : Leg) : (s.taken r).give c o l = (s.give c o l).taken r := by
  have check (x : State) : (x.taken r).startCheck c l = x.startCheck c l := rfl
  rw [give_eq, give_eq, given_taken, check]
  split
  · exact closeRun_taken _ _ _ _
  · exact beginRun_taken _ _ _ _ _ _

theorem tryGive_taken (c : Channel) : (s.taken r).tryGive c = takenFirst r (s.tryGive c) := by
  have waiting : (s.taken r).waiting = s.waiting := rfl
  unfold State.tryGive
  rw [chan_taken, waiting, weigh_taken]
  split
  · obtain ⟨y, g⟩ := s.weigh c s.waiting
    cases g with
    | none => rfl
    | some x => exact Prod.ext (give_taken y r c x.1 x.2) rfl
  · rfl

theorem passes_taken (n : Nat) : State.passes n (s.taken r) = (State.passes n s).taken r := by
  induction n generalizing s with
  | zero => rfl
  | succ n ih =>
    simp only [State.passes, tryGive_taken, takenFirst, ih]
    exact ite_taken r _ _ _

theorem arbitrate_taken : (s.taken r).arbitrate = s.arbitrate.taken r := by
  have unmarked : ({ s.taken r with te := { (s.taken r).te with guardPassed := false } } : State) =
      State.taken r { s with te := { s.te with guardPassed := false } } := rfl
  unfold State.arbitrate
  dsimp only
  rw [unmarked, ← ite_taken, ← passes_taken]
  rfl

theorem closeIfOver_taken (c : Channel) : (s.taken r).closeIfOver c = takenFirst r (s.closeIfOver c) := by
  unfold State.closeIfOver
  rw [runOver_taken]
  split
  · exact Prod.ext (closeRun_taken _ _ _ _) rfl
  · rfl

theorem settle_taken : (s.taken r).settle = s.settle.taken r := by
  simp only [State.settle, closeIfOver_taken, takenFirst, arbitrate_taken]
  exact ite_taken r _ _ _

/-! ### Requests -/

theorem cancel_taken (id : Nat) : (s.taken r).cancel id = (s.cancel id).taken r := by
  unfold State.cancel
  rw [order_taken]
  split
  · rfl
  · split
    · rw [endLeg_taken, ite_taken, enterOrder_taken]
    · rw [endLeg_taken, ite_taken, enterOrder_taken]
    · split
      · rfl
      · dsimp only
        split
        · rw [updOrder_taken, chan_taken, stopRun_taken, ite_taken]
        · rfl
    · rfl

theorem resume_taken (id : Nat) : (s.taken r).resume id = (s.resume id).taken r := by
  simp only [State.resume, enterOrder_taken, arbitrate_taken]

theorem submit_taken (id priority : Nat) (policy : Policy) (legs : List Leg) :
    (s.taken r).submit id priority policy legs = (s.submit id priority policy legs).taken r := by
  have renumbered : (s.taken r).renumber = s.renumber.taken r := by
    unfold State.renumber
    rw [← ite_taken]
    rfl
  unfold State.submit
  dsimp only
  rw [renumbered, ← arbitrate_taken, ← reportOrder_taken]
  rfl

theorem takeOut_taken (c : Channel) : (s.taken r).takeOut c = (s.takeOut c).taken r := by
  unfold State.takeOut
  dsimp only
  rw [chan_taken]
  split
  · rw [updChan_taken, setChannel_taken]
  · rw [updChan_taken, setChannel_taken, stopRun_taken, settle_taken, ite_taken]
  · rfl

end State
end Sys2Proof.Machine
end

section
/-!
PROOF. The requests about an order that waits (O43): what they make of the order, and that nothing else is handed on.
-/
namespace Sys2Proof.Machine
namespace State

variable {s : State} {id : Nat} {o : Order}

theorem runOver_of_chan {s u : State} {c : Channel} (h : u.chan c = s.chan c) : u.runOver c = s.runOver c := by
  simp only [State.runOver, h]

theorem closeIfOver_none {c : Channel} (h : s.runOver c = none) : s.closeIfOver c = (s, false) := by
  simp only [State.closeIfOver, h]

/-- Where no run is over, nothing is handed on and the arbiter does not run (R136). -/
theorem settle_settled (h : s.settled) : s.settle = s := by
  simp only [State.settle, closeIfOver_none h.1, closeIfOver_none h.2, Bool.or_self, Bool.false_eq_true, if_false]

/-- An order that enters a state without a channel is reported with the leg it is at (R104). -/
theorem enterOrder_waiting {st : OrderState} {f : Order → Order} (h : s.order id = some o) (hst : st ≠ .active)
    (hid : ∀ y : Order, (f { y with state := st }).id = y.id) (hs : (f { o with state := st }).state = st)
    (hc : (f { o with state := st }).current = o.current) : s.enterOrder id st f =
      State.report .order id st.code (o.current * 16777216) (if st = .pending then s.updOrder id fun y => f { y with state := st }
        else { s.updOrder id fun y => f { y with state := st } with
          te := { (s.updOrder id fun y => f { y with state := st }).te with guardList := s.te.guardList.filter (· ≠ id) } }) := by
  have found := updOrder_order (f := fun y => f { y with state := st }) hid s id
  rw [h, Option.map_some] at found
  have value : orderValue o.current none = o.current * 16777216 := by simp [orderValue]
  have put {x : State} (hx : x.order id = some (f { o with state := st })) :
      x.reportOrder id = x.report .order id st.code (o.current * 16777216) := by
    simp only [State.reportOrder, hx, hs, hc, if_neg hst, value]
  unfold State.enterOrder
  dsimp only
  split
  · exact put found
  · exact put found

/-- A HELD order returns to PENDING (R110). -/
theorem resume_held (h : s.order id = some o) : s.resume id =
    ({ s.updOrder id fun y => { y with state := .pending, heldByFallback := false } with
      lu := s.lu.append ⟨.order, id, 1, s.clock, o.current * 16777216⟩ } : State).arbitrate := by
  unfold State.resume
  rw [enterOrder_waiting h (by decide) (fun _ => rfl) rfl rfl]
  rfl

/-- The cancel of an order that waits: its leg ended if it has run, and the order CANCELLED (R108). -/
theorem cancel_of_waiting (h : s.order id = some o) (hst : o.state = .pending ∨ o.state = .held) : s.cancel id =
    (if o.leg.any (fun l => decide (0 < l.runs)) = true then s.endLeg id o.current .cancelled else s).enterOrder id .cancelled
      fun o => { o with heldByFallback := false } := by
  unfold State.cancel
  rw [h]
  rcases hst with hst | hst <;> simp only [hst]

/-- The cancel of an order that waits, written out. -/
theorem cancel_waiting (h : s.order id = some o) (hst : o.state = .pending ∨ o.state = .held) {x : State}
    (hx : x = if o.leg.any (fun l => decide (0 < l.runs)) = true then s.legResult o .cancelled else s) : s.cancel id =
      ({ x.updOrder id fun y => { y with state := .cancelled, heldByFallback := false } with
        lu := x.lu.append ⟨.order, id, 6, s.clock, o.current * 16777216⟩,
        te := { (x.updOrder id fun y => { y with state := .cancelled, heldByFallback := false }).te with
          guardList := s.te.guardList.filter (· ≠ id) } } : State) := by
  obtain rfl := order_id h
  have ended : (if o.leg.any (fun l => decide (0 < l.runs)) = true then s.endLeg o.id o.current .cancelled else s) = x := by
    rw [hx, endLeg_eq h]
  have found : ∃ y, x.order o.id = some y ∧ y.current = o.current := by
    rw [hx]
    split
    · exact ⟨_, legResult_order h _, rfl⟩
    · exact ⟨o, h, rfl⟩
  have clock : x.clock = s.clock := by rw [hx]; split <;> rfl
  have guards : x.te.guardList = s.te.guardList := by rw [hx]; split <;> rfl
  obtain ⟨y, hy, hcur⟩ := found
  have entered := enterOrder_waiting (st := .cancelled) (f := fun y => { y with heldByFallback := false }) hy (by decide)
    (fun _ => rfl) rfl rfl
  rw [cancel_of_waiting h hst, ended, entered, hcur, ← clock, ← guards]
  rfl

/-- The order that has been cancelled while it waited. -/
theorem cancel_waiting_order (h : s.order id = some o) (hst : o.state = .pending ∨ o.state = .held) :
    ∃ y, (s.cancel id).order id = some y ∧ y.state = .cancelled ∧ y.cancelRequested = o.cancelRequested := by
  obtain rfl := order_id h
  rw [cancel_waiting h hst rfl]
  have put (x : State) := updOrder_order (f := fun y => { y with state := .cancelled, heldByFallback := false }) (fun _ => rfl) x o.id
  by_cases hl : o.leg.any (fun l => decide (0 < l.runs)) = true
  · simp only [if_pos hl]
    exact ⟨_, (put _).trans (congrArg _ (legResult_order h _)), rfl, rfl⟩
  · simp only [if_neg hl]
    exact ⟨_, (put _).trans (congrArg _ h), rfl, rfl⟩

theorem cancel_waiting_chan (h : s.order id = some o) (hst : o.state = .pending ∨ o.state = .held) (c : Channel) :
    (s.cancel id).chan c = s.chan c := by
  rw [cancel_waiting h hst rfl]
  split <;> cases c <;> rfl

end State
end Sys2Proof.Machine
end

section
open Sys2Proof Sys2Proof.Machine

/-- Settles O43: each request reads the order of its id, and answers by the order's state. -/
theorem waitingOrdersFollowTheirRequests : Obligations.WaitingOrdersFollowTheirRequests := by
  rintro s tag id p hs hid rfl
  have size : ¬(u16 id).length ≠ 2 := fun h => h rfl
  have named : u16At (u16 id) 0 = id := u16At_alone hid
  have mode (r : Request) : (s.taken r).mode = s.mode := rfl
  refine ⟨fun hnone => ⟨?_, ?_, fun hw => ?_⟩, fun hw => ?_, fun o ho => ⟨fun hl => ?_, fun hl => ?_, fun hh hw => ?_, fun hl => ?_,
    fun hh hw => ?_, fun hst hset x hx => ?_⟩⟩
  · refine exec_refused (r := ⟨0x41, tag, u16 id⟩) (f := answerOrderCancel) rfl rfl hs ?_
    simp only [answerOrderCancel, if_neg size, named, State.order_taken, hnone]
  · refine exec_refused (r := ⟨0x44, tag, u16 id⟩) (f := answerOrderRemove) rfl rfl hs ?_
    simp only [answerOrderRemove, if_neg size, named, State.order_taken, hnone]
  · refine exec_refused (r := ⟨0x43, tag, u16 id⟩) (f := answerOrderResume) rfl rfl hs ?_
    simp only [answerOrderResume, if_neg size, named, State.order_taken, hnone, mode, hw]
    rfl
  · refine exec_refused (r := ⟨0x43, tag, u16 id⟩) (f := answerOrderResume) rfl rfl hs ?_
    simp only [answerOrderResume, if_neg size, mode, hw]
    rfl
  · refine exec_refused (r := ⟨0x41, tag, u16 id⟩) (f := answerOrderCancel) rfl rfl hs ?_
    simp only [answerOrderCancel, if_neg size, named, State.order_taken, ho, hl]
    rfl
  · refine exec_refused (r := ⟨0x44, tag, u16 id⟩) (f := answerOrderRemove) rfl rfl hs ?_
    simp only [answerOrderRemove, if_neg size, named, State.order_taken, ho, hl]
    rfl
  · refine exec_refused (r := ⟨0x43, tag, u16 id⟩) (f := answerOrderResume) rfl rfl hs ?_
    simp only [answerOrderResume, if_neg size, named, State.order_taken, ho, mode, hw, if_neg hh]
    rfl
  · refine exec_accepted (r := ⟨0x44, tag, u16 id⟩) (f := answerOrderRemove) rfl rfl hs ?_
    obtain rfl := State.order_id ho
    simp only [answerOrderRemove, if_neg size, named, State.order_taken, ho, hl]
    rfl
  · refine exec_accepted (r := ⟨0x43, tag, u16 id⟩) (f := answerOrderResume) rfl rfl hs ?_
    obtain rfl := State.order_id ho
    simp only [answerOrderResume, if_neg size, named, State.order_taken, ho, mode, hw, if_pos hh, State.resume_taken,
      State.resume_held ho]
    rfl
  · refine exec_accepted (r := ⟨0x41, tag, u16 id⟩) (f := answerOrderCancel) rfl rfl hs ?_
    obtain rfl := State.order_id ho
    have live : o.state.live = true := by rcases hst with h | h <;> rw [h] <;> rfl
    obtain ⟨y, hy, hcancelled, hmark⟩ := State.cancel_waiting_order ho hst
    have unended (c : Channel) := State.runOver_of_chan (State.cancel_waiting_chan ho hst c)
    have settled : (s.cancel o.id).settle = s.cancel o.id :=
      State.settle_settled ⟨(unended .tc1).trans hset.1, (unended .tc2).trans hset.2⟩
    simp only [answerOrderCancel, if_neg size, named, State.order_taken, ho, live, State.cancel_taken, hy, State.settle_taken,
      settled, Option.getD_some, hcancelled, hmark]
    exact congrArg (fun u => accept _ (State.taken _ u)) (State.cancel_waiting ho hst hx)
end

section
/-!
PROOF. ORDER_SUBMIT (O38): what a payload that can be read holds, the store with a new order in it, and what the arbiter leaves.
-/
namespace Sys2Proof.Machine

/-! ### A payload that can be read (R102, check 6) -/

theorem tankOfCode_range {n : Nat} {t : TankIx} (h : tankOfCode n = some t) : 1 ≤ n ∧ n ≤ 12 := by
  unfold tankOfCode at h
  split at h
  · assumption
  · cases h

theorem EndCondition.code_of_ofCode {n : Nat} {x : EndCondition} (h : EndCondition.ofCode n = some x) : x.code = n := by
  unfold EndCondition.ofCode at h
  split at h <;> cases h <;> rfl

theorem Policy.code_of_ofCode {n : Nat} {x : Policy} (h : Policy.ofCode n = some x) : x.code = n := by
  unfold Policy.ofCode at h
  split at h <;> cases h <;> rfl

/-- The fields of a leg that stands at a place of a payload. -/
structure LegFits (p : List Byte) (i : Nat) : Prop where
  source : 1 ≤ byteAt p i ∧ byteAt p i ≤ 12
  dest : byteAt p (i + 1) = 255 ∨ 1 ≤ byteAt p (i + 1) ∧ byteAt p (i + 1) ≤ 12
  apart : byteAt p i ≠ byteAt p (i + 1)
  condition : 1 ≤ byteAt p (i + 2) ∧ byteAt p (i + 2) ≤ 3
  volume : 1 ≤ u32At p (i + 3) ∧ u32At p (i + 3) ≤ 99999
  fill : ¬(byteAt p (i + 2) = EndCondition.fill.code ∧ byteAt p (i + 1) = 255)

theorem readLeg_fits {p : List Byte} {i : Nat} {l : Leg} (h : readLeg p i = some l) : LegFits p i := by
  simp only [readLeg, Option.bind_eq_bind, Option.bind_eq_some_iff] at h
  obtain ⟨source, hsource, dest, hdest, cond, hcond, vol, hvol, hchecks⟩ := h
  have range : 1 ≤ byteAt p i ∧ byteAt p i ≤ 12 := tankOfCode_range hsource
  have code := EndCondition.code_of_ofCode hcond
  have checks : ¬(dest = .tank source ∨ (cond = .fill ∧ dest = .overboard)) := by
    intro hfail
    rw [if_pos hfail] at hchecks
    cases hchecks
  have known : byteAt p (i + 1) = 255 ∧ dest = .overboard ∨
      ∃ t, tankOfCode (byteAt p (i + 1)) = some t ∧ dest = .tank t := by
    unfold Dest.ofCode at hdest
    split at hdest
    · exact .inl ⟨‹_›, (Option.some.inj hdest).symm⟩
    · obtain ⟨t, ht, hd⟩ := Option.map_eq_some_iff.mp hdest
      exact .inr ⟨t, ht, hd.symm⟩
  refine ⟨range, ?_, fun same => ?_, ?_, (natIn_eq_some hvol).1, fun ⟨hfill, hover⟩ => checks (.inr ⟨?_, ?_⟩)⟩
  · rcases known with ⟨h255, -⟩ | ⟨t, ht, -⟩
    · exact .inl h255
    · exact .inr (tankOfCode_range ht)
  · rcases known with ⟨h255, -⟩ | ⟨t, ht, hd⟩
    · omega
    · have tank : tankOfCode (byteAt p i) = some source := hsource
      rw [same, ht] at tank
      exact checks (.inl (hd.trans (congrArg _ (Option.some.inj tank))))
  · rw [← code]
    cases cond <;> decide
  · rw [← code] at hfill
    cases cond
    · cases hfill
    · rfl
    · cases hfill
  · rcases known with ⟨-, hd⟩ | ⟨t, ht, -⟩
    · exact hd
    · have := tankOfCode_range ht
      omega

theorem readLegs_fit {p : List Byte} {n k : Nat} {legs : List Leg} (h : readLegs p n k = some legs) {j : Nat} (hj : j < n) :
    LegFits p (5 + 7 * (k + j)) := by
  induction n generalizing k j legs with
  | zero => exact absurd hj (Nat.not_lt_zero j)
  | succ n ih =>
    simp only [readLegs, Option.bind_eq_bind, Option.bind_eq_some_iff] at h
    obtain ⟨leg, hleg, rest, hrest, -⟩ := h
    cases j with
    | zero => exact readLeg_fits hleg
    | succ j =>
      rw [show k + (j + 1) = k + 1 + j by omega]
      exact ih hrest (Nat.lt_of_succ_lt_succ hj)

/-- What an ORDER_SUBMIT payload that can be read holds (R102, check 6). -/
theorem readOrder_fits {p : List Byte} (h : (readOrder p).isSome) : byteAt p 2 ≤ 3 ∧
    byteAt p 3 ∈ [Policy.abandon.code, Policy.skip.code] ∧ ∀ k, k < byteAt p 4 → LegFits p (5 + 7 * k) := by
  obtain ⟨x, hx⟩ := Option.isSome_iff_exists.mp h
  simp only [readOrder, Option.bind_eq_bind, Option.bind_eq_some_iff] at hx
  obtain ⟨priority, hpriority, policy, hpolicy, legs, hlegs, -⟩ := hx
  refine ⟨(natIn_eq_some hpriority).1.2, ?_, fun k hk => ?_⟩
  · rw [← Policy.code_of_ofCode hpolicy]
    cases policy <;> decide
  · have fits := readLegs_fit hlegs hk
    rwa [Nat.zero_add] at fits

/-- A payload with a field outside its range cannot be read. -/
theorem readOrder_none {p : List Byte}
    (bad : 3 < byteAt p 2 ∨ byteAt p 3 ∉ [Policy.abandon.code, Policy.skip.code] ∨
      ∃ k, k < byteAt p 4 ∧ ∃ source dest condition volume, source = byteAt p (5 + 7 * k) ∧
        dest = byteAt p (6 + 7 * k) ∧ condition = byteAt p (7 + 7 * k) ∧ volume = u32At p (8 + 7 * k) ∧
        ((source = 0 ∨ 12 < source) ∨ ((dest = 0 ∨ 12 < dest) ∧ dest ≠ 255) ∨ source = dest ∨
          (condition = 0 ∨ 3 < condition) ∨ (volume = 0 ∨ 99999 < volume) ∨
          (condition = EndCondition.fill.code ∧ dest = 255))) : readOrder p = none := by
  rw [← Option.not_isSome_iff_eq_none]
  intro read
  obtain ⟨hpriority, hpolicy, hlegs⟩ := readOrder_fits read
  rcases bad with h | h | ⟨k, hk, source, dest, cond, vol, rfl, rfl, rfl, rfl, h⟩
  · omega
  · exact h hpolicy
  · obtain ⟨hsource, hdest, hapart, hcond, hvol, hfill⟩ := hlegs k hk
    rw [show 5 + 7 * k + 1 = 6 + 7 * k by omega] at hdest hapart hfill
    rw [show 5 + 7 * k + 2 = 7 + 7 * k by omega] at hcond hfill
    rw [show 5 + 7 * k + 3 = 8 + 7 * k by omega] at hvol
    rcases h with h | h | h | h | h | h
    · omega
    · omega
    · exact hapart h
    · omega
    · omega
    · exact hfill h

namespace State

variable {s : State}

/-! ### What the arbiter leaves -/

theorem standsIn_arbitrate (s : State) : s.standsIn s.arbitrate :=
  ⟨standing_of_transfer s.arbitrate_beyondTransfer, ((Grows.refl s).arbitrate).queue⟩

theorem arbitrate_orders_length (s : State) : s.arbitrate.te.orders.length = s.te.orders.length := by
  have orders : s.arbitrate.te.orders.map Order.standing = s.te.orders.map Order.standing :=
    congrArg Standing.orders (standing_of_transfer s.arbitrate_beyondTransfer)
  simpa using congrArg List.length orders

theorem tryGive_not_idle {c : Channel} (h : (s.chan c).state ≠ .idle) : s.tryGive c = (s, false) := if_neg h

/-- A pass that gives no order is the last (R120). -/
theorem passes_done (h1 : s.tryGive .tc1 = (s, false)) (h2 : s.tryGive .tc2 = (s, false)) (n : Nat) : State.passes n s = s := by
  cases n with
  | zero => rfl
  | succ n => simp [State.passes, h1, h2]

/-- Where no channel is free the arbiter only takes the guard's mark back. -/
theorem arbitrate_busy (h1 : s.te.tc1.state ≠ .idle) (h2 : s.te.tc2.state ≠ .idle) :
    s.arbitrate = { s with te := { s.te with guardPassed := false } } := by
  have done (n : Nat) : State.passes n { s with te := { s.te with guardPassed := false } } =
      { s with te := { s.te with guardPassed := false } } :=
    passes_done (s := { s with te := { s.te with guardPassed := false } }) (tryGive_not_idle (c := .tc1) h1)
      (tryGive_not_idle (c := .tc2) h2) n
  unfold State.arbitrate
  dsimp only
  rw [done]
  split <;> rfl

/-! ### The store with a new order (R98, R103) -/

/-- The orders held, and the sequence number for one more (R98). -/
theorem renumber_eq {held : List Order} {n : Nat} (hn : s.te.sequence < countMax → held = s.te.orders ∧ n = s.te.sequence)
    (hn' : countMax ≤ s.te.sequence →
      held = s.te.orders.zipIdx.map (fun y => { y.1 with sequence := y.2 + 1 }) ∧ n = s.te.orders.length + 1) :
    s.renumber = { s with te := { s.te with orders := held, sequence := n } } := by
  unfold State.renumber
  split
  · obtain ⟨rfl, rfl⟩ := hn ‹_›
    rfl
  · obtain ⟨rfl, rfl⟩ := hn' (Nat.not_lt.mp ‹_›)
    rfl

theorem renumber_order {id : Nat} (h : s.order id = none) : s.renumber.order id = none := by
  have places {o : Order} (ho : o ∈ s.renumber.te.orders) : ∃ y ∈ s.te.orders, y.id = o.id := by
    have hp : o.place ∈ s.places := s.renumber_places ▸ List.mem_map_of_mem ho
    obtain ⟨y, hy, same⟩ := List.mem_map.mp hp
    exact ⟨y, hy, show y.place.id = o.place.id by rw [same]⟩
  refine List.find?_eq_none.mpr fun o ho hid => ?_
  obtain ⟨y, hy, same⟩ := places ho
  exact List.find?_eq_none.mp h y hy (decide_eq_true (same.trans (of_decide_eq_true hid)))

/-- An accepted order stands last in the store and is reported; then the arbiter runs (R103). -/
theorem submit_eq {id priority : Nat} {policy : Policy} {legs : List Leg} (hid : s.order id = none) {held : List Order} {n : Nat}
    (hr : s.renumber = { s with te := { s.te with orders := held, sequence := n } }) :
    s.submit id priority policy legs = (State.report .order id 1 16777216 { s with te := { s.te with
      orders := held ++ [Order.mk id priority policy legs .pending 1 n false false none], sequence := n + 1 } }).arbitrate := by
  have fresh : held.find? (fun o => decide (o.id = id)) = none := by
    have k := renumber_order hid
    rw [hr] at k
    exact k
  unfold State.submit
  dsimp only
  rw [hr]
  refine congrArg State.arbitrate ?_
  unfold State.reportOrder State.order
  simp only [List.find?_append, fresh]
  simp [orderValue, OrderState.code]

end State
end Sys2Proof.Machine
end

section
open Sys2Proof Sys2Proof.Machine

/-- Settles O38: the checks are read off in their order, and the accepted order is the store's last. -/
theorem ordersAreSubmitted : Obligations.OrdersAreSubmitted := by
  have mode (s : State) (r : Request) : (s.taken r).mode = s.mode := rfl
  have orders (s : State) (r : Request) : (s.taken r).te.orders = s.te.orders := rfl
  have tank (s : State) (r : Request) (t : TankIx) : (s.taken r).tank t = s.tank t := rfl
  have size {p : List Byte} {b : Bool} (h : payloadSizeOk 0x40 p = b) : submitSizeOk p = b := h
  have room {n : Nat} (h : n < 16) : ¬storeSize ≤ n := Nat.not_le.mpr h
  refine ⟨fun s tag p hs => ⟨fun hlen => ?_, fun hlen => ⟨fun hw => ?_, fun hw hfull => ?_, fun hw hroom hid => ?_,
    fun hw hroom hid huse => ?_, fun hw hroom hid huse bad => ?_⟩⟩,
    fun s tag id priority policy legs p hs hp hid hpriority hlegs hlegs' hl => ?_⟩
  · refine exec_refused (r := ⟨0x40, tag, p⟩) (f := answerOrderSubmit) rfl rfl hs ?_
    simp [answerOrderSubmit, size hlen]
  · refine exec_refused (r := ⟨0x40, tag, p⟩) (f := answerOrderSubmit) rfl rfl hs ?_
    simp [answerOrderSubmit, size hlen, mode, hw]
  · refine exec_refused (r := ⟨0x40, tag, p⟩) (f := answerOrderSubmit) rfl rfl hs ?_
    simp [answerOrderSubmit, size hlen, mode, hw, orders, storeSize, hfull]
  · refine exec_refused (r := ⟨0x40, tag, p⟩) (f := answerOrderSubmit) rfl rfl hs ?_
    simp [answerOrderSubmit, size hlen, mode, hw, orders, room hroom, hid]
  · refine exec_refused (r := ⟨0x40, tag, p⟩) (f := answerOrderSubmit) rfl rfl hs ?_
    simp [answerOrderSubmit, size hlen, mode, hw, orders, room hroom, hid, State.order_taken, huse]
  · refine exec_refused (r := ⟨0x40, tag, p⟩) (f := answerOrderSubmit) rfl rfl hs ?_
    simp [answerOrderSubmit, size hlen, mode, hw, orders, room hroom, hid, State.order_taken, huse, readOrder_none bad]
  · obtain ⟨named, read, hlen⟩ := readOrder_submitPayload (policy := policy) hid hpriority hlegs hlegs' hl
    rw [← hp] at named read hlen
    refine ⟨fun hw hroom hpos hfree hundefined => ?_, fun hw hroom hpos hfree hdefined held n x hn hn' hx => ?_⟩
    · have undefined : (legTanks legs).any (fun t => decide ((s.tank t).service = .undefined)) = true := by
        obtain ⟨l, hl, t, ht, hu⟩ := hundefined
        exact List.any_eq_true.mpr ⟨t, List.mem_flatMap.mpr ⟨l, hl, ht⟩, decide_eq_true hu⟩
      refine exec_refused (r := ⟨0x40, tag, p⟩) (f := answerOrderSubmit) rfl rfl hs ?_
      simp only [answerOrderSubmit, size hlen, mode, hw, orders, room hroom, named, hpos, State.order_taken, hfree, read, tank,
        undefined, Bool.not_true, Bool.false_eq_true, if_false, if_true, Option.isSome_none]
    · have defined : (legTanks legs).any (fun t => decide ((s.tank t).service = .undefined)) = false := by
        refine List.any_eq_false.mpr fun t ht => ?_
        obtain ⟨l, hl, ht⟩ := List.mem_flatMap.mp ht
        rw [decide_eq_true_eq]
        exact hdefined l hl t ht
      have renumbered := State.renumber_eq (s := s) hn hn'
      have submitted : s.submit id priority policy legs = x.arbitrate := by
        rw [hx]
        exact State.submit_eq hfree renumbered
      have length : x.arbitrate.te.orders.length = s.te.orders.length + 1 := by
        have kept : held.length = s.te.orders.length := by
          have k := s.renumber_orders_length
          rwa [renumbered] at k
        rw [State.arbitrate_orders_length, hx]
        simp [kept]
      have answer : exec (.orderSubmit tag p) s = .next
          (x.arbitrate.answered 0x40 tag p .ok (u16 id ++ u8 (s.te.orders.length + 1))).deliver := by
        refine exec_accepted (r := ⟨0x40, tag, p⟩) (f := answerOrderSubmit) rfl rfl hs ?_
        simp only [answerOrderSubmit, size hlen, mode, hw, orders, room hroom, named, hpos, State.order_taken, hfree, read, tank,
          defined, State.submit_taken, submitted, length, Bool.not_true, Bool.false_eq_true, if_false, Option.isSome_none]
      refine ⟨⟨_, answer, State.standsIn_trans (State.standsIn_answered x.standsIn_arbitrate _ _ _ _ _)
        (State.standsIn_deliver _)⟩, answer, fun h1 h2 => ?_⟩
      have busy := State.arbitrate_busy (s := x) (by rw [hx]; exact h1) (by rw [hx]; exact h2)
      rw [answer, busy]
end

section
/-!
PROOF. STOP_ALL (O44): what the cancels make of each order (`Order.withdrawn`), and that no order waits afterwards, whatever the
arbiter and the notices do (`State.allStopping`, a law over the assignment).
-/
namespace Sys2Proof.Machine

/-- An order of which the cancel has been recorded (R108). -/
def Order.withdrawn (o : Order) : Order :=
  match o.state with
  | .pending | .held => { o with
      state := .cancelled, heldByFallback := false,
      legs := if o.leg.any (fun l => decide (0 < l.runs)) = true then
          o.legs.modify (o.current - 1) fun l => { l with result := some .cancelled }
        else o.legs }
  | .active => { o with cancelRequested := true }
  | _ => o

namespace Order

variable (o : Order)

theorem withdrawn_id : o.withdrawn.id = o.id := by
  unfold withdrawn
  split <;> rfl

theorem withdrawn_waiting (h : o.state = .pending ∨ o.state = .held) : o.withdrawn = { o with
    state := .cancelled, heldByFallback := false,
    legs := if o.leg.any (fun l => decide (0 < l.runs)) = true then
        o.legs.modify (o.current - 1) fun l => { l with result := some .cancelled }
      else o.legs } := by
  rcases h with h | h <;> simp only [withdrawn, h]

theorem withdrawn_active (h : o.state = .active) : o.withdrawn = { o with cancelRequested := true } := by
  simp only [withdrawn, h]

theorem withdrawn_finished (h : o.state.live = false) : o.withdrawn = o := by
  unfold withdrawn
  split <;> simp_all [OrderState.live]

/-- An order waits, is ACTIVE, or is finished (R99). -/
theorem state_cases : (o.state = .pending ∨ o.state = .held) ∨ o.state = .active ∨ o.state.live = false := by
  cases o.state <;> decide

theorem withdrawn_state : o.withdrawn.state = if o.state = .pending ∨ o.state = .held then .cancelled else o.state := by
  rcases o.state_cases with h | h | h
  · rw [withdrawn_waiting o h, if_pos h]
  · rw [withdrawn_active o h, h]
    rfl
  · rw [withdrawn_finished o h, if_neg]
    rintro (k | k) <;> rw [k] at h <;> cases h

theorem withdrawn_withdrawn : o.withdrawn.withdrawn = o.withdrawn := by
  rcases o.state_cases with h | h | h
  · exact withdrawn_finished _ (by rw [withdrawn_state, if_pos h]; rfl)
  · rw [withdrawn_active o h]
    exact withdrawn_active _ h
  · rw [withdrawn_finished o h, withdrawn_finished o h]

/-- What stands of an order takes the mark where it is ACTIVE, and is else as it was. -/
theorem withdrawn_standing : o.withdrawn.standing =
    (if o.state = .active then { o with cancelRequested := true } else o : Order).standing := by
  rcases o.state_cases with h | h | h
  · have legs : (o.legs.modify (o.current - 1) fun l => { l with result := some .cancelled }).map Leg.standing =
        o.legs.map Leg.standing := map_modify_same Leg.standing (fun l => { l with result := some .cancelled }) (fun _ => rfl) _ _
    have other : o.state ≠ .active := by rcases h with k | k <;> rw [k] <;> decide
    rw [withdrawn_waiting o h, if_neg other]
    by_cases hl : o.leg.any (fun l => decide (0 < l.runs)) = true
    · simp only [Order.standing, if_pos hl, legs]
    · simp only [Order.standing, if_neg hl]
  · rw [withdrawn_active o h, if_pos h]
  · have other : o.state ≠ .active := fun k => by rw [k] at h; cases h
    rw [withdrawn_finished o h, if_neg other]

end Order

namespace State

variable {s u : State}

/-! ### One cancel -/

/-- The mark that an order's cancel was requested (R108). -/
def cancelMarked (id : Nat) (s : State) : State := s.updOrder id fun o => { o with cancelRequested := true }

/-- The cancel of an ACTIVE order: the mark, unless it is set, and the stop of the run where that is in a running phase (R108). -/
theorem cancel_active {id : Nat} {o : Order} (h : s.order id = some o) (ha : o.state = .active) :
    o.cancelRequested = true ∧ s.cancel id = s ∨ o.cancelRequested = false ∧ (s.cancel id = s.cancelMarked id ∨
      ∃ c, o.channel = some c ∧ s.cancel id = (s.cancelMarked id).stopRun c (.result .cancelled)) := by
  unfold State.cancel
  rw [h]
  simp only [ha]
  split
  · exact .inl ⟨‹_›, rfl⟩
  · next hm =>
    refine .inr ⟨Bool.eq_false_iff.mpr hm, ?_⟩
    split
    · next c hc =>
      split
      · exact .inr ⟨c, hc, rfl⟩
      · exact .inl rfl
    · exact .inl rfl

theorem cancel_finished {id : Nat} {o : Order} (h : s.order id = some o) (hl : o.state.live = false) : s.cancel id = s := by
  unfold State.cancel
  rw [h]
  dsimp only
  split <;> simp_all [OrderState.live]

theorem cancel_unknown {id : Nat} (h : s.order id = none) : s.cancel id = s := by simp only [State.cancel, h]

section

variable (distinct : (s.te.orders.map (·.id)).Nodup) (id : Nat)
include distinct

/-- A cancel changes the order of its id alone. -/
theorem cancel_orders :
    (s.cancel id).te.orders = s.te.orders.map fun o => if o.id = id then o.withdrawn else o := by
  cases h : s.order id with
  | none =>
    have other : ∀ o ∈ s.te.orders, o.id ≠ id := fun o ho hid => List.find?_eq_none.mp h o ho (decide_eq_true hid)
    rw [cancel_unknown h]
    exact (List.map_id' _).symm.trans (List.map_congr_left fun o ho => (if_neg (other o ho)).symm)
  | some o =>
    obtain rfl := order_id h
    have here {y : Order} (hy : y ∈ s.te.orders) (hid : y.id = o.id) : y = o := eq_of_id distinct hy (order_mem h) hid
    have unmoved (hsame : o.withdrawn = o) :
        s.te.orders = s.te.orders.map fun y => if y.id = o.id then y.withdrawn else y := by
      refine (List.map_id' _).symm.trans (List.map_congr_left fun y hy => ?_)
      split
      · next hid => rw [here hy hid, hsame]
      · rfl
    have marked : (s.cancelMarked o.id).te.orders = s.te.orders.map fun y => if y.id = o.id then { y with cancelRequested := true }
      else y := rfl
    rcases o.state_cases with hst | ha | hl
    · rw [cancel_waiting h hst rfl]
      split
      · next hran =>
        change List.map _ (List.map _ _) = _
        rw [List.map_map]
        refine List.map_congr_left fun y hy => ?_
        by_cases hid : y.id = o.id
        · rw [here hy hid, Order.withdrawn_waiting o hst, if_pos hran]
          simp
        · simp [hid]
      · next hran =>
        refine List.map_congr_left fun y hy => ?_
        split
        · next hid => rw [here hy hid, Order.withdrawn_waiting o hst, if_neg hran]
        · rfl
    · have toMark : s.te.orders.map (fun y => if y.id = o.id then { y with cancelRequested := true } else y) =
          s.te.orders.map fun y => if y.id = o.id then y.withdrawn else y := by
        refine List.map_congr_left fun y hy => ?_
        split
        · next hid => rw [here hy hid, Order.withdrawn_active o ha]
        · rfl
      rcases cancel_active h ha with ⟨hm, hs⟩ | ⟨-, hs | ⟨c, -, hs⟩⟩
      · rw [hs]
        refine unmoved ?_
        rw [Order.withdrawn_active o ha, ← hm]
      · rw [hs, marked, toMark]
      · rw [hs, stopRun_orders, marked, toMark]
    · rw [cancel_finished h hl]
      exact unmoved (o.withdrawn_finished hl)

theorem cancel_distinct : ((s.cancel id).te.orders.map (·.id)).Nodup := by
  have ids : (s.cancel id).te.orders.map (·.id) = s.te.orders.map (·.id) := by
    rw [cancel_orders distinct, List.map_map]
    refine List.map_congr_left fun o _ => ?_
    simp only [Function.comp]
    split
    · exact o.withdrawn_id
    · rfl
  rw [ids]
  exact distinct

end

theorem cancelMarked_chan (s : State) (id : Nat) (c : Channel) : (s.cancelMarked id).chan c = s.chan c := by cases c <;> rfl

theorem cancel_hold (s : State) (id : Nat) (c : Channel) : ((s.cancel id).chan c).hold = (s.chan c).hold := by
  cases h : s.order id with
  | none => rw [cancel_unknown h]
  | some o =>
    rcases o.state_cases with hst | ha | hl
    · rw [cancel_waiting_chan h hst]
    · rcases cancel_active h ha with ⟨-, hs⟩ | ⟨-, hs | ⟨d, -, hs⟩⟩
      · rw [hs]
      · rw [hs, cancelMarked_chan]
      · rw [hs, (assignment_eq_iff.mp (stopRun_assignment _ d _)).2 c, cancelMarked_chan]
    · rw [cancel_finished h hl]

/-- Of what stands, a cancel changes the orders alone. -/
theorem cancel_standing (s : State) (id : Nat) :
    (s.cancel id).standing = { s.standing with orders := (s.cancel id).te.orders.map Order.standing } := by
  have unmoved (h : (s.cancel id).beyondTransfer = s.beyondTransfer) :
      (s.cancel id).standing = { s.standing with orders := (s.cancel id).te.orders.map Order.standing } := by
    have same : (s.cancel id).te.orders.map Order.standing = s.te.orders.map Order.standing :=
      congrArg Standing.orders (standing_of_transfer h)
    rw [standing_of_transfer h, same]
    rfl
  cases h : s.order id with
  | none => exact unmoved (by rw [cancel_unknown h])
  | some o =>
    rcases o.state_cases with hst | ha | hl
    · refine unmoved ?_
      have entered (x : State) : (x.enterOrder id .cancelled fun o => { o with heldByFallback := false }).beyondTransfer =
          x.beyondTransfer := x.enterOrder_beyondTransfer id .cancelled _ fun _ => rfl
      rw [cancel_of_waiting h hst, entered]
      split
      · exact s.endLeg_beyondTransfer id o.current .cancelled
      · rfl
    · rcases cancel_active h ha with ⟨-, hs⟩ | ⟨-, hs | ⟨d, -, hs⟩⟩
      · exact unmoved (by rw [hs])
      · rw [hs]
        rfl
      · have stopped := standing_of_transfer (State.stopRun_beyondTransfer (s.cancelMarked id) d (.result .cancelled))
        rw [hs, stopped, stopRun_orders]
        rfl
    · exact unmoved (by rw [cancel_finished h hl])

/-! ### The cancels of STOP_ALL -/

/-- The cancels of the orders of a list of ids, one after another. -/
def cancelAll (ids : List Nat) (s : State) : State := ids.foldl (fun s i => s.cancel i) s

theorem cancelAll_orders (distinct : (s.te.orders.map (·.id)).Nodup) (ids : List Nat) :
    (s.cancelAll ids).te.orders = s.te.orders.map fun o => if o.id ∈ ids then o.withdrawn else o := by
  induction ids generalizing s with
  | nil => simp [cancelAll]
  | cons i ids ih =>
    change (State.cancelAll ids (s.cancel i)).te.orders = _
    rw [ih (cancel_distinct distinct i), cancel_orders distinct, List.map_map]
    refine List.map_congr_left fun o _ => ?_
    by_cases hi : o.id = i
    · simp [hi, Order.withdrawn_id, Order.withdrawn_withdrawn]
    · simp [hi]

theorem cancelAll_hold (s : State) (ids : List Nat) (c : Channel) : ((s.cancelAll ids).chan c).hold = (s.chan c).hold := by
  induction ids generalizing s with
  | nil => rfl
  | cons i ids ih => exact (ih (s.cancel i)).trans (s.cancel_hold i c)

theorem cancelAll_standing (s : State) (ids : List Nat) :
    (s.cancelAll ids).standing = { s.standing with orders := (s.cancelAll ids).te.orders.map Order.standing } := by
  induction ids generalizing s with
  | nil => rfl
  | cons i ids ih =>
    change (State.cancelAll ids (s.cancel i)).standing = _
    rw [ih, cancel_standing]
    rfl

theorem cancelAll_grows (s : State) (ids : List Nat) : s.Grows (s.cancelAll ids) :=
  Grows.foldl (fun _ i h => h.cancel i) ids (Grows.refl s)

theorem cancelAll_taken (s : State) (r : Request) (ids : List Nat) : (s.taken r).cancelAll ids = (s.cancelAll ids).taken r :=
  foldl_taken (f := fun (x : State) i => x.cancel i) s r (fun x i => cancel_taken x r i) ids

/-- The ids of the live orders. -/
def liveIds (s : State) : List Nat := (s.te.orders.filter fun o => o.state.live).map (·.id)

/-- STOP_ALL records the cancel of every order. -/
theorem cancelAll_live (distinct : (s.te.orders.map (·.id)).Nodup) :
    (s.cancelAll s.liveIds).te.orders = s.te.orders.map Order.withdrawn := by
  rw [cancelAll_orders distinct]
  refine List.map_congr_left fun o ho => ?_
  split
  · rfl
  · next hout =>
    refine (o.withdrawn_finished (Bool.eq_false_iff.mpr fun hl => hout ?_)).symm
    exact List.mem_map_of_mem (List.mem_filter.mpr ⟨ho, hl⟩)

/-- What STOP_ALL counts: the orders that waited, and those that were ACTIVE (R109). -/
theorem stopCounts_cancelAll (distinct : (s.te.orders.map (·.id)).Nodup) : (s.cancelAll s.liveIds).stopCounts s.liveIds =
    ((s.te.orders.filter fun o => decide (o.state = .pending ∨ o.state = .held)).length,
      (s.te.orders.filter fun o => decide (o.state = .active)).length) := by
  have orders := cancelAll_live distinct
  have distinct' : ((s.cancelAll s.liveIds).te.orders.map (·.id)).Nodup := by
    rw [orders, List.map_map, List.map_congr_left (g := (·.id)) fun o _ => o.withdrawn_id]
    exact distinct
  have found : ∀ o ∈ s.te.orders, (s.cancelAll s.liveIds).order o.id = some o.withdrawn := fun o ho => by
    rw [← o.withdrawn_id]
    exact order_of_mem distinct' (orders ▸ List.mem_map_of_mem ho)
  have count {q : Order → Bool} {p : Order → Bool} (hq : ∀ o : Order, (o.state.live && q o.withdrawn) = p o) :
      (s.liveIds.filter fun i => ((s.cancelAll s.liveIds).order i).any q).length = (s.te.orders.filter p).length := by
    have each : ∀ o ∈ s.te.orders, (((s.cancelAll s.liveIds).order o.id).any q && o.state.live) = p o := fun o ho => by
      rw [found o ho, ← hq o, Bool.and_comm]
      rfl
    rw [liveIds, List.filter_map, List.length_map, List.filter_filter]
    exact congrArg List.length (List.filter_congr each)
  refine Prod.ext (count fun o => ?_) (count fun o => ?_)
  · rw [o.withdrawn_state]
    cases o.state <;> rfl
  · rcases o.state_cases with h | h | h
    · have other : o.state ≠ .active := by rcases h with k | k <;> rw [k] <;> decide
      simp [o.withdrawn_state, if_pos h, other]
    · rw [o.withdrawn_active h]
      simp [h, OrderState.live]
    · have other : o.state ≠ .active := fun k => by rw [k] at h; cases h
      simp [h, other]

/-! ### No order waits afterwards -/

/-- The laws of the store and the runs, and each live order is ACTIVE with the mark of its cancel (R109). -/
def allStopping (s : State) : Prop :=
  (s.storeLaw ∧ s.runLaw) ∧ ∀ p ∈ s.places, p.state.live = true → p.state = .active ∧ p.cancelRequested = true

/-- What stops stays stopped: the arbiter finds no order that waits, and a run that ends makes its order CANCELLED. -/
theorem allStopping_assignment : AssignmentLaw allStopping where
  store h := h.1
  same h k := ⟨runs_same h k.1, (assignment_eq_iff.mp h).1 ▸ k.2⟩
  frees {s u c} h k := by
    obtain ⟨st, current, hst, hcancel, orders⟩ := h.orders
    refine ⟨runs_frees h k.1, fun q hq hlive => ?_⟩
    rw [orders] at hq
    obtain ⟨p, hp, rfl⟩ := List.mem_map.mp hq
    by_cases hheld : s.holds c p = true
    · rw [if_pos hheld] at hlive
      -- The order that the channel held was ACTIVE, so its cancel was requested.
      obtain ⟨-, runs, -⟩ := runs_iff.mp k.1
      obtain ⟨⟨id, leg⟩, hrun, hid⟩ := (Option.any_eq_true _ _).mp hheld
      obtain ⟨o, ho, hoid, hact, -⟩ := runs.held c id leg hrun
      have same : o = p := List.inj_on_of_nodup_map runs.distinct ho hp (hoid.trans (of_decide_eq_true hid))
      obtain ⟨-, hmark⟩ := k.2 p hp (by rw [← same, hact]; rfl)
      rw [show (p.off st current).state = st from rfl, hcancel p hp hheld hmark] at hlive
      cases hlive
    · rw [if_neg hheld] at hlive ⊢
      exact k.2 p hp hlive
  gives {s u c o ts} _ _ ho hst _ k := by
    obtain ⟨hact, -⟩ := k.2 o.place (List.mem_map_of_mem ho) (by rw [show o.place.state = .pending from hst]; rfl)
    rw [show o.place.state = .pending from hst] at hact
    cases hact
  unserved {s c st} hst k := by
    have orders : (s.updChan c fun r => { r with state := st }).places = s.places := by rw [places, updChan_orders, places]
    exact ⟨runs_unserved hst k.1, orders ▸ k.2⟩

/-- STOP_ALL leaves no order that waits (R109). -/
theorem allStopping_cancelAll (hstore : s.storeLaw) (hrun : s.runLaw) : (s.cancelAll s.liveIds).allStopping := by
  have places : (s.cancelAll s.liveIds).places = s.te.orders.map fun o => o.withdrawn.place := by
    rw [State.places, cancelAll_live hstore.2, List.map_map]
    rfl
  refine ⟨runs_of_places (cancelAll_hold s _) ?_ (fun runs => ?_) ⟨hstore, hrun⟩, fun p hp hlive => ?_⟩
  · rw [places, List.length_map]
    exact hstore.1
  · rw [State.places, cancelAll_live hstore.2, RunsOf.place_iff]
    rw [State.places, RunsOf.place_iff] at runs
    refine runs.map (fun o _ => o.withdrawn_id) fun o _ hact => ?_
    rcases o.state_cases with h | h | h
    · rw [o.withdrawn_state, if_pos h] at hact
      rcases hact with k | k
      · rcases h with h | h <;> rw [h] at k <;> cases k
      · cases k
    · rw [o.withdrawn_active h]
      exact ⟨rfl, rfl, rfl⟩
    · rw [o.withdrawn_finished h]
      exact ⟨rfl, rfl, rfl⟩
  · rw [places] at hp
    obtain ⟨o, -, rfl⟩ := List.mem_map.mp hp
    change o.withdrawn.state.live = true at hlive
    change o.withdrawn.state = .active ∧ o.withdrawn.cancelRequested = true
    rcases o.state_cases with h | h | h
    · rw [o.withdrawn_state, if_pos h] at hlive
      cases hlive
    · rw [o.withdrawn_active h]
      exact ⟨h, rfl⟩
    · rw [o.withdrawn_finished h, h] at hlive
      cases hlive

end State
end Sys2Proof.Machine
end

section
open Sys2Proof Sys2Proof.Machine

/-- Settles O44: the cancels are recorded order by order, and the law that no order waits holds after them. -/
theorem stopAllCancelsEveryOrder : Obligations.StopAllCancelsEveryOrder := by
  intro s tag hs hstore hrun
  have stopping := State.allStopping_cancelAll hstore hrun
  have counts := State.stopCounts_cancelAll hstore.2
  have answer : exec (.stopAll tag []) s = .next ((s.cancelAll s.liveIds).settle.answered 0x42 tag [] .ok
      (u8 ((s.cancelAll s.liveIds).stopCounts s.liveIds).1 ++ u8 ((s.cancelAll s.liveIds).stopCounts s.liveIds).2)).deliver := by
    refine exec_accepted (r := ⟨0x42, tag, []⟩) (f := answerStopAll) rfl rfl hs ?_
    have cancelled := s.cancelAll_taken ⟨0x42, tag, []⟩ s.liveIds
    have settled := State.settle_taken (s.cancelAll s.liveIds) ⟨0x42, tag, []⟩
    have accepted : answerStopAll [] (s.taken ⟨0x42, tag, []⟩) =
        accept (u8 (((s.taken ⟨0x42, tag, []⟩).cancelAll s.liveIds).stopCounts s.liveIds).1 ++
          u8 (((s.taken ⟨0x42, tag, []⟩).cancelAll s.liveIds).stopCounts s.liveIds).2)
          ((s.taken ⟨0x42, tag, []⟩).cancelAll s.liveIds).settle := rfl
    rw [accepted, cancelled, settled]
    rfl
  rw [counts] at answer
  refine ⟨_, answer, State.standsIn_trans (State.standsIn_answered ⟨?_, ?_⟩ _ _ _ _ _) (State.standsIn_deliver _), ?_⟩
  · have orders : (s.cancelAll s.liveIds).te.orders.map Order.standing = (s.te.orders.map fun (o : Order) =>
        if o.state = OrderState.active then { o with cancelRequested := true } else o).map Order.standing := by
      rw [State.cancelAll_live hstore.2, List.map_map, List.map_map]
      exact List.map_congr_left fun o _ => o.withdrawn_standing
    rw [State.settle_standing, State.cancelAll_standing, orders]
    rfl
  · exact ((s.cancelAll_grows s.liveIds).settle).queue
  · intro o ho hlive
    have kept := State.allStopping_assignment.deliver (State.allStopping_assignment.of_te
      (u := (s.cancelAll s.liveIds).settle.answered 0x42 tag [] .ok
        (u8 (s.te.orders.filter fun o => decide (o.state = .pending ∨ o.state = .held)).length ++
          u8 (s.te.orders.filter fun o => decide (o.state = .active)).length)) rfl
      (State.allStopping_assignment.settle stopping))
    exact kept.2 o.place (List.mem_map_of_mem ho) hlive
end

section
/-!
PROOF. A run that is STOPPING (R134 to R136): it is handed on where it is over (`State.Stopping`), and what it takes of the answers of
its valves and of its pump (O42).
-/
namespace Sys2Proof.Machine

theorem PumpState.settled_iff (p : PumpState) : p.settled = true ↔ p = .stopped ∨ p = .fault := by cases p <;> decide

namespace State

variable {s x : State} {c : Channel} {o : Order} {k : StopCause}

/-! ### A run that is over (R134, step 5) -/

theorem runOver_eq_some : x.runOver c = some k ↔ ((x.chan c).phase = some .stopping ∧
    ((x.chan c).pumpTold = .stopped ∨ (x.chan c).pumpTold = .fault) ∧
      ((x.chan c).linedList.all fun y => decide (y.2 = .closed ∨ y.2 = .fault)) = true) ∧ (x.chan c).stop = some k := by
  have answered : ((x.chan c).linedList.all fun y => decide (y.2 = .closed) || decide (y.2 = .fault)) =
      (x.chan c).linedList.all fun y => decide (y.2 = .closed ∨ y.2 = .fault) := by simp only [Bool.decide_or]
  simp only [State.runOver, PumpState.settled_iff, answered, Option.ite_none_right_eq_some]

theorem runOver_none_of_phase (h : (x.chan c).phase ≠ some .stopping) : x.runOver c = none :=
  if_neg fun k => h k.1

theorem channelFreed_chan_other (x : State) (c : Channel) : (x.channelFreed c).chan c.other = x.chan c.other := by
  have te : (x.channelFreed c).te = (x.updChan c fun r =>
      { r with state := if (x.chan c).state = .stoppingForOut then .out else .idle, order := none, phase := none, stop := none,
               claims := [], lined := none, runFactor := none, runNoFlow := none, movedAtStart := 0, runPulses := 0,
               signAtStart := none }).te := updChan_te_of (x.releaseClaims_te c)
  rw [chan_of_te te, updChan_chan_other]

/-- What a run that is over makes of its order and its channel (R106, R107, R136). -/
def runClosed (c : Channel) (o : Order) (k : StopCause) (s : State) : State :=
  match k with
  | .result r => s.legHandedOn c o r
  | .back b => s.runHandedBack c o b

theorem runHandedOn_eq (s : State) (c : Channel) (o : Order) (k : StopCause) : s.runHandedOn c o k = (s.runClosed c o k).arbitrate := by
  cases k <;> rfl

theorem runClosed_chan_other (s : State) (c : Channel) (o : Order) (k : StopCause) :
    (s.runClosed c o k).chan c.other = s.chan c.other := by
  have ended (x : State) (r : LegResult) (d : Channel) : (x.legResult o r).chan d = x.chan d := by cases d <;> rfl
  have left (x : State) (st : OrderState) (n : Nat) (b : Bool) (d : Channel) : (x.orderLeft o st n b).chan d = x.chan d := by
    cases d <;> rfl
  cases k with
  | result r =>
    refine (channelFreed_chan_other _ c).trans ?_
    split
    · exact (left _ _ _ _ _).trans (ended _ _ _)
    · split <;> exact (left _ _ _ _ _).trans (ended _ _ _)
  | back b =>
    refine (channelFreed_chan_other _ c).trans ?_
    split
    · exact (left _ _ _ _ _).trans (ended _ _ _)
    · cases b with
      | fallback => exact left _ _ _ _ _
      | channelOut => exact left _ _ _ _ _
      | guard =>
        refine Eq.trans ?_ (left s .pending o.current o.heldByFallback c.other)
        cases c <;> rfl

/-- A channel that stops an order's run for a cause, beside a channel without a run to hand on. -/
structure Stopping (c : Channel) (o : Order) (k : StopCause) (x : State) : Prop where
  phase : (x.chan c).phase = some .stopping
  stop : (x.chan c).stop = some k
  runs : (x.chan c).order = some (o.id, o.current)
  other : x.runOver c.other = none
  distinct : (x.te.orders.map (·.id)).Nodup
  stored : o ∈ x.te.orders

namespace Stopping

theorem of_te (h : s.Stopping c o k) (ht : x.te = s.te) : x.Stopping c o k := by
  obtain ⟨phase, stop, runs, other, distinct, stored⟩ := h
  exact ⟨by rwa [chan_of_te ht], by rwa [chan_of_te ht], by rwa [chan_of_te ht], by rwa [runOver_of_te ht], by rwa [ht],
    by rwa [ht]⟩

/-- The channel's record may change beside its phase and its order, and its stop cause be overtaken. -/
theorem updChan (h : s.Stopping c o k) {f : ChannelRecord → ChannelRecord} {k' : StopCause} (hphase : ∀ r, (f r).phase = r.phase)
    (hruns : ∀ r, (f r).order = r.order) (hstop : (f (s.chan c)).stop = some k') : (s.updChan c f).Stopping c o k' := by
  obtain ⟨phase, -, runs, other, distinct, stored⟩ := h
  refine ⟨?_, ?_, ?_, ?_, ?_, ?_⟩
  · rwa [updChan_chan_self, hphase]
  · rwa [updChan_chan_self]
  · rwa [updChan_chan_self, hruns]
  · rwa [runOver_of_chan (updChan_chan_other _ _ _)]
  · rwa [updChan_orders]
  · rwa [updChan_orders]

/-- The run that is closed is its order's. -/
theorem closeRun_eq (h : x.Stopping c o k) : x.closeRun c k = x.runClosed c o k := by
  cases k with
  | result r => exact closeRun_result h.distinct h.stored h.runs r
  | back b => exact closeRun_back h.distinct h.stored h.runs b

/-- A run that is STOPPING is handed on where it is over, and then the arbiter runs (R134, R136). -/
theorem settle_eq (h : x.Stopping c o k) : x.settle = x.handedOnIfOver c o k := by
  unfold State.handedOnIfOver
  split
  · next hover =>
    have ended : x.runOver c = some k := runOver_eq_some.mpr ⟨⟨h.phase, hover⟩, h.stop⟩
    have closed : x.closeIfOver c = (x.runClosed c o k, true) := by
      simp only [State.closeIfOver, ended, h.closeRun_eq]
    have other : (x.runClosed c o k).closeIfOver c.other = (x.runClosed c o k, false) :=
      closeIfOver_none ((runOver_of_chan (x.runClosed_chan_other c o k)).trans h.other)
    have untouched : x.closeIfOver c.other = (x, false) := closeIfOver_none h.other
    rw [runHandedOn_eq]
    cases c with
    | tc1 => simp only [State.settle, closed, show State.closeIfOver .tc2 _ = _ from other, Bool.or_false, if_true]
    | tc2 => simp only [State.settle, show State.closeIfOver .tc1 _ = _ from untouched, closed, Bool.or_true, if_true]
  · next hover =>
    have going : x.runOver c = none := Option.eq_none_iff_forall_ne_some.mpr fun k' hk => hover (runOver_eq_some.mp hk).1.2
    refine settle_settled ?_
    cases c with
    | tc1 => exact ⟨going, h.other⟩
    | tc2 => exact ⟨h.other, going⟩

end Stopping

/-! ### The answers of the valves and the pump to a run that is STOPPING (R134, R135) -/

theorem take_valve {v : Valve} (h : v.owner = c.owner) (a : ValveAnswer) : State.take (.valve v a) s = (s.channelValve c v a).settle := by
  show s.takeValve v a = _
  unfold State.takeValve
  rw [h]
  cases c <;> rfl

theorem running_stopping {r : ChannelRecord} (h : r.phase = some .stopping) : r.running = false := by
  simp only [ChannelRecord.running, h]

theorem lined_any {n : Lined} {v : Valve} {r : ChannelRecord} (h : r.lined = some n) (hv : v = n.suction ∨ v = n.delivery) :
    (r.linedList.any fun y => decide (y.1 = v)) = true := by
  rcases hv with rfl | rfl <;> simp [ChannelRecord.linedList, h]

theorem record_lined {n : Lined} {v : Valve} (hv : v = n.suction ∨ v = n.delivery) (a : LinedAnswer) :
    n.record v a = if v = n.suction then { n with suctionAnswer := a } else { n with deliveryAnswer := a } := by
  unfold Lined.record
  split
  · rfl
  · next hs => rw [if_pos (hv.resolve_left hs)]

/-- An answer at CLOSED is recorded. -/
theorem channelValve_closed {n : Lined} {v : Valve} (hn : (s.chan c).lined = some n) (hv : v = n.suction ∨ v = n.delivery) :
    s.channelValve c v .atA = s.updChan c fun r => { r with lined := some (n.record v .closed) } := by
  unfold State.channelValve
  dsimp only
  rw [if_pos (lined_any hn hv)]
  exact updChan_congr (by rw [hn]; rfl)

/-- A fault of a valve is recorded, and overtakes a return cause (R135). -/
theorem channelValve_failed {n : Lined} {v : Valve} (hphase : (s.chan c).phase = some .stopping) (hstop : (s.chan c).stop = some k)
    (hn : (s.chan c).lined = some n) (hv : v = n.suction ∨ v = n.delivery) (f : ValveFault) : s.channelValve c v (.failed f) =
      s.updChan c fun r => { r with stop := some (k.overtaken .valveFault), lined := some (n.record v .fault) } := by
  unfold State.channelValve
  dsimp only
  rw [if_pos (lined_any hn hv), running_stopping hphase, if_neg Bool.false_ne_true, updChan_updChan]
  exact updChan_congr (by rw [hn, hstop]; rfl)

/-- The valves of a run are closed as its record names them. -/
theorem closeValves_eq {l : List (Valve × LinedAnswer)} (h : (x.chan c).linedList = l) : x.closeValves c =
    (l.filter fun y => decide (y.2 ≠ .fault)).foldl (fun (s : State) y => s.command y.1 .a) x := by
  unfold State.closeValves
  rw [h]

theorem settled_false {p : PumpState} (h : p ≠ .stopped) (h' : p ≠ .fault) : p.settled = false := by
  rw [← Bool.not_eq_true, PumpState.settled_iff]
  exact not_or.mpr ⟨h, h'⟩

/-- The pump of a run that is STOPPING has stopped: the lined valves are closed (R134, step 4). -/
theorem channelPump_stopped (hphase : (s.chan c).phase = some .stopping) (hp : (s.chan c).pumpTold.settled = false) :
    s.channelPump c .stopped = (s.updChan c fun r => { r with pumpTold := .stopped }).closeValves c := by
  exact if_pos ⟨hphase, by rw [hp]; rfl⟩

theorem setChannel_eq {st : ChannelState} {v : Nat} (h : ({ s.chan c with state := st } : ChannelRecord).reportValue = v) :
    s.setChannel c st = (s.updChan c fun r => { r with state := st }).report .channel c.code st.code v := by
  unfold State.setChannel
  dsimp only
  rw [updChan_chan_self, h]

/-- A channel that holds a run goes out of service when its pump fails, and the fault overtakes a return cause (R133, R135). -/
def pumpFailed (c : Channel) (k : StopCause) (s : State) : State :=
  if (s.chan c).state = .busy then
    (s.updChan c fun r => { r with
      pumpTold := .fault, outReason := some .pumpFault, stop := some k, state := .stoppingForOut }).report .channel c.code 3 2
  else s.updChan c fun r => { r with pumpTold := .fault, outReason := some .pumpFault, stop := some k }

theorem Stopping.pumpFailed (h : s.Stopping c o k) (k' : StopCause) : (s.pumpFailed c k').Stopping c o k' := by
  unfold State.pumpFailed
  split
  · exact (h.updChan (f := fun r => { r with
      pumpTold := .fault, outReason := some .pumpFault, stop := some k', state := .stoppingForOut })
      (fun _ => rfl) (fun _ => rfl) rfl).of_te rfl
  · exact h.updChan (k' := k') (fun _ => rfl) (fun _ => rfl) rfl

theorem pumpFailed_linedList (k : StopCause) : ((s.pumpFailed c k).chan c).linedList = (s.chan c).linedList := by
  unfold pumpFailed
  split
  · rw [chan_of_te (State.report_te _ _ _ _ _), updChan_chan_self]
    rfl
  · rw [updChan_chan_self]
    rfl

theorem channelPumpFault_stopping (hphase : (s.chan c).phase = some .stopping) (hstop : (s.chan c).stop = some k)
    (hp : (s.chan c).pumpTold.settled = false) (hbusy : (s.chan c).state ≠ .idle) :
    s.channelPumpFault c = (s.pumpFailed c (k.overtaken .pumpFault)).closeValves c := by
  have failed : (State.failChannel (s.chan c).state c
      (s.updChan c fun r => { r with pumpTold := .fault, outReason := some .pumpFault })).updChan c
        (fun r => { r with stop := r.stop.map (StopCause.overtaken .pumpFault) }) = s.pumpFailed c (k.overtaken .pumpFault) := by
    unfold State.failChannel State.pumpFailed
    cases hst : (s.chan c).state with
    | idle => exact absurd hst hbusy
    | busy =>
      dsimp only
      rw [if_pos rfl, setChannel_eq (v := 2) (by rw [updChan_chan_self]; rfl), report_updChan, updChan_updChan, updChan_updChan]
      exact congrArg (State.report .channel c.code 3 2) (updChan_congr (by simp only [hstop, Option.map_some]))
    | stoppingForOut =>
      rw [if_neg (by decide), updChan_updChan]
      exact updChan_congr (by simp only [hstop, Option.map_some])
    | out =>
      rw [if_neg (by decide), updChan_updChan]
      exact updChan_congr (by simp only [hstop, Option.map_some])
  rw [← failed]
  unfold State.channelPumpFault
  dsimp only
  rw [if_neg (by rw [running_stopping hphase]; decide), if_pos hphase, if_neg (by rw [hp]; decide)]
  rfl

/-- The pump of an IDLE channel fails: it is OUT (R133). -/
theorem channelPumpFault_idle (hst : (s.chan c).state = .idle) (hphase : (s.chan c).phase = none) :
    s.channelPumpFault c = (s.updChan c fun r =>
      { r with pumpTold := .fault, outReason := some .pumpFault, state := .out }).report .channel c.code 4 2 := by
  have still : (s.chan c).running = false := by simp only [ChannelRecord.running, hphase]
  unfold State.channelPumpFault
  dsimp only
  rw [if_neg (by rw [still]; decide), if_neg (by rw [hphase]; decide), hst]
  dsimp only
  rw [setChannel_eq (v := 2) (by rw [updChan_chan_self]; rfl), updChan_updChan]
  rfl

end State
end Sys2Proof.Machine
end

section
open Sys2Proof Sys2Proof.Machine

/-- Settles O42: each answer leaves the run STOPPING, and a run that is STOPPING is handed on where it is over. -/
theorem stoppedRunsAreHandedOn : Obligations.StoppedRunsAreHandedOn := by
  intro s c
  refine ⟨fun h1 h2 => State.settle_settled ⟨h1, h2⟩,
    fun hphase hother hstore n hn hsuction hdelivery k hk o ho hc => ?_, fun hphase k hk => ?_, fun hidle hphase hset f => ?_⟩
  · have stopping : s.Stopping c o k := ⟨hphase, hk, hc, hother, hstore.2, ho⟩
    refine ⟨fun v hv k' hk' => ⟨?_, fun f => ?_⟩, fun hp hp' => ⟨?_, fun f k' hk' x hx hbusy => ?_⟩⟩
    · have owner : v.owner = c.owner := by rcases hv with rfl | rfl <;> assumption
      rw [State.take_valve owner, State.channelValve_closed hn hv, ← State.record_lined hv]
      refine State.Stopping.settle_eq ?_
      exact stopping.updChan (fun _ => rfl) (fun _ => rfl) hk
    · have owner : v.owner = c.owner := by rcases hv with rfl | rfl <;> assumption
      have overtaken : k.overtaken .valveFault = k' := by rw [hk']; cases k <;> rfl
      rw [State.take_valve owner, State.channelValve_failed hphase hk hn hv, ← State.record_lined hv, overtaken]
      refine State.Stopping.settle_eq ?_
      exact stopping.updChan (fun _ => rfl) (fun _ => rfl) rfl
    · have told : (s.updChan c fun r => { r with pumpTold := .stopped }).Stopping c o k :=
        stopping.updChan (fun _ => rfl) (fun _ => rfl) hk
      have lined : ((s.updChan c fun r => { r with pumpTold := .stopped }).chan c).linedList = (s.chan c).linedList := by
        rw [State.updChan_chan_self]
        rfl
      rw [← State.closeValves_eq lined]
      show (s.channelPump c .stopped).settle = _
      rw [State.channelPump_stopped hphase (State.settled_false hp hp')]
      exact (told.of_te (State.closeValves_te _ c)).settle_eq
    · have overtaken : k.overtaken .pumpFault = k' := by rw [hk']; cases k <;> rfl
      have failed : x = s.pumpFailed c k' := hx
      rw [failed, ← State.closeValves_eq (State.pumpFailed_linedList k')]
      show (s.channelPumpFault c).settle = _
      rw [State.channelPumpFault_stopping hphase hk (State.settled_false hp hp') hbusy, overtaken]
      exact ((stopping.pumpFailed k').of_te (State.closeValves_te _ c)).settle_eq
  · unfold State.channelMode
    dsimp only
    rw [State.running_stopping hphase, if_neg Bool.false_ne_true]
    exact State.updChan_congr (by rw [hk]; cases k <;> rfl)
  · have still : s.runOver c = none := State.runOver_none_of_phase (by rw [hphase]; decide)
    show (s.channelPumpFault c).settle = _
    rw [State.channelPumpFault_idle hidle hphase]
    have unended (d : Channel) : ((s.updChan c fun r =>
        { r with pumpTold := .fault, outReason := some .pumpFault, state := .out }).report .channel c.code 4 2).runOver d = none := by
      rw [State.runOver_of_te (State.report_te _ _ _ _ _)]
      obtain rfl | rfl := Channel.eq_or_other c d
      · exact State.runOver_none_of_phase (by rw [State.updChan_chan_self, hphase]; decide)
      · rw [State.runOver_of_chan (State.updChan_chan_other _ _ _)]
        cases c
        · exact hset.2
        · exact hset.1
    exact State.settle_settled ⟨unended .tc1, unended .tc2⟩
end

section
/-!
PROOF. Flow and the stops of a run (O46): a pulse is counted into the channel and the leg (R127), and a run in a running phase is
stopped by its pump (R134).
-/
namespace Sys2Proof.Machine
namespace State

variable {s x : State} {c : Channel} {o : Order} {k : StopCause} {l : Leg}

/-! ### The stop of a run by its pump (R67, R68, R134) -/

theorem updChan_pump (s : State) (c d : Channel) (f : ChannelRecord → ChannelRecord) : (s.updChan c f).pump d = s.pump d := by
  cases c <;> cases d <;> rfl

theorem setPump_setPump (s : State) (c : Channel) (p q : PumpRecord) : (s.setPump c p).setPump c q = s.setPump c q := by
  cases c <;> rfl

/-- A pump that starts or runs is stopped: at once where it gives no feedback, and else with its timer running (R67, R68). -/
theorem pumpStop_turning (h : (x.pump c).state = .starting ∨ (x.pump c).state = .running) : x.pumpStop c =
    if (x.pump c).feedback then
      x.setPump c { x.pump c with run := false, state := .stopping, timer := some (after x.clock 100) }
    else (x.setPump c { x.pump c with run := false, state := .stopped, timer := none }).emit (.pump c .stopped) := by
  unfold State.pumpStop
  rcases h with h | h <;> simp only [h, State.pumpStopped, setPump_pump_self, setPump_setPump]

/-- A pumping run is stopped (R134, steps 1 to 3). -/
theorem stopRun_pumping (h : s.pumping c l) (k : StopCause) : s.stopRun c k = s.runStopping c k l.destTank := by
  obtain ⟨hleg, -, -, htold, hmade, hpump, hfeedback, -⟩ := h
  have stopped {y : State} (hy : y.pump c = s.pump c) (hclock : y.clock = s.clock) :
      (y.updChan c fun r => { r with pumpTold := .stopping }).pumpStop c = (y.updChan c fun r =>
        { r with pumpTold := .stopping }).setPump c
          { s.pump c with run := false, state := .stopping, timer := some (after s.clock 100) } := by
    have pump : (y.updChan c fun r => { r with pumpTold := .stopping }).pump c = s.pump c := (updChan_pump _ _ _ _).trans hy
    rw [pumpStop_turning (by rw [pump]; exact .inr hpump), pump, hfeedback, if_pos rfl, updChan_clock, hclock]
  rw [stopRun_eq, htold, hleg]
  unfold State.stopPumpOrClose State.endRunEntry State.runStopping
  rw [hmade, Option.bind_some]
  cases hd : l.destTank with
  | none =>
    refine (stopped (updChan_pump _ _ _ _) (updChan_clock _ _ _)).trans ?_
    rw [hd] at hmade
    rw [updChan_updChan]
    exact congrArg (State.setPump c _) (updChan_congr (by simp only [hmade, Option.isSome_none]))
  | some t =>
    refine (stopped ?_ ?_).trans ?_
    · cases c <;> rfl
    · cases c <;> rfl
    · cases c <;> rfl

/-- A run whose pump has been told to stop is not over. -/
theorem runStopping_settle (h : s.runOver c.other = none) (k : StopCause) (d : Option TankIx) :
    (s.runStopping c k d).settle = s.runStopping c k d := by
  have told : ((s.runStopping c k d).chan c).pumpTold = .stopping := by cases c <;> rfl
  have other : (s.runStopping c k d).chan c.other = s.chan c.other := by cases c <;> cases d <;> rfl
  have stopping : (s.runStopping c k d).runOver c = none :=
    if_neg fun hover => by rw [told] at hover; exact absurd hover.2.1 (by decide)
  have still := (runOver_of_chan other).trans h
  refine settle_settled ?_
  cases c with
  | tc1 => exact ⟨stopping, still⟩
  | tc2 => exact ⟨still, stopping⟩

/-- A run that has been stopped is STOPPING. -/
theorem stopping_stopRun (distinct : (s.te.orders.map (·.id)).Nodup) (ho : o ∈ s.te.orders)
    (hc : (s.chan c).order = some (o.id, o.current)) (hother : s.runOver c.other = none) (k : StopCause) :
    (s.stopRun c k).Stopping c o k := by
  refine ⟨?_, ?_, ?_, ?_, ?_, ?_⟩
  · rw [stopRun_chan]
    rfl
  · rw [stopRun_chan]
    rfl
  · rw [stopRun_chan]
    exact hc
  · rwa [runOver_of_chan (stopRun_chan_other s c k)]
  · rwa [stopRun_orders]
  · rwa [stopRun_orders]

/-! ### A pulse (R127 to R129) -/

/-- A pulse outside a run counts into the totalizer at the meter factor. -/
theorem channelPulse_idle (h : (s.chan c).phase = none) {q : Nat × Nat}
    (hq : q = countPulse (s.chan c).meterFactor ((s.chan c).totalizer, (s.chan c).residue)) :
    s.channelPulse c = s.updChan c fun r => { r with totalizer := q.1, residue := q.2 } := by
  unfold State.channelPulse
  simp only [h, hq, Option.isSome_none, Bool.false_eq_true, if_false]

/-- The counts of a pulse of a run, before the end condition is looked at. -/
def pulseCounted (c : Channel) (id k moved : Nat) (q : Nat × Nat) (s : State) : State :=
  (s.updChan c fun r => { r with
    totalizer := q.1, residue := q.2, runPulses := r.runPulses + 1,
    noFlow := if r.phase = some .pumping then some (after s.clock ((r.runNoFlow.getD r.noFlowTime) * 10)) else r.noFlow }).updLeg
      id k fun x => { x with moved := moved }

/-- A pulse of a run counts into the totalizer at the run's factor, and into the leg; then the end condition is looked at. -/
theorem channelPulse_run {id k f moved : Nat} {q : Nat × Nat} (hphase : (s.chan c).phase.isSome)
    (hrun : (s.chan c).order = some (id, k)) (hf : (s.chan c).runFactor = some f) (hp : (s.chan c).runPulses < 4294967295)
    (hm : moved = (s.chan c).movedAtStart + ((s.chan c).runPulses + 1) * 100 / f) (hmax : moved ≤ 4294967295)
    (hq : q = countPulse f ((s.chan c).totalizer, (s.chan c).residue)) :
    s.channelPulse c = ((s.pulseCounted c id k moved q).evaluate c {}).settle := by
  have pulses : raisePulses (s.chan c).runPulses = (s.chan c).runPulses + 1 := if_pos hp
  have figure : movedFigure ((s.chan c).movedAtStart + ((s.chan c).runPulses + 1) * 100 / f) = moved := by
    rw [← hm]
    exact if_pos hmax
  unfold State.channelPulse State.pulseCounted
  simp only [hphase, hf, hrun, pulses, if_true, Option.getD_some, figure, updChan_updChan, ← hq, updChan_clock]
  congr 3
  exact updChan_congr rfl

theorem pulseCounted_standsIn (s : State) (c : Channel) (id k moved : Nat) (q : Nat × Nat) :
    ((s.updChan c fun r => { r with totalizer := q.1, residue := q.2 }).updLeg id k fun x => { x with moved := moved }).standsIn
      (s.pulseCounted c id k moved q) := by
  cases c <;> exact ⟨rfl, List.prefix_refl _⟩

theorem standsIn_evaluate_settle (s : State) (c : Channel) (e : Evaluation) : s.standsIn (s.evaluate c e).settle :=
  ⟨standing_of_transfer ((State.settle_beyondTransfer _).trans (s.evaluate_beyondTransfer c e)),
    (((Grows.refl s).evaluate c e).settle).queue⟩

theorem updLeg_chan (s : State) (id k : Nat) (f : Leg → Leg) (c : Channel) : (s.updLeg id k f).chan c = s.chan c := by
  cases c <;> rfl

theorem runLeg_updChan {f : ChannelRecord → ChannelRecord} (hf : (f (s.chan c)).order = (s.chan c).order) :
    (s.updChan c f).runLeg c = s.runLeg c := by
  simp only [State.runLeg, updChan_chan_self, hf, updChan_order_of]

/-- What a channel runs after a change of its leg. -/
theorem runLeg_updLeg {id k : Nat} (hrun : (s.chan c).order = some (id, k)) (hleg : s.runLeg c = some l) (f : Leg → Leg) :
    (s.updLeg id k f).runLeg c = some (f l) := by
  have found := updOrder_order (f := Order.updLeg k f) (fun _ => rfl) s id
  simp only [State.runLeg, hrun] at hleg
  simp only [State.runLeg, updLeg_chan, hrun]
  show ((s.updOrder id (Order.updLeg k f)).order id).bind _ = _
  rw [found]
  cases ho : s.order id with
  | none =>
    rw [ho] at hleg
    cases hleg
  | some o =>
    rw [ho, Option.bind_some] at hleg
    simp [Order.updLeg, hleg]

/-- A channel pumps beside a channel without a run to hand on. -/
theorem pumping_other (h : s.pumping c l) : s.runOver c.other = none := by
  obtain ⟨-, -, -, -, -, -, -, hother⟩ := h
  exact hother

theorem pumping_running (h : (s.chan c).phase = some .pumping) : (s.chan c).running = true := by
  simp only [ChannelRecord.running, h]

/-- The end condition alone stops a VOLUME leg with COMPLETE when its volume is reached (R129). -/
theorem stopCause_volume (hv : l.condition = .volume) :
    s.stopCause c l {} = if l.volume ≤ l.moved then some (.result .complete) else none := by
  by_cases h : l.volume ≤ l.moved <;> simp [State.stopCause, firstCause, State.legComplete, hv, h]

/-- A pumping VOLUME leg stops when its volume is reached (R129). -/
theorem evaluate_volume (h : s.pumping c l) (hv : l.condition = .volume) :
    s.evaluate c {} = if l.volume ≤ l.moved then s.runStopping c (.result .complete) l.destTank else s := by
  unfold State.evaluate
  rw [if_pos (pumping_running h.2.1), h.1]
  dsimp only
  rw [stopCause_volume hv]
  split
  · next hc =>
    split at hc
    · cases hc
      rw [if_pos ‹_›]
      exact stopRun_pumping h _
    · cases hc
  · next hc =>
    split at hc
    · cases hc
    · rw [if_neg ‹_›]

theorem pumping_settle (h : s.pumping c l) : s.settle = s := by
  have going : s.runOver c = none := runOver_none_of_phase (by rw [h.2.1]; decide)
  refine settle_settled ?_
  cases c with
  | tc1 => exact ⟨going, pumping_other h⟩
  | tc2 => exact ⟨pumping_other h, going⟩

/-- A pulse leaves a pumping run pumping. -/
theorem pulseCounted_pumping {id k moved : Nat} {q : Nat × Nat} (h : s.pumping c l) (hrun : (s.chan c).order = some (id, k)) :
    (s.pulseCounted c id k moved q).pumping c { l with moved := moved } := by
  obtain ⟨hleg, hphase, hflow, htold, hmade, hpump, hfeedback, hother⟩ := h
  have chan : (s.pulseCounted c id k moved q).chan c = { s.chan c with
      totalizer := q.1, residue := q.2, runPulses := (s.chan c).runPulses + 1,
      noFlow := some (after s.clock (((s.chan c).runNoFlow.getD (s.chan c).noFlowTime) * 10)) } := by
    refine (updLeg_chan _ _ _ _ _).trans ((updChan_chan_self _ _ _).trans ?_)
    dsimp only
    rw [hphase, if_pos rfl]
  have other : (s.pulseCounted c id k moved q).chan c.other = s.chan c.other := by cases c <;> rfl
  have pump : (s.pulseCounted c id k moved q).pump c = s.pump c := by cases c <;> rfl
  refine ⟨?_, ?_, ?_, ?_, ?_, ?_, ?_, ?_⟩
  · unfold State.pulseCounted
    refine runLeg_updLeg ?_ ?_ _
    · rw [updChan_chan_self]
      exact hrun
    · refine (runLeg_updChan ?_).trans hleg
      rfl
  · rw [chan]; exact hphase
  · rw [chan]; rfl
  · rw [chan]; exact htold
  · rw [chan]; exact hmade
  · rw [pump]; exact hpump
  · rw [pump]; exact hfeedback
  · rw [runOver_of_chan other]; exact hother

end State
end Sys2Proof.Machine
end

section
/-!
PROOF. A run that is stopped by a request, CHANNEL_OUT or ORDER_CANCEL, and the stop in the phases before PUMPING (O46).
-/
namespace Sys2Proof.Machine
namespace State

variable {s x : State} {c : Channel} {o : Order} {k : StopCause} {l : Leg} {id : Nat}

/-! ### CHANNEL_OUT of a BUSY channel (R138) -/

/-- A channel is taken out of service while it is BUSY: it is STOPPING_FOR_OUT, with its report. -/
def leaving (c : Channel) (s : State) : State :=
  (s.updChan c fun r => { r with state := .stoppingForOut, outReason := some .host }).report .channel c.code
    ChannelState.stoppingForOut.code 1

theorem leaving_chan (s : State) (c : Channel) :
    (s.leaving c).chan c = { s.chan c with state := .stoppingForOut, outReason := some .host } := by
  rw [leaving, chan_of_te (State.report_te _ _ _ _ _), updChan_chan_self]

theorem leaving_chan_other (s : State) (c : Channel) : (s.leaving c).chan c.other = s.chan c.other := by
  rw [leaving, chan_of_te (State.report_te _ _ _ _ _), updChan_chan_other]

theorem takeOut_running (hst : (s.chan c).state = .busy) (hr : (s.chan c).running = true) :
    s.takeOut c = ((s.leaving c).stopRun c (.back .channelOut)).settle := by
  have left : (s.updChan c fun r => { r with outReason := some .host }).setChannel c .stoppingForOut = s.leaving c := by
    rw [setChannel_eq (v := 1) (by rw [updChan_chan_self]; rfl), updChan_updChan]
    rfl
  unfold State.takeOut
  simp only [hst, hr, left, if_true]

theorem leaving_pumping (h : s.pumping c l) : (s.leaving c).pumping c l := by
  obtain ⟨hleg, hphase, hflow, htold, hmade, hpump, hfeedback, hother⟩ := h
  have pump : (s.leaving c).pump c = s.pump c := updChan_pump _ _ _ _
  refine ⟨?_, ?_, ?_, ?_, ?_, ?_, ?_, ?_⟩
  · exact (runLeg_of_te (State.report_te _ _ _ _ _) c).trans ((runLeg_updChan rfl).trans hleg)
  · rw [leaving_chan]; exact hphase
  · rw [leaving_chan]; exact hflow
  · rw [leaving_chan]; exact htold
  · rw [leaving_chan]; exact hmade
  · rw [pump]; exact hpump
  · rw [pump]; exact hfeedback
  · rw [runOver_of_chan (leaving_chan_other s c)]; exact hother

/-! ### ORDER_CANCEL of an ACTIVE order (R108) -/

theorem order_of_orders (h : x.te.orders = s.te.orders) (id : Nat) : x.order id = s.order id := by
  simp only [State.order, h]

theorem cancel_running (h : s.order id = some o) (ha : o.state = .active) (hm : o.cancelRequested = false)
    (hc : o.channel = some c) (hr : (s.chan c).running = true) :
    s.cancel id = (s.cancelMarked id).stopRun c (.result .cancelled) := by
  have running : ((s.updOrder id fun o => { o with cancelRequested := true }).chan c).running = true := by
    rw [show (s.updOrder id fun o => { o with cancelRequested := true }).chan c = s.chan c by cases c <;> rfl, hr]
  unfold State.cancel
  simp only [h, ha, hm, hc, running, if_true, Bool.false_eq_true, if_false]
  rfl

theorem cancelMarked_order (h : s.order id = some o) : (s.cancelMarked id).order id = some { o with cancelRequested := true } := by
  have found := updOrder_order (f := fun o => { o with cancelRequested := true }) (fun _ => rfl) s id
  rw [h] at found
  exact found

theorem cancelMarked_pumping {n : Nat} (hrun : (s.chan c).order = some (id, n)) (h : s.pumping c l) : (s.cancelMarked id).pumping c l := by
  obtain ⟨hleg, hrest⟩ := h
  have pump : (s.cancelMarked id).pump c = s.pump c := by cases c <;> rfl
  have leg : (s.cancelMarked id).runLeg c = s.runLeg c := by
    simp only [State.runLeg, cancelMarked_chan, hrun]
    cases ho : s.order id with
    | none =>
      have found := updOrder_order (f := fun o => { o with cancelRequested := true }) (fun _ => rfl) s id
      rw [show (s.cancelMarked id).order id = none from found.trans (by rw [ho]; rfl)]
    | some o =>
      rw [cancelMarked_order ho]
      rfl
  refine ⟨leg.trans hleg, ?_⟩
  rwa [cancelMarked_chan, pump, runOver_of_chan (cancelMarked_chan _ _ _)]

/-! ### The stop before PUMPING (R134, steps 1 to 4) -/

/-- A run without an entry and with a stopped pump has its valves closed at once. -/
theorem stopRun_liningUp {n : Lined} (hmade : (s.chan c).entryMade = false) (htold : (s.chan c).pumpTold = .stopped)
    (hn : (s.chan c).lined = some n) (hs : n.suctionAnswer ≠ .fault) (hd : n.deliveryAnswer ≠ .fault) (k : StopCause) :
    s.stopRun c k = ((s.updChan c fun r =>
      { r with stop := some k, phase := some .stopping, noFlow := none }).command n.suction .a).command n.delivery .a := by
  have lined : ((s.updChan c fun r => { r with stop := some k, phase := some .stopping, noFlow := none }).chan c).linedList =
      [(n.suction, n.suctionAnswer), (n.delivery, n.deliveryAnswer)] := by
    rw [updChan_chan_self]
    simp only [ChannelRecord.linedList, hn]
  rw [stopRun_eq, hmade, htold]
  show State.closeValves c (s.updChan c fun r => { r with stop := some k, phase := some .stopping, noFlow := none }) = _
  rw [closeValves_eq lined]
  simp [hs, hd]

/-- A run without an entry whose pump starts has its pump stopped. -/
theorem stopRun_starting (hmade : (s.chan c).entryMade = false) (htold : (s.chan c).pumpTold = .starting) (k : StopCause) :
    s.stopRun c k = ((s.updChan c fun r =>
      { r with stop := some k, phase := some .stopping, noFlow := none }).updChan c fun r =>
        { r with pumpTold := .stopping }).pumpStop c := by
  rw [stopRun_eq, hmade, htold]
  rfl

end State

/-! ### The requests -/

/-- CHANNEL_OUT is answered with the channel's state (R138). -/
theorem exec_channelOut {s : State} (hs : s.ready) (c : Channel) (tag : Byte) : exec (.channelOut tag (u8 c.code)) s = .next
    ((s.takeOut c).answered 0x49 tag (u8 c.code) .ok (u8 ((s.takeOut c).chan c).state.code)).deliver := by
  refine exec_accepted (r := ⟨0x49, tag, u8 c.code⟩) (f := answerChannelOut) rfl rfl hs ?_
  have size : ¬(u8 c.code).length ≠ 1 := fun h => h rfl
  simp only [answerChannelOut, if_neg size, byteAt_u8_alone (Channel.code_lt c), Channel.ofCode_code, State.takeOut_taken, State.chan_taken]

/-- ORDER_CANCEL of an ACTIVE order whose run is in a running phase (R108). -/
theorem exec_orderCancel_running {s : State} (hs : s.ready) {id : Nat} (hid : id < 65536) {o : Order} (h : s.order id = some o)
    (ha : o.state = .active) (hm : o.cancelRequested = false) {c : Channel} (hc : o.channel = some c)
    (hr : (s.chan c).running = true) (tag : Byte) : exec (.orderCancel tag (u16 id)) s = .next
      (((s.cancelMarked id).stopRun c (.result .cancelled)).settle.answered 0x41 tag (u16 id) .ok (u8 2 ++ mark true)).deliver := by
  obtain rfl := State.order_id h
  refine exec_accepted (r := ⟨0x41, tag, u16 o.id⟩) (f := answerOrderCancel) rfl rfl hs ?_
  have size : ¬(u16 o.id).length ≠ 2 := fun h => h rfl
  have cancelled := State.cancel_running h ha hm hc hr
  have found : (s.cancel o.id).order o.id = some { o with cancelRequested := true } := by
    rw [cancelled, State.order_of_orders (State.stopRun_orders _ _ _), State.cancelMarked_order h]
  simp only [answerOrderCancel, if_neg size, u16At_alone hid, State.order_taken, h, State.cancel_taken, found,
    State.settle_taken, Option.getD_some, ha]
  rw [cancelled]
  rfl

end Sys2Proof.Machine
end

section
open Sys2Proof Sys2Proof.Machine

/-- Settles O46: a pulse is counted before the end condition is looked at, and each stop is the one stop of a run. -/
theorem channelPulsesAndStopsAreTaken : Obligations.ChannelPulsesAndStopsAreTaken := by
  refine ⟨fun s c hon => ⟨fun hphase q hq => ?_, fun id k f moved l q hphase hrun hleg hf hp hm hmax hq => ⟨?_, ?_⟩⟩,
    fun s c l h => ⟨fun hon => ?_, ?_, ?_⟩, fun s c o hs hr hother hstore ho hc => ⟨?_, ?_⟩,
    fun s c k hmade x hx => ⟨?_, ?_⟩, fun factor total residue hf => ?_⟩
  · exact exec_event rfl hon (State.channelPulse_idle hphase hq)
  · refine ⟨_, exec_event rfl hon (State.channelPulse_run hphase hrun hf hp hm hmax hq), ?_⟩
    exact State.standsIn_trans (State.standsIn_trans (s.pulseCounted_standsIn c id k moved q)
      (State.standsIn_evaluate_settle _ c {})) (State.standsIn_deliver _)
  · rintro t x h hv ht rfl
    have counted : s.pulseCounted c id k moved q = ((s.updChan c fun r => { r with
        totalizer := q.1, residue := q.2, runPulses := r.runPulses + 1,
        noFlow := some (after s.clock (t * 10)) }).updLeg id k fun x => { x with moved := moved }) :=
      congrArg (State.updLeg id k _) (State.updChan_congr (by simp only [h.2.1, ht, if_true, Option.getD_some]))
    have pulse := State.channelPulse_run hphase hrun hf hp hm hmax hq
    have pumping : (s.pulseCounted c id k moved q).pumping c { l with moved := moved } := State.pulseCounted_pumping h hrun
    rw [State.evaluate_volume pumping hv] at pulse
    rw [← counted]
    refine ⟨fun hless => exec_event rfl hon ?_, fun hfull => exec_event rfl hon ?_⟩
    · rw [pulse, if_neg (Nat.not_le.mpr hless), State.pumping_settle pumping]
    · rw [pulse, if_pos hfull]
      exact State.runStopping_settle (State.pumping_other pumping) _ _
  · have lost : s.flowLost c = (s.stopRun c (.result .noFlow)).settle := if_pos ⟨h.2.1, h.2.2.1⟩
    refine exec_event rfl hon (lost.trans ?_)
    rw [State.stopRun_pumping h, State.runStopping_settle (State.pumping_other h)]
  · rintro tag p hs rfl hst
    have leaving := State.leaving_pumping h
    have out : s.takeOut c = (s.leaving c).runStopping c (.back .channelOut) l.destTank := by
      rw [State.takeOut_running hst (State.pumping_running h.2.1), State.stopRun_pumping leaving,
        State.runStopping_settle (State.pumping_other leaving)]
    have state : (((s.leaving c).runStopping c (.back .channelOut) l.destTank).chan c).state = .stoppingForOut := by
      rw [← State.stopRun_pumping leaving, State.stopRun_chan, State.leaving_chan]
      rfl
    rw [exec_channelOut hs, out, state]
    rfl
  · rintro tag id k o hs hid hrun ho ha hc hm
    have marked := State.cancelMarked_pumping hrun h
    rw [exec_orderCancel_running hs hid ho ha hm hc (State.pumping_running h.2.1), State.stopRun_pumping marked,
      State.runStopping_settle (State.pumping_other marked)]
    rfl
  · rintro tag p x rfl hst rfl
    have stopping : ((s.leaving c).stopRun c (.back .channelOut)).Stopping c o (.back .channelOut) := by
      refine State.stopping_stopRun ?_ ?_ ?_ ?_ _
      · exact (show (s.leaving c).te.orders = s.te.orders from State.updChan_orders _ _ _) ▸ hstore.2
      · exact (show (s.leaving c).te.orders = s.te.orders from State.updChan_orders _ _ _) ▸ ho
      · rw [State.leaving_chan]
        exact hc
      · rw [State.runOver_of_chan (State.leaving_chan_other s c), hother]
    rw [exec_channelOut hs, State.takeOut_running hst hr, stopping.settle_eq]
    rfl
  · intro tag hid ha hch hm
    have found := State.order_of_mem hstore.2 ho
    have stopping : ((s.cancelMarked o.id).stopRun c (.result .cancelled)).Stopping c { o with cancelRequested := true }
        (.result .cancelled) := by
      refine State.stopping_stopRun ?_ ?_ ?_ ?_ _
      · have ids : (s.cancelMarked o.id).te.orders.map (·.id) = s.te.orders.map (·.id) := by
          show (s.te.orders.map _).map _ = _
          rw [List.map_map]
          exact List.map_congr_left fun y _ => by simp only [Function.comp]; split <;> rfl
        exact ids ▸ hstore.2
      · exact State.order_mem (State.cancelMarked_order found)
      · rw [State.cancelMarked_chan]
        exact hc
      · rw [State.runOver_of_chan (State.cancelMarked_chan _ _ _), hother]
    rw [exec_orderCancel_running hs hid found ha hm hch hr, stopping.settle_eq]
    rfl
  · rintro n - htold hn hsuction hdelivery
    rw [hx]
    exact State.stopRun_liningUp hmade htold hn hsuction hdelivery k
  · rintro - htold hst y hy
    have stop : s.stopRun c k = y.pumpStop c := by rw [hy, hx, State.stopRun_starting hmade htold]
    have pump : y.pump c = s.pump c := by rw [hy, hx, State.updChan_pump, State.updChan_pump]
    have clock : y.clock = s.clock := by rw [hy, hx, State.updChan_clock, State.updChan_clock]
    rw [State.pumpStop_turning (by rw [pump]; exact .inl hst), pump, clock] at stop
    exact ⟨fun hfeedback => stop.trans (if_pos hfeedback),
      fun hfeedback => stop.trans (if_neg (by rw [hfeedback]; exact Bool.false_ne_true))⟩
  · exact ⟨countPulse_residue factor _ hf, _, countPulse_litres factor total residue, rfl⟩
end

section
/-!
PROOF. The arbiter's choice (R119 to R121): the orders that wait stand in the order of R120, and weighing them comes to what
`State.afterWeighing` says, up to the first whose leg is eligible (O39).
-/
namespace Sys2Proof.Machine

/-! ### A list up to an element -/

/-- Of two elements with different ids each stands before the other in no list. -/
theorem takeWhile_asymm {os : List Order} {x y : Order} (hx : x ∈ os.takeWhile fun z => decide (z.id ≠ y.id))
    (hy : y ∈ os.takeWhile fun z => decide (z.id ≠ x.id)) : False := by
  induction os with
  | nil => cases hx
  | cons z os ih =>
    rw [List.takeWhile_cons] at hx hy
    split at hx
    · next hzy =>
      split at hy
      · next hzx =>
        rcases List.mem_cons.mp hx with rfl | hx
        · simp at hzx
        · rcases List.mem_cons.mp hy with rfl | hy
          · simp at hzy
          · exact ih hx hy
      · cases hy
    · cases hx

/-- In a list with distinct ids each element stands before those after it. -/
theorem pairwise_takeWhile {os : List Order} (distinct : (os.map (·.id)).Nodup) :
    os.Pairwise fun x y => x ∈ os.takeWhile fun z => decide (z.id ≠ y.id) := by
  induction os with
  | nil => exact .nil
  | cons z os ih =>
    rw [List.map_cons, List.nodup_cons] at distinct
    have apart : ∀ y ∈ os, decide (z.id ≠ y.id) = true := fun y hy =>
      decide_eq_true fun h => distinct.1 (h ▸ List.mem_map_of_mem hy)
    refine List.pairwise_cons.mpr ⟨fun y hy => ?_, (ih distinct.2).imp_of_mem fun _ hy h => ?_⟩
    · rw [List.takeWhile_cons, if_pos (apart y hy)]
      exact List.mem_cons_self
    · rw [List.takeWhile_cons, if_pos (apart _ hy)]
      exact List.mem_cons_of_mem z h

namespace State

variable {s : State} {c : Channel} {o : Order} {l : Leg}

/-! ### The orders that wait (R120) -/

theorem weighedBefore_asymm {x y : Order} (hx : s.weighedBefore y x) (hy : s.weighedBefore x y) : False := by
  obtain ⟨-, hx⟩ := hx
  obtain ⟨-, hy⟩ := hy
  rcases hx with hx | ⟨hp, hx⟩
  · rcases hy with hy | ⟨hp', -⟩ <;> omega
  · rcases hy with hy | ⟨-, hy⟩
    · omega
    · exact takeWhile_asymm hx hy

section

variable (hstore : s.storeLaw) (hpriority : ∀ o ∈ s.te.orders, o.priority ≤ 3)
include hstore

/-- The list of the orders that wait has the order of R120. -/
theorem waiting_pairwise : s.waiting.Pairwise fun x y => s.weighedBefore y x := by
  have inOrder := pairwise_takeWhile hstore.2
  refine List.pairwise_flatMap.mpr ⟨fun p _ => ?_, ?_⟩
  · refine List.Pairwise.imp_of_mem (fun hx hy h => ?_) (inOrder.filter _)
    have hx := of_decide_eq_true (List.mem_filter.mp hx).2
    have hy := of_decide_eq_true (List.mem_filter.mp hy).2
    exact ⟨hx.1, .inr ⟨hx.2.trans hy.2.symm, h⟩⟩
  · have falling : [3, 2, 1, 0].Pairwise fun p q : Nat => q < p := by decide
    refine falling.imp fun hpq x hx y hy => ?_
    have hx := of_decide_eq_true (List.mem_filter.mp hx).2
    have hy := of_decide_eq_true (List.mem_filter.mp hy).2
    exact ⟨hx.1, .inl (by rw [hx.2, hy.2]; exact hpq)⟩

theorem waiting_distinct : (s.waiting.map (·.id)).Nodup := by
  refine List.pairwise_map.mpr ((waiting_pairwise hstore).imp_of_mem fun hx hy h hid => ?_)
  obtain rfl := eq_of_id hstore.2 (mem_waiting hx).1 (mem_waiting hy).1 hid
  exact weighedBefore_asymm h h

omit hstore in
include hpriority in
theorem mem_waiting_iff {x : Order} : x ∈ s.waiting ↔ x ∈ s.te.orders ∧ x.state = .pending := by
  refine ⟨mem_waiting, fun ⟨hx, hst⟩ => List.mem_flatMap.mpr ⟨x.priority, ?_, List.mem_filter.mpr ⟨hx, decide_eq_true ⟨hst, rfl⟩⟩⟩⟩
  have := hpriority x hx
  simp only [List.mem_cons, List.not_mem_nil, or_false]
  omega

include hpriority in
/-- The orders weighed before an order that waits stand before it in the list. -/
theorem waiting_split (ho : o ∈ s.te.orders) (hst : o.state = .pending) :
    ∃ as bs, s.waiting = as ++ o :: bs ∧ ∀ x, x ∈ as ↔ x ∈ s.te.orders ∧ s.weighedBefore o x := by
  obtain ⟨as, bs, hsplit⟩ := List.append_of_mem ((mem_waiting_iff hpriority).mpr ⟨ho, hst⟩)
  have ordered := waiting_pairwise hstore
  rw [hsplit, List.pairwise_append, List.pairwise_cons] at ordered
  obtain ⟨-, ⟨hafter, -⟩, hbefore⟩ := ordered
  refine ⟨as, bs, hsplit, fun x => ⟨fun hx => ⟨?_, hbefore x hx o List.mem_cons_self⟩, fun ⟨hx, hweighed⟩ => ?_⟩⟩
  · exact (mem_waiting (hsplit ▸ List.mem_append_left _ hx)).1
  · have waits : x ∈ as ++ o :: bs := hsplit ▸ (mem_waiting_iff hpriority).mpr ⟨hx, hweighed.1⟩
    rcases List.mem_append.mp waits with h | h
    · exact h
    · rcases List.mem_cons.mp h with rfl | h
      · exact (weighedBefore_asymm hweighed hweighed).elim
      · exact (weighedBefore_asymm hweighed (hafter x h)).elim

end

/-! ### Weighing (R121) -/

/-- What weighing the orders of a list leaves. -/
def weighed (os : List Order) (s : State) : State :=
  { s with te := { s.te with
    guardList := s.te.guardList.filter fun id =>
      !os.any fun o => decide (o.id = id) && o.leg.any fun l => !s.guardHolds o.id l,
    guardPassed := s.te.guardPassed || os.any fun o => o.leg.any (s.guardHolds o.id) } }

theorem weighed_nil (s : State) : s.weighed [] = s := by simp [weighed]

/-- Weighing the orders of a list is weighing those of the store that stand in it. -/
theorem weighed_eq_afterWeighing {os : List Order} {seen : Order → Bool} (h : ∀ x, x ∈ os ↔ x ∈ s.te.orders ∧ seen x = true) :
    s.weighed os = s.afterWeighing seen := by
  have some_weighed (p : Order → Bool) : os.any p = s.te.orders.any fun x => seen x && p x := by
    rw [Bool.eq_iff_iff, List.any_eq_true, List.any_eq_true]
    simp only [h, Bool.and_eq_true, and_assoc]
  unfold weighed State.afterWeighing
  simp only [some_weighed, Bool.and_assoc]

theorem weighed_chan (os : List Order) (s : State) (c : Channel) : (s.weighed os).chan c = s.chan c := by cases c <;> rfl

/-- The guard judges an order that has not been weighed as before. -/
theorem weighed_guardHolds {os : List Order} (h : o.id ∉ os.map (·.id)) (l : Leg) :
    (s.weighed os).guardHolds o.id l = s.guardHolds o.id l := by
  have listed : (s.weighed os).te.guardList.contains o.id = s.te.guardList.contains o.id := by
    have unweighed : (os.any fun x => decide (x.id = o.id) && x.leg.any fun l => !s.guardHolds x.id l) = false := by
      refine List.any_eq_false.mpr fun x hx hw => h ?_
      obtain ⟨hid, -⟩ := (Bool.and_eq_true _ _).mp hw
      exact of_decide_eq_true hid ▸ List.mem_map_of_mem hx
    rw [Bool.eq_iff_iff, List.contains_iff_mem, List.contains_iff_mem]
    show o.id ∈ s.te.guardList.filter _ ↔ _
    rw [List.mem_filter, unweighed]
    simp
  unfold State.guardHolds
  rw [listed]
  rfl

/-- The guard has judged one more order. -/
theorem weighed_concat (os : List Order) (s : State) (o : Order) : s.weighed (os ++ [o]) = match o.leg with
    | none => s.weighed os
    | some l => if s.guardHolds o.id l then (s.weighed os).guardMarked else (s.weighed os).unguarded o.id := by
  cases hl : o.leg with
  | none => simp [weighed, hl]
  | some l =>
    cases hg : s.guardHolds o.id l with
    | true => simp [weighed, guardMarked, hl, hg]
    | false => simp [weighed, unguarded, hl, hg, List.filter_filter, Bool.and_comm, eq_comm]

theorem eligibleLeg_eq (hl : o.leg = some l) : s.eligibleLeg c o =
    (!s.guardHolds o.id l && !l.tanks.any ((s.chan c.other).claims.contains ·)) := by
  simp only [State.eligibleLeg, hl, Option.any_some, List.all_eq_not_any_not, Bool.not_not]

/-- Orders whose legs are not eligible are passed over. -/
theorem weigh_passed {as bs seen : List Order} (hnone : ∀ x ∈ as, s.eligibleLeg c x = false)
    (distinct : ((seen ++ as).map (·.id)).Nodup) :
    State.weigh c (as ++ bs) (s.weighed seen) = State.weigh c bs (s.weighed (seen ++ as)) := by
  induction as generalizing seen with
  | nil => rw [List.append_nil]; rfl
  | cons x as ih =>
    have unseen : x.id ∉ seen.map (·.id) := by
      rw [List.map_append, List.nodup_append] at distinct
      exact fun h => distinct.2.2 _ h _ (List.mem_map_of_mem List.mem_cons_self) rfl
    have step : State.weigh c (x :: (as ++ bs)) (s.weighed seen) = State.weigh c (as ++ bs) (s.weighed (seen ++ [x])) := by
      rw [weigh_cons, weighed_concat]
      cases hl : x.leg with
      | none => rfl
      | some l =>
        have ineligible := hnone x List.mem_cons_self
        rw [eligibleLeg_eq hl] at ineligible
        dsimp only
        rw [weighed_guardHolds unseen, weighed_chan]
        split
        · rfl
        · next hg =>
          rw [Bool.eq_false_iff.mpr hg, Bool.not_false, Bool.true_and, Bool.not_eq_false'] at ineligible
          rw [if_pos ineligible]
    have joined : seen ++ [x] ++ as = seen ++ x :: as := List.append_cons seen x as ▸ rfl
    rw [List.cons_append, step, ih (fun y hy => hnone y (List.mem_cons_of_mem x hy)) (joined ▸ distinct), joined]

/-- Where no order is eligible, none is taken (R121). -/
theorem weigh_none {os : List Order} (hnone : ∀ x ∈ os, s.eligibleLeg c x = false) (distinct : (os.map (·.id)).Nodup) :
    State.weigh c os s = (s.weighed os, none) := by
  have passed := weigh_passed (bs := []) (seen := []) hnone distinct
  rw [List.append_nil, weighed_nil, List.nil_append] at passed
  rw [passed]
  rfl

/-- The first eligible order is taken, and those after it are not weighed (R121). -/
theorem weigh_first {as bs : List Order} (hnone : ∀ x ∈ as, s.eligibleLeg c x = false)
    (distinct : ((as ++ o :: bs).map (·.id)).Nodup) (hl : o.leg = some l) (heligible : s.eligibleLeg c o = true) :
    State.weigh c (as ++ o :: bs) s = (s.weighed (as ++ [o]), some (o, l)) := by
  rw [List.map_append, List.nodup_append] at distinct
  obtain ⟨before, -, apart⟩ := distinct
  have unseen : o.id ∉ as.map (·.id) := fun h => apart _ h _ (List.mem_map_of_mem List.mem_cons_self) rfl
  have passed := weigh_passed (bs := o :: bs) (seen := []) hnone before
  rw [weighed_nil, List.nil_append] at passed
  rw [eligibleLeg_eq hl, Bool.and_eq_true, Bool.not_eq_true', Bool.not_eq_true'] at heligible
  obtain ⟨hguard, hclaims⟩ := heligible
  rw [passed, weigh_cons, weighed_concat, hl]
  dsimp only
  rw [weighed_guardHolds unseen, hguard, weighed_chan, hclaims]
  rfl

section

variable (hstore : s.storeLaw) (hpriority : ∀ o ∈ s.te.orders, o.priority ≤ 3)
include hstore hpriority

/-- The arbiter finds no eligible order. -/
theorem weigh_waiting_none (hnone : ∀ o ∈ s.te.orders, o.state = .pending → s.eligibleLeg c o = false) :
    State.weigh c s.waiting s = (s.afterWeighing fun o => decide (o.state = .pending), none) := by
  rw [weigh_none (fun x hx => hnone x (mem_waiting hx).1 (mem_waiting hx).2) (waiting_distinct hstore)]
  refine congrArg (·, none) (weighed_eq_afterWeighing fun x => ?_)
  rw [mem_waiting_iff hpriority, decide_eq_true_eq]

/-- The arbiter finds the first eligible order. -/
theorem weigh_waiting_first (ho : o ∈ s.te.orders) (hst : o.state = .pending) (heligible : s.eligibleLeg c o = true)
    (hfirst : ∀ x ∈ s.te.orders, s.weighedBefore o x → s.eligibleLeg c x = false) (hl : o.leg = some l) :
    State.weigh c s.waiting s =
      (s.afterWeighing fun x => decide (s.weighedBefore o x ∨ x.id = o.id), some (o, l)) := by
  obtain ⟨as, bs, hsplit, hbefore⟩ := waiting_split hstore hpriority ho hst
  have distinct := waiting_distinct hstore
  rw [hsplit] at distinct ⊢
  rw [weigh_first (fun x hx => hfirst x ((hbefore x).mp hx).1 ((hbefore x).mp hx).2) distinct hl heligible]
  refine congrArg (·, some (o, l)) (weighed_eq_afterWeighing fun x => ?_)
  rw [List.mem_append, hbefore, List.mem_singleton, decide_eq_true_eq, and_or_left]
  exact or_congr_right ⟨fun h => ⟨h ▸ ho, congrArg Order.id h⟩, fun ⟨hx, hid⟩ => eq_of_id hstore.2 hx ho hid⟩

end

end State
end Sys2Proof.Machine
end

section
/-!
PROOF. An order is given to a channel (R105, R122 to R124): the state in which its start checks are made, the checks themselves, and
the beginning of its run (O39).
-/
namespace Sys2Proof.Machine
namespace State

variable {s x : State} {c : Channel} {o : Order} {l : Leg}

/-! ### The guard and the checks in their own terms (R121, R123) -/

theorem raising_iff (s : State) (l : Leg) : s.raising l = true ↔ 0 < s.effect l * s.told.moment := by
  rw [State.raising, decide_eq_true_eq, mul_pos_iff]

/-- The guard holds back a raising leg over the limit, or over the limit less the hysteresis for a listed order (R121). -/
theorem guardHolds_iff (s : State) (id : Nat) (l : Leg) : s.guardHolds id l = true ↔
    l.condition ≠ .balance ∧ 0 < s.effect l * s.told.moment ∧ 0 < s.tt.mLim ∧
      (if s.te.guardList.contains id then s.tt.mLim - s.tt.mHys < s.told.moment.natAbs
        else s.tt.mLim < s.told.moment.natAbs) := by
  rw [← raising_iff]
  unfold State.guardHolds
  split
  · simp only [State.released, Bool.not_eq_true', Bool.or_eq_false_iff, Bool.not_eq_false', decide_eq_false_iff_not, not_or,
      Nat.not_le, ← ne_eq, ← Nat.pos_iff_ne_zero]
    tauto
  · simp only [State.overLimit, Bool.and_eq_true, Bool.not_eq_true', decide_eq_false_iff_not, decide_eq_true_eq]
    tauto

theorem armOf_defined {t : TankIx} {d : TankDef} (h : (s.tank t).defn = some d) : s.armOf t = d.arm := by
  simp only [State.armOf, h]

theorem destTank_eq_some {t : TankIx} : l.destTank = some t ↔ l.dest = .tank t := by
  unfold Leg.destTank
  cases l.dest <;> simp

/-- The effect of a leg is the arm that it ends at less the arm that it begins at (R121). -/
theorem effect_eq {d : TankDef} (h : (s.tank l.source).defn = some d) : (l.dest = .overboard → s.effect l = 0 - d.arm) ∧
    ∀ t, l.destTank = some t → ∀ e, (s.tank t).defn = some e → s.effect l = e.arm - d.arm := by
  refine ⟨fun hd => ?_, fun t ht e he => ?_⟩
  · simp only [State.effect, hd, armOf_defined h]
  · simp only [State.effect, destTank_eq_some.mp ht, armOf_defined h, armOf_defined he]

theorem firstCause_cons {α : Type} (b : Bool) (a : α) (cs : List (Bool × α)) :
    firstCause ((b, a) :: cs) = if b = true then some a else firstCause cs := by
  cases b <;> rfl

theorem unavailable_iff (s : State) (t : TankIx) (p : Perms → Bool) : s.unavailable t p = true ↔
    ¬((s.tank t).service = .inService ∧ (s.tank t).defn.any (fun d => p d.perms) = true) := by
  have permits : (s.tank t).permits p = (s.tank t).defn.any fun d => p d.perms := by
    unfold TankRecord.permits
    cases (s.tank t).defn <;> rfl
  simp only [State.unavailable, permits, Bool.or_eq_true, Bool.not_eq_true', not_and_or, Bool.eq_false_iff, ne_eq,
    decide_eq_true_eq]

/-- What is said of the destination of a leg is said of its tank. -/
theorem classClash_eq (s : State) (l : Leg) : s.classClash l =
    l.destTank.any fun t => !(s.tank t).empty && decide ((s.tank t).cls.code < (s.tank l.source).cls.code) := by
  unfold State.classClash Leg.destTank
  cases l.dest <;> rfl

theorem destAbove_eq (s : State) (l : Leg) (th : Threshold) :
    s.destAbove l th = l.destTank.any fun t => decide ((s.tank t).states.get th = .above) := by
  unfold State.destAbove Leg.destTank
  cases l.dest <;> rfl

/-- The start checks, in their order (R123). -/
theorem startCheck_eq (s : State) (c : Channel) (l : Leg) : s.startCheck c l =
    if ¬((s.tank l.source).service = .inService ∧ (s.tank l.source).defn.any (·.perms.transferFrom) = true) ∨
        l.destTank.any (fun t => !(decide ((s.tank t).service = .inService) &&
          (s.tank t).defn.any (·.perms.transferTo))) = true then some .tankUnavailable
    else if s.toldGauge .te l.source ≠ some .valid ∨
        l.destTank.any (fun t => decide (s.toldGauge .te t ≠ some .valid)) = true then some .gaugeNotValid
    else if l.dest = .overboard ∧ s.mode = .harbour then some .modeForbids
    else if l.destTank.any (fun t => !(s.tank t).empty &&
        decide ((s.tank t).cls.code < (s.tank l.source).cls.code)) = true then some .classConflict
    else if (s.tank l.source).states.ll = .below then some .sourceEmpty
    else if l.destTank.any (fun t => decide ((s.tank t).states.hh = .above)) = true then some .destFull
    else if l.condition = .fill ∧ l.destTank.any (fun t => decide ((s.tank t).states.h = .above)) = true then
      some .complete
    else if l.volume ≤ l.moved then some (if l.condition = .volume then .complete else .maxVolume)
    else if l.condition = .balance ∧ (s.told.moment = 0 ∨ s.effect l = 0 ∨ 0 < s.effect l * s.told.moment) then
      some .wrongWay
    else if (s.valve (c.suction l.source)).state = .fault ∨ (s.valve (l.delivery c)).state = .fault then some .valveFault
    else none := by
  have toUnavailable : l.destTank.any (s.unavailable · (·.transferTo)) = l.destTank.any fun t =>
      !(decide ((s.tank t).service = .inService) && (s.tank t).defn.any (·.perms.transferTo)) := by
    congr 1
    funext t
    rw [Bool.eq_iff_iff, unavailable_iff]
    by_cases h : (s.tank t).service = .inService <;> simp [h]
  have gauges : l.destTank.any (fun t => !s.gaugeValid t) =
      l.destTank.any fun t => decide (s.toldGauge .te t ≠ some .valid) := by
    congr 1
    funext t
    simp [State.gaugeValid]
  have gauge : s.gaugeValid l.source = false ↔ s.toldGauge .te l.source ≠ some .valid := decide_eq_false_iff_not
  simp only [State.startCheck, firstCause_cons, Bool.or_eq_true, Bool.and_eq_true, decide_eq_true_eq, unavailable_iff,
    toUnavailable, gauges, classClash_eq, destAbove_eq, raising_iff, gauge, Bool.not_eq_true',
    ThStates.get, Leg.fullResult, or_assoc]
  rfl

end State
end Sys2Proof.Machine
end

section
/-!
PROOF. The state in which an order has been given (R105, R122), the evaluation with which its run begins (R124, R129), and the end of
the arbitration (R120) (O39).
-/
namespace Sys2Proof.Machine

/-- A tank's record with its claim blanked. -/
def TankRecord.unclaimed (r : TankRecord) : TankRecord := { r with claim := none }

namespace State

variable {s x : State} {c : Channel} {o : Order} {l : Leg}

/-! ### Checks do not read the claims -/

/-- Two states with the same tanks beside their claims, and the same notices taken. -/
structure SameTanks (s x : State) : Prop where
  tank : ∀ t, (x.tank t).unclaimed = (s.tank t).unclaimed
  told : x.told = s.told
  mode : x.mode = s.mode
  hys : x.tt.mHys = s.tt.mHys

namespace SameTanks

variable (h : s.SameTanks x)
include h

theorem service (t : TankIx) : (x.tank t).service = (s.tank t).service :=
  show (x.tank t).unclaimed.service = (s.tank t).unclaimed.service by rw [h.tank]
theorem defn (t : TankIx) : (x.tank t).defn = (s.tank t).defn :=
  show (x.tank t).unclaimed.defn = (s.tank t).unclaimed.defn by rw [h.tank]
theorem cls (t : TankIx) : (x.tank t).cls = (s.tank t).cls :=
  show (x.tank t).unclaimed.cls = (s.tank t).unclaimed.cls by rw [h.tank]
theorem empty (t : TankIx) : (x.tank t).empty = (s.tank t).empty :=
  show (x.tank t).unclaimed.empty = (s.tank t).unclaimed.empty by rw [h.tank]
theorem states (t : TankIx) : (x.tank t).states = (s.tank t).states :=
  show (x.tank t).unclaimed.states = (s.tank t).unclaimed.states by rw [h.tank]

theorem unavailable (t : TankIx) (p : Perms → Bool) : x.unavailable t p = s.unavailable t p := by
  simp only [State.unavailable, TankRecord.permits, h.service, h.defn]

theorem destAbove (l : Leg) (th : Threshold) : x.destAbove l th = s.destAbove l th := by
  simp only [State.destAbove, h.states]

theorem toldGauge (t : TankIx) : x.toldGauge .te t = s.toldGauge .te t := by simp only [State.toldGauge, h.told]

theorem effect (l : Leg) : x.effect l = s.effect l := by simp only [State.effect, State.armOf, h.defn]

/-- The start checks (R123). -/
theorem startCheck (hau : x.au = s.au) (c : Channel) (l : Leg) : x.startCheck c l = s.startCheck c l := by
  have valve (v : Valve) : x.valve v = s.valve v := by simp only [State.valve, hau]
  simp only [startCheck_eq, h.service, h.defn, h.cls, h.empty, h.states, h.toldGauge, h.mode, h.told, h.effect, valve]

end SameTanks

/-! ### The claims of a leg (R122) -/

/-- The tanks of a leg are claimed by a channel. -/
def claimed (ts : List TankIx) (c : Channel) (s : State) : State :=
  ts.foldl (fun (s : State) t => s.updTank t fun r => { r with claim := some c }) s

/-- An operation that leaves the tanks alone comes before or after the claims. -/
theorem claimed_comm {f : State → State} (h : ∀ (x : State) (t : TankIx) (q : TankRecord → TankRecord),
    f (x.updTank t q) = (f x).updTank t q) (ts : List TankIx) (s : State) : f (s.claimed ts c) = (f s).claimed ts c := by
  induction ts generalizing s with
  | nil => rfl
  | cons t ts ih =>
    refine (ih _).trans ?_
    rw [h]
    rfl

theorem claimed_sameTanks (s : State) (ts : List TankIx) (c : Channel) : s.SameTanks (s.claimed ts c) := by
  induction ts generalizing s with
  | nil => exact ⟨fun _ => rfl, rfl, rfl, rfl⟩
  | cons t ts ih =>
    obtain ⟨tank, told, mode, hys⟩ := ih (s.updTank t fun r => { r with claim := some c })
    refine ⟨fun u => (tank u).trans ?_, told, mode, hys⟩
    by_cases hu : u = t
    · subst hu
      rw [updTank_tank_self]
      rfl
    · rw [updTank_tank_ne _ _ hu]

theorem claimed_au (s : State) (ts : List TankIx) (c : Channel) : (s.claimed ts c).au = s.au :=
  foldl_same State.au (fun (s : State) t => s.updTank t fun r => { r with claim := some c }) (fun _ _ => rfl) ts s

/-! ### The order that is given (R105) -/

/-- An order that is not on the guard list enters ACTIVE on a channel. -/
theorem enterOrder_active (h : s.order o.id = some o) (hg : o.id ∉ s.te.guardList) :
    (s.enterOrder o.id .active fun o => { o with channel := some c }) =
      (s.updOrder o.id fun z => { z with state := .active, channel := some c }).report .order o.id 2
        (o.current * 16777216 + c.code) := by
  have found := updOrder_order (f := fun z => { z with state := .active, channel := some c }) (fun _ => rfl) s o.id
  rw [h, Option.map_some] at found
  have kept : s.te.guardList.filter (· ≠ o.id) = s.te.guardList :=
    List.filter_eq_self.mpr fun i hi => decide_eq_true fun hid => hg (hid ▸ hi)
  have unlisted : ({ s.updOrder o.id fun z => { z with state := .active, channel := some c } with
      te := { (s.updOrder o.id fun z => { z with state := .active, channel := some c }).te with
        guardList := s.te.guardList.filter (· ≠ o.id) } } : State) =
      s.updOrder o.id fun z => { z with state := .active, channel := some c } := by rw [kept]; rfl
  have entered : (s.enterOrder o.id .active fun o => { o with channel := some c }) =
      State.reportOrder o.id { s.updOrder o.id fun z => { z with state := .active, channel := some c } with
        te := { (s.updOrder o.id fun z => { z with state := .active, channel := some c }).te with
          guardList := s.te.guardList.filter (· ≠ o.id) } } := rfl
  rw [entered, unlisted, State.reportOrder, found]
  rfl

/-- What a channel takes with an order (R105, R122): the order ACTIVE on the channel, the channel BUSY with it, and the reports. -/
def taking (c : Channel) (o : Order) (l : Leg) (s : State) : State :=
  (((s.updOrder o.id fun z => { z with state := .active, channel := some c }).report .order o.id 2
    (o.current * 16777216 + c.code)).updChan c fun r =>
      { r with state := .busy, order := some (o.id, o.current), claims := l.tanks }).report .channel c.code 2 o.id

theorem given_eq (h : s.order o.id = some o) (hg : o.id ∉ s.te.guardList) (c : Channel) (l : Leg) :
    s.given c o l = (s.claimed l.tanks c).taking c o l := by
  rw [claimed_comm (f := State.taking c o l) (fun _ _ _ => by cases c <;> rfl)]
  unfold given
  dsimp only
  rw [enterOrder_active h hg, setChannel_eq (v := o.id) (by rw [updChan_chan_self]; rfl), updChan_updChan, report_updChan,
    updChan_updChan]
  rfl

theorem taking_sameTanks (s : State) (c : Channel) (o : Order) (l : Leg) : s.SameTanks (s.taking c o l) := by
  cases c <;> exact ⟨fun _ => rfl, rfl, rfl, rfl⟩

theorem SameTanks.trans {u : State} (h : s.SameTanks x) (k : x.SameTanks u) : s.SameTanks u :=
  ⟨fun t => (k.tank t).trans (h.tank t), k.told.trans h.told, k.mode.trans h.mode, k.hys.trans h.hys⟩

/-- The order as the channel runs it. -/
theorem taking_order (h : s.order o.id = some o) (c : Channel) (l : Leg) :
    (s.taking c o l).order o.id = some { o with state := .active, channel := some c } := by
  have found := updOrder_order (f := fun z => { z with state := .active, channel := some c }) (fun _ => rfl) s o.id
  rw [h, Option.map_some] at found
  cases c <;> exact found

theorem taking_chan (s : State) (c : Channel) (o : Order) (l : Leg) :
    (s.taking c o l).chan c = { s.chan c with state := .busy, order := some (o.id, o.current), claims := l.tanks } := by
  cases c <;> rfl

theorem taking_distinct (h : (s.te.orders.map (·.id)).Nodup) (c : Channel) (o : Order) (l : Leg) :
    ((s.taking c o l).te.orders.map (·.id)).Nodup := by
  have ids : (s.taking c o l).te.orders.map (·.id) = s.te.orders.map (·.id) := by
    have orders : (s.taking c o l).te.orders = s.te.orders.map fun z =>
        if z.id = o.id then { z with state := .active, channel := some c } else z := by cases c <;> rfl
    rw [orders, List.map_map]
    exact List.map_congr_left fun z _ => by simp only [Function.comp]; split <;> rfl
  rw [ids]
  exact h

/-- A leg that fails a start check is handed on as its order's (R106, R123, R136). -/
theorem taking_closeRun (hdistinct : (s.te.orders.map (·.id)).Nodup) (h : s.order o.id = some o) (r : LegResult) :
    (s.taking c o l).closeRun c (.result r) = (s.taking c o l).legHandedOn c o r :=
  closeRun_result (o := { o with state := .active, channel := some c }) (taking_distinct hdistinct c o l)
    (order_mem (taking_order h c l)) (by rw [taking_chan]) r

/-! ### The run that begins (R124) -/

/-- A run begins: the settings, the moved figure and the sign of M are taken, and both valves are commanded OPEN. -/
def begun (c : Channel) (o : Order) (l : Leg) (m : Int) (s : State) : State :=
  (((s.updOrder o.id fun z => { z with legs := z.legs.modify (o.current - 1) fun l =>
    { l with runs := min (l.runs + 1) 255, lastChannel := some c } }).updChan c fun r =>
      { r with phase := some .liningUp, runFactor := some r.meterFactor, runNoFlow := some r.noFlowTime,
               movedAtStart := l.moved, runPulses := 0, signAtStart := some (MomentSign.of m),
               lined := some ⟨c.suction l.source, .none, l.delivery c, .none⟩ }).command (c.suction l.source)
        .b).command (l.delivery c) .b

theorem beginRun_eq (s : State) (c : Channel) (o : Order) (l : Leg) :
    s.beginRun c o.id o.current l = (s.begun c o l s.told.moment).evaluate c { trips := true } := rfl

theorem begun_te (s : State) (c : Channel) (o : Order) (l : Leg) (m : Int) : (s.begun c o l m).te =
    ((s.updLeg o.id o.current fun l => { l with runs := min (l.runs + 1) 255, lastChannel := some c }).updChan c fun r =>
      { r with phase := some .liningUp, runFactor := some r.meterFactor, runNoFlow := some r.noFlowTime,
               movedAtStart := l.moved, runPulses := 0, signAtStart := some (MomentSign.of m),
               lined := some ⟨c.suction l.source, .none, l.delivery c, .none⟩ }).te :=
  (command_te _ _ _).trans (command_te _ _ _)

theorem sameTanks_of_tt (htt : x.tt = s.tt) (htold : x.told = s.told) (hpmc : x.pmc = s.pmc) : s.SameTanks x :=
  ⟨fun t => by simp only [State.tank, htt], htold, by simp only [State.mode, hpmc], by rw [htt]⟩

theorem sameTanks_of_actuators (h : x.beyondActuators = s.beyondActuators) : s.SameTanks x :=
  sameTanks_of_tt (show x.beyondActuators.tt = s.beyondActuators.tt by rw [h])
    (show x.beyondActuators.told = s.beyondActuators.told by rw [h])
    (show x.beyondActuators.pmc = s.beyondActuators.pmc by rw [h])

theorem command_sameTanks (s : State) (v : Valve) (e : ValveEnd) : s.SameTanks (s.command v e) :=
  sameTanks_of_actuators (s.command_beyondActuators v e)

theorem begun_sameTanks (s : State) (c : Channel) (o : Order) (l : Leg) (m : Int) : s.SameTanks (s.begun c o l m) := by
  unfold begun
  refine SameTanks.trans (SameTanks.trans (sameTanks_of_tt ?_ ?_ ?_) (command_sameTanks _ _ _)) (command_sameTanks _ _ _)
  · rw [updChan_tt]
    rfl
  · rw [updChan_told]
    rfl
  · rw [updChan_pmc]
    rfl

theorem firstCause_none {α : Type} {cs : List (Bool × α)} (h : firstCause cs = none) : ∀ y ∈ cs, y.1 = false := by
  intro y hy
  have := List.find?_eq_none.mp (Option.map_eq_none_iff.mp h) y hy
  simpa using this

theorem mem_tanks {t : TankIx} : t ∈ l.tanks ↔ t = l.source ∨ l.destTank = some t := by
  unfold Leg.tanks Leg.destTank
  cases l.dest with
  | tank u => simp [eq_comm]
  | overboard => simp

/-- After checks that passed, the evaluation on entry finds nothing but a BALANCE leg that is complete (R129, R130). -/
theorem stopCause_begun (h : s.SameTanks x) (hcheck : s.startCheck c l = none) {l' : Leg}
    (hl : l'.source = l.source ∧ l'.dest = l.dest ∧ l'.condition = l.condition ∧ l'.volume = l.volume ∧ l'.moved = l.moved)
    (hsign : (x.chan c).signAtStart = some (MomentSign.of s.told.moment)) : x.stopCause c l' { trips := true } =
      if l.condition = .balance ∧ s.told.moment.natAbs ≤ s.tt.mHys then some (.result .complete) else none := by
  obtain ⟨hsource, hdest, hcond, hvolume, hmoved⟩ := hl
  have passed := firstCause_none hcheck
  simp only [List.forall_mem_cons, List.not_mem_nil, false_imp_iff, implies_true, and_true, Bool.or_eq_false_iff] at passed
  obtain ⟨⟨hfrom, hto⟩, ⟨hgauge, hgauges⟩, -, -, hll, hhh, hfill, hfull, -, -⟩ := passed
  have destTank : l'.destTank = l.destTank := by simp only [Leg.destTank, hdest]
  have tanks : l'.tanks = l.tanks := by simp only [Leg.tanks, hsource, hdest]
  have above (th : Threshold) : x.destAbove l' th = s.destAbove l th := by
    rw [h.destAbove]
    simp only [State.destAbove, hdest]
  have available : (x.unavailable l'.source (·.transferFrom) || l'.destTank.any (x.unavailable · (·.transferTo))) = false := by
    simp only [hsource, destTank, h.unavailable, hfrom, hto, Bool.or_self]
  have lost : l'.tanks.any (x.gaugeLost .te) = false := by
    have known : ∀ t, s.gaugeValid t = true → x.gaugeLost .te t = false := fun t ht => by
      have valid : s.toldGauge .te t = some .valid := of_decide_eq_true ht
      simp [State.gaugeLost, h.toldGauge, valid]
    rw [tanks]
    refine List.any_eq_false.mpr fun t ht => Bool.eq_false_iff.mp (known t ?_)
    rcases mem_tanks.mp ht with rfl | hd
    · simpa using hgauge
    · rw [hd] at hgauges
      simpa using hgauges
  have complete : x.legComplete (x.chan c) l' = decide (l.condition = .balance ∧ s.told.moment.natAbs ≤ s.tt.mHys) := by
    unfold State.legComplete
    rw [hcond, hvolume, hmoved, above, h.told, h.hys, hsign]
    cases hc : l.condition with
    | volume => simpa using hfull
    | fill => simpa [hc] using hfill
    | balance => simp
  have short : decide (l'.condition ≠ .volume ∧ l'.volume ≤ l'.moved) = false := by
    rw [hvolume, hmoved]
    exact decide_eq_false fun hc => of_decide_eq_false hfull hc.2
  have empty : decide ((x.tank l'.source).states.ll = .below) = false := by rw [hsource, h.states, hll]
  unfold State.stopCause
  simp only [firstCause_cons, available, lost, above, hhh, empty, complete, short, Bool.and_false, Bool.false_and, Bool.or_self,
    Bool.false_eq_true, if_false, decide_eq_true_eq]
  rfl

end State
end Sys2Proof.Machine
end

section
/-!
PROOF. What a channel makes of the order it takes, and the end of an arbitration that gives one order (R120 to R124) (O39).
-/
namespace Sys2Proof.Machine

theorem working_iff {m : Mode} : m.working = true ↔ m ∈ [Mode.run, .harbour, .commission] := by cases m <;> decide

namespace State

variable {s g x y : State} {c : Channel} {o : Order} {l : Leg}

/-! ### The run of an order that has been taken -/

/-- The leg that a channel runs as its run begins. -/
theorem begun_runLeg (hrun : (g.chan c).order = some (o.id, o.current)) (hleg : g.runLeg c = some l) (m : Int) :
    (g.begun c o l m).runLeg c = some { l with runs := min (l.runs + 1) 255, lastChannel := some c } := by
  have begun := runLeg_updLeg hrun hleg fun l => { l with runs := min (l.runs + 1) 255, lastChannel := some c }
  rw [runLeg_of_te (begun_te g c o l m)]
  exact (runLeg_updChan rfl).trans begun

theorem begun_chan (g : State) (c : Channel) (o : Order) (l : Leg) (m : Int) : (g.begun c o l m).chan c =
    { g.chan c with phase := some .liningUp, runFactor := some (g.chan c).meterFactor, runNoFlow := some (g.chan c).noFlowTime,
                    movedAtStart := l.moved, runPulses := 0, signAtStart := some (MomentSign.of m),
                    lined := some ⟨c.suction l.source, .none, l.delivery c, .none⟩ } := by
  rw [chan_of_te (begun_te g c o l m), updChan_chan_self, updLeg_chan]

/-- A run begins after checks that passed: a BALANCE leg that is complete already stops at once (R124, R129). -/
theorem beginRun_checked (hrun : (g.chan c).order = some (o.id, o.current)) (hleg : g.runLeg c = some l) (hsame : s.SameTanks g)
    (hcheck : s.startCheck c l = none) : g.beginRun c o.id o.current l =
      if l.condition = .balance ∧ s.told.moment.natAbs ≤ s.tt.mHys then
        (g.begun c o l s.told.moment).stopRun c (.result .complete)
      else g.begun c o l s.told.moment := by
  have running : ((g.begun c o l s.told.moment).chan c).running = true := by
    rw [begun_chan]
    rfl
  have cause := stopCause_begun (c := c) (hsame.trans (begun_sameTanks g c o l s.told.moment)) hcheck
    (l' := { l with runs := min (l.runs + 1) 255, lastChannel := some c }) ⟨rfl, rfl, rfl, rfl, rfl⟩ (by rw [begun_chan])
  rw [beginRun_eq, hsame.told]
  unfold State.evaluate
  rw [if_pos running, begun_runLeg hrun hleg]
  dsimp only
  rw [cause]
  by_cases hb : l.condition = .balance ∧ s.told.moment.natAbs ≤ s.tt.mHys
  · rw [if_pos hb, if_pos hb]
  · rw [if_neg hb, if_neg hb]

theorem taking_runLeg (h : s.order o.id = some o) (hl : o.leg = some l) : (s.taking c o l).runLeg c = some l := by
  simp only [State.runLeg, taking_chan, taking_order h, Option.bind_some]
  exact hl

/-! ### The order a channel takes (R120, R121) -/

theorem afterWeighing_sameTanks (s : State) (seen : Order → Bool) : s.SameTanks (s.afterWeighing seen) :=
  sameTanks_of_tt rfl rfl rfl

/-- An order that has been weighed and not held back is off the guard list (R121). -/
theorem afterWeighing_unlisted {seen : Order → Bool} (ho : o ∈ s.te.orders) (hseen : seen o = true) (hl : o.leg = some l)
    (hguard : s.guardHolds o.id l = false) : o.id ∉ (s.afterWeighing seen).te.guardList := by
  intro hlisted
  have kept := (List.mem_filter.mp hlisted).2
  have released : s.te.orders.any (fun x => seen x && decide (x.id = o.id) && x.leg.any fun l => !s.guardHolds x.id l) = true :=
    List.any_eq_true.mpr ⟨o, ho, by simp [hseen, hl, hguard]⟩
  rw [released] at kept
  cases kept

theorem tryGive_none (hidle : (s.chan c).state = .idle) (h : State.weigh c s.waiting s = (y, none)) :
    s.tryGive c = (y, false) := by
  unfold State.tryGive
  rw [if_pos hidle, h]

theorem tryGive_some (hidle : (s.chan c).state = .idle) (h : State.weigh c s.waiting s = (y, some (o, l))) :
    s.tryGive c = (y.give c o l, true) := by
  unfold State.tryGive
  rw [if_pos hidle, h]

/-- Without an order that waits there is nothing to give. -/
theorem tryGive_no_waiting (h : ∀ z ∈ s.te.orders, z.state ≠ .pending) (c : Channel) : s.tryGive c = (s, false) := by
  have empty : s.waiting = [] := List.eq_nil_iff_forall_not_mem.mpr fun z hz => h z (mem_waiting hz).1 (mem_waiting hz).2
  unfold State.tryGive
  split
  · rw [empty]
    rfl
  · rfl

/-- A pass offers TC1 and then TC2 an order, and another follows where either took one (R120). -/
theorem passes_succ {one two : State × Bool} (h1 : one = s.tryGive .tc1) (h2 : two = one.1.tryGive .tc2) (n : Nat) :
    State.passes (n + 1) s = if one.2 = true ∨ two.2 = true then State.passes n two.1 else two.1 := by
  rw [State.passes]
  dsimp only
  rw [← h1, ← h2]
  simp only [Bool.or_eq_true]

/-- An arbitration ends after one order where neither channel takes another (R120). -/
theorem arbitrate_one (hw : s.mode.working = true) (hclear : s.te.guardPassed = false) (hfirst : c = .tc1 ∨ s.tryGive .tc1 = (s, false))
    (hgive : s.tryGive c = (x, true)) (hbusy : x.tryGive c = (x, false)) (hother : x.tryGive c.other = (x, false)) (passed : Bool) :
    ({ s with te := { s.te with guardPassed := passed } } : State).arbitrate = x := by
  have cleared : ({ s with te := { s.te with guardPassed := false } } : State) = s := by rw [← hclear]
  have arbitration : ({ s with te := { s.te with guardPassed := passed } } : State).arbitrate =
      if s.mode.working then State.passes s.passBound { s with te := { s.te with guardPassed := false } }
      else { s with te := { s.te with guardPassed := false } } := rfl
  rw [arbitration, if_pos hw, cleared]
  show State.passes ((s.te.orders.map (·.legs.length)).sum + 2 + 1) s = x
  cases c with
  | tc1 =>
    rw [passes_succ hgive.symm (show _ = State.tryGive .tc2 x from hother.symm), if_pos (.inl rfl)]
    exact passes_done hbusy hother _
  | tc2 =>
    rw [passes_succ (hfirst.resolve_left (by decide)).symm hgive.symm, if_pos (.inr rfl)]
    exact passes_done hother hbusy _

section

variable (hstore : s.storeLaw) (ho : o ∈ s.te.orders) (hl : o.leg = some l) (heligible : s.eligibleLeg c o = true)
  {seen : Order → Bool} (hseen : seen o = true)
include hstore ho hl heligible hseen

/-- The state in which a channel makes the start checks of the order it takes. -/
theorem weighed_given : (s.afterWeighing seen).given c o l = ((s.afterWeighing seen).claimed l.tanks c).taking c o l := by
  have unheld : s.guardHolds o.id l = false := by
    rw [eligibleLeg_eq hl, Bool.and_eq_true, Bool.not_eq_true'] at heligible
    exact heligible.1
  exact given_eq (s := s.afterWeighing seen) (order_of_mem (s := s) hstore.2 ho) (afterWeighing_unlisted ho hseen hl unheld) c l

omit hstore ho hl heligible hseen in
theorem weighed_sameTanks (s : State) (seen : Order → Bool) (c : Channel) (o : Order) (l : Leg) :
    s.SameTanks (((s.afterWeighing seen).claimed l.tanks c).taking c o l) :=
  ((afterWeighing_sameTanks s seen).trans (claimed_sameTanks _ _ c)).trans (taking_sameTanks _ c o l)

theorem weighed_startCheck : ((s.afterWeighing seen).given c o l).startCheck c l = s.startCheck c l := by
  have au : (((s.afterWeighing seen).claimed l.tanks c).taking c o l).au = s.au :=
    (show _ = ((s.afterWeighing seen).claimed l.tanks c).au by cases c <;> rfl).trans (claimed_au _ _ _)
  rw [weighed_given hstore ho hl heligible hseen, (weighed_sameTanks s seen c o l).startCheck au]

/-- What a channel makes of an order that has been weighed and is eligible. -/
theorem give_weighed : (s.afterWeighing seen).give c o l = match s.startCheck c l with
    | some r => (((s.afterWeighing seen).claimed l.tanks c).taking c o l).legHandedOn c o r
    | none =>
      if l.condition = .balance ∧ s.told.moment.natAbs ≤ s.tt.mHys then
        ((((s.afterWeighing seen).claimed l.tanks c).taking c o l).begun c o l s.told.moment).stopRun c (.result .complete)
      else (((s.afterWeighing seen).claimed l.tanks c).taking c o l).begun c o l s.told.moment := by
  have claimedTe : ((s.afterWeighing seen).claimed l.tanks c).te = (s.afterWeighing seen).te :=
    foldl_same State.te (fun (s : State) t => s.updTank t fun r => { r with claim := some c }) (fun _ _ => rfl) _ _
  have found : ((s.afterWeighing seen).claimed l.tanks c).order o.id = some o :=
    (order_of_te claimedTe _).trans (order_of_mem (s := s) hstore.2 ho)
  rw [give_eq, weighed_startCheck hstore ho hl heligible hseen, weighed_given hstore ho hl heligible hseen]
  cases hcheck : s.startCheck c l with
  | some r => exact taking_closeRun (claimedTe ▸ hstore.2) found r
  | none => exact beginRun_checked (by rw [taking_chan]) (taking_runLeg found hl) (weighed_sameTanks s seen c o l) hcheck

/-- The channel that has taken the order is BUSY, the other is as it was, and the order waits no longer. -/
theorem give_weighed_assignment (hx : x = (s.afterWeighing seen).give c o l) (hcheck : s.startCheck c l = none) :
    (x.chan c).state = .busy ∧ (x.chan c.other).state = (s.chan c.other).state ∧
      ((∀ z ∈ s.te.orders, z.state = .pending → z.id = o.id) → ∀ z ∈ x.te.orders, z.state ≠ .pending) := by
  have run : x.assignment = ((s.afterWeighing seen).given c o l).assignment := by
    rw [hx, give_eq, weighed_startCheck hstore ho hl heligible hseen, hcheck]
    exact beginRun_assignment _ c o.id o.current l
  obtain ⟨places, hold⟩ := assignment_eq_iff.mp run
  obtain ⟨orders, given, other⟩ := (s.afterWeighing seen).given_gives c o l
  refine ⟨(hold_eq_iff.mp ((hold c).trans given)).1, ?_, fun honly z hz hwaits => ?_⟩
  · have unweighed : (s.afterWeighing seen).chan c.other = s.chan c.other := by cases c <;> rfl
    rw [(hold_eq ((hold c.other).trans other)).1, unweighed]
  · have place : z.place ∈ ((s.afterWeighing seen).given c o l).places := places ▸ List.mem_map_of_mem hz
    rw [orders] at place
    obtain ⟨p, hp, hsame⟩ := List.mem_map.mp place
    obtain ⟨w, hw, rfl⟩ := List.mem_map.mp (show p ∈ s.te.orders.map Order.place from hp)
    have waits : (if w.place.id = o.id then { w.place with state := .active, channel := some c } else w.place : Order).state =
        .pending := by rw [hsame]; exact hwaits
    split at waits
    · cases waits
    · next hother => exact hother (honly w hw waits)

end

end State
end Sys2Proof.Machine
end

section
open Sys2Proof Sys2Proof.Machine

/-- Settles O39: the list of R120 is weighed up to the first eligible order, and that order is checked and begun. -/
theorem theArbiterGivesTheFirstEligibleOrder : Obligations.TheArbiterGivesTheFirstEligibleOrder := by
  refine ⟨fun s c hstore hpriority hidle => ⟨fun hnone => ?_, fun o ho hst heligible hfirst l hl y hy g hg => ?_⟩,
    fun s id l => ⟨s.guardHolds_iff id l, fun d hd => State.effect_eq hd⟩, fun s c l => s.startCheck_eq c l,
    fun s x hx => ⟨fun hm => ?_, fun hm => ?_, fun one two h1 h2 n => State.passes_succ h1 h2 n⟩⟩
  · exact State.tryGive_none hidle (State.weigh_waiting_none hstore hpriority hnone)
  · have hseen : decide (s.weighedBefore o o ∨ o.id = o.id) = true := decide_eq_true (.inr rfl)
    have weighed := State.weigh_waiting_first hstore hpriority ho hst heligible hfirst hl
    have gave := State.tryGive_some hidle weighed
    have given := State.give_weighed (seen := fun x => decide (s.weighedBefore o x ∨ x.id = o.id)) hstore ho hl heligible hseen
    have taken : g = ((s.afterWeighing fun x => decide (s.weighedBefore o x ∨ x.id = o.id)).claimed l.tanks c).taking c o l := by
      rw [hg, hy]
      rfl
    rw [← taken] at given
    refine ⟨fun r hcheck => ?_, fun hcheck b hb x hx => ?_⟩
    · rw [gave, given, hcheck]
    · have begun : b = g.begun c o l s.told.moment := hb
      rw [hcheck] at given
      dsimp only at given
      rw [← begun, ← hx] at given
      have gaveX : s.tryGive c = (x, true) := by rw [gave, given]
      refine ⟨gaveX, fun hw hclear hlast passed => ?_⟩
      obtain ⟨hbusy, hsame, hwaits⟩ := State.give_weighed_assignment hstore ho hl heligible hseen given.symm hcheck
      have busy : x.tryGive c = (x, false) := State.tryGive_not_idle (by rw [hbusy]; decide)
      have other : x.tryGive c.other = (x, false) := by
        rcases hlast with hother | ⟨-, honly⟩
        · exact State.tryGive_not_idle (by rw [hsame]; exact hother)
        · exact State.tryGive_no_waiting (hwaits honly) c.other
      refine State.arbitrate_one hw hclear ?_ gaveX busy other passed
      cases c with
      | tc1 => exact .inl rfl
      | tc2 =>
        rcases hlast with hother | ⟨hc, -⟩
        · exact .inr (State.tryGive_not_idle hother)
        · cases hc
  · rw [hx]
    exact if_neg fun hw => hm (working_iff.mp hw)
  · rw [hx]
    exact if_pos (working_iff.mpr hm)
end
